-- ==== Sys2Proof/Word.lean ====
section
/-! DEFINITION. The numbers and words of the PJ6240: octets, station addresses, and the numbered members of the part
(00_scope.md, Units and conventions). Slot n, bay n, fan n and zone n are the index n - 1; channels and classes keep
their numbers. -/

namespace Sys2Proof

abbrev Byte := BitVec 8
abbrev Word16 := BitVec 16
abbrev Word32 := BitVec 32
/-- Octets in the order in which they are sent. -/
abbrev Octets := List Byte
/-- A station address of six octets, the first octet most significant. -/
abbrev Station := BitVec 48
abbrev Slot := Fin 16
abbrev Bay := Fin 6
abbrev Fan := Fin 6
abbrev Zone := Fin 4
abbrev Channel := Fin 8
/-- One of the four transmit priorities of an uplink; class 0 is the highest. -/
abbrev Cls := Fin 4
/-- A set of slots as the member set of R181: bit 0 for slot 1 to bit 15 for slot 16. -/
abbrev SlotSet := BitVec 16

/-- The two enclosure links. -/
inductive Uplink where
  | A
  | B
  deriving DecidableEq, Repr

/-- The eighteen links: the sixteen slot links and the two uplinks (R129). -/
inductive Port where
  | slot (i : Slot)
  | uplink (u : Uplink)
  deriving DecidableEq, Repr

/-- The two lines of a supply bay (R34). -/
inductive BayLine where
  | present
  | outputGood
  deriving DecidableEq, Repr

end Sys2Proof
end

