-- ==== Sys2Proof/Config.lean ====
section
/-! DEFINITION. What the part fixes as constants, and the free values: constants without a body for values that the
spec does not state (log 5, log 11). Nothing can be proved of a free value but what holds of every value. -/

namespace Sys2Proof

/-- Cells of the frame pool (R147, R148). -/
abbrev Config.poolCells : Nat := 512

/-- Octets of one cell (R148). -/
abbrev Config.cellOctets : Nat := 128

/-- The controller group address (R133). -/
abbrev Config.groupAddress : Station := 0x07E56A000001#48

/-- The destination of a pause frame (R175). -/
abbrev Config.pauseAddress : Station := 0x0180C2000001#48

/-- The type of a flow-control frame (R131). -/
abbrev Config.flowControlType : Word16 := 0x8808#16

/-- FREE VALUE (log 5): the CRC that the part computes over the octets of a frame when it sends it. The spec does not
give the polynomial. -/
opaque Config.crc : Octets → Word32

/-- FREE VALUE (log 11): how a fan speed above 65535 rpm stands in the two octets of a READ_FANS response. -/
opaque Config.speedField : Nat → Word16

end Sys2Proof
end

