-- ==== Sys2Proof/Syntax.lean ====
section
/-! DEFINITION. The commands of the block: one constructor per row of spec/opcode_table.json, with the operands that
the row's event brings from outside. A frame row carries the frame's own fields; the machine composes its octets by
chapter 11 and reads them back by the arrival rules (log 6). -/

namespace Sys2Proof

/-- An outer tag: the type that opens it and the two octets of tag control (R132, R173). -/
structure Tag where
  tagType : Word16
  control : Word16
  deriving DecidableEq, Repr

/-- What the link reports of a received frame: its octets from the destination address to the last octet before the
CRC, the four CRC octets, and whether they match (R130, log 5). -/
structure Reception where
  octets : Octets
  fcs : Word32
  crcMatches : Bool
  deriving DecidableEq, Repr

/-- The parts of a received control frame around its body (R173, R176): the padding follows the body (R174). -/
structure Envelope where
  destination : Station
  source : Station
  tag : Option Tag
  frameType : Word16
  sequence : Word16
  padding : Octets
  fcs : Word32
  crcMatches : Bool
  deriving DecidableEq, Repr

/-- The body of an ANNOUNCE (R178). -/
structure AnnounceBody where
  bladeType : Word16
  serial : Vector Byte 16
  firmware : Word16
  requested : Word16
  floor : Word16
  addresses : List Station
  deriving DecidableEq, Repr

/-- One item of a TELEMETRY: a sensor index and a signed temperature (R178). -/
structure TelemetryItem where
  sensor : Byte
  reading : Byte
  deriving DecidableEq, Repr

/-- One field item of a COMMAND or RESPONSE body (R180, R182). -/
structure Item where
  field : Byte
  value : Octets
  deriving DecidableEq, Repr

/-- A flow-control frame: type 0x8808 at octets 12 and 13, opcode at 14, quanta at 16 (R175). -/
structure FlowFrame where
  destination : Station
  source : Station
  opcode : Word16
  quanta : Word16
  rest : Octets
  fcs : Word32
  crcMatches : Bool
  deriving DecidableEq, Repr

/-- The commands, in the order of spec/opcode_table.json. -/
inductive Instr where
  | chassisReset (straps : Byte)
  | presenceLineChange (i : Slot) (level : Bool)
  | presenceFilterExpiry (i : Slot)
  | announceWindowExpiry (i : Slot)
  | announce (i : Slot) (e : Envelope) (body : AnnounceBody)
  | telemetry (i : Slot) (e : Envelope) (readings : List TelemetryItem)
  | capAck (i : Slot) (e : Envelope)
  | shutdownAck (i : Slot) (e : Envelope)
  | flowControlFrame (p : Port) (f : FlowFrame)
  | upstreamFrame (i : Slot) (rx : Reception)
  | downstreamFrame (u : Uplink) (rx : Reception)
  | uplinkTransmissionComplete (u : Uplink)
  | slotTransmissionComplete (i : Slot)
  | transmitHoldEnd (u : Uplink)
  | pauseRefreshExpiry (i : Slot)
  | uplinkLinkFall (u : Uplink)
  | uplinkLinkRise (u : Uplink)
  | bayLineChange (b : Bay) (line : BayLine) (level : Bool)
  | bayLineFilterExpiry (b : Bay) (line : BayLine)
  | capAckTimerExpiry (i : Slot)
  | powerGoodLineChange (i : Slot) (level : Bool)
  | powerGoodFilterExpiry (i : Slot)
  | powerGoodTimerExpiry (i : Slot)
  | resetHoldExpiry (i : Slot)
  | shutdownTimerExpiry (i : Slot)
  | staleTimerExpiry (i : Slot)
  | periodTimerExpiry
  | startDelayEnd
  | conversionComplete (code : Byte)
  | rampExpiry (f : Fan)
  | spinUpExpiry (f : Fan)
  | tachPulse (f : Fan)
  | tachGateExpiry
  | unknownCommand (u : Uplink) (e : Envelope) (code : Word16) (items : List Item)
  | readSlot (u : Uplink) (e : Envelope) (items : List Item)
  | readInventory (u : Uplink) (e : Envelope) (items : List Item)
  | readPower (u : Uplink) (e : Envelope) (items : List Item)
  | readThermal (u : Uplink) (e : Envelope) (items : List Item)
  | readFans (u : Uplink) (e : Envelope) (items : List Item)
  | readQueues (u : Uplink) (e : Envelope) (items : List Item)
  | readCounters (u : Uplink) (e : Envelope) (items : List Item)
  | readAlerts (u : Uplink) (e : Envelope) (items : List Item)
  | readTable (u : Uplink) (e : Envelope) (items : List Item)
  | setSlot (u : Uplink) (e : Envelope) (items : List Item)
  | setSupply (u : Uplink) (e : Envelope) (items : List Item)
  | setTiming (u : Uplink) (e : Envelope) (items : List Item)
  | setZone (u : Uplink) (e : Envelope) (items : List Item)
  | setFan (u : Uplink) (e : Envelope) (items : List Item)
  | setFanCurve (u : Uplink) (e : Envelope) (items : List Item)
  | setFanDuty (u : Uplink) (e : Envelope) (items : List Item)
  | setChannel (u : Uplink) (e : Envelope) (items : List Item)
  | setSweep (u : Uplink) (e : Envelope) (items : List Item)
  | setUplink (u : Uplink) (e : Envelope) (items : List Item)
  | setQueue (u : Uplink) (e : Envelope) (items : List Item)
  | setClassMap (u : Uplink) (e : Envelope) (items : List Item)
  | loadSegment (u : Uplink) (e : Envelope) (items : List Item)
  | deleteSegment (u : Uplink) (e : Envelope) (items : List Item)
  | loadAdmission (u : Uplink) (e : Envelope) (items : List Item)
  | deleteAdmission (u : Uplink) (e : Envelope) (items : List Item)
  | startSweep (u : Uplink) (e : Envelope) (items : List Item)
  | stopSweep (u : Uplink) (e : Envelope) (items : List Item)
  | slotPowerOn (u : Uplink) (e : Envelope) (items : List Item)
  | slotPowerOff (u : Uplink) (e : Envelope) (items : List Item)
  | slotKill (u : Uplink) (e : Envelope) (items : List Item)
  | slotAdmit (u : Uplink) (e : Envelope) (items : List Item)
  | slotRelease (u : Uplink) (e : Envelope) (items : List Item)
  | inject (u : Uplink) (e : Envelope) (items : List Item)
  | clearAlerts (u : Uplink) (e : Envelope) (items : List Item)
  | clearCounters (u : Uplink) (e : Envelope) (items : List Item)
  | restart (u : Uplink) (e : Envelope) (items : List Item)
  | malformedControlFrame (p : Port) (rx : Reception)
  deriving DecidableEq, Repr

end Sys2Proof
end

