-- ==== Sys2Proof/Machine/State.lean ====
section
/-! DEFINITION. The state of the part as plain data: every item that a rule of spec/ gives a block, its value after
chassis reset (the "After chassis reset" columns of R1, R21, R33, R47, R74, R91, R95, R101 to R105, R109, R110, R129,
R147, R163), the levels of the input lines, and the queue of commands that wait. Log 1 and log 2 name the reset values
that the spec leaves to the outside. -/

namespace Sys2Proof.Machine

/-- A timer or filter window: stopped (idle), or running with the length it was started with. Lengths are in
milliseconds, for transmit holds in nanoseconds (log 3). -/
inductive Timer where
  | stopped
  | running (length : Nat)
  deriving DecidableEq, Repr

/-! ### The slot record (chapters 1, 2, 4, 5, 6, 9) -/

/-- The twelve slot states, in the order of the state table of chapter 1. -/
inductive SlotState where
  | empty | standbyWait | announceWait | unidentified | denied | standby | powerWait | powering | online | capped
  | shuttingDown | fault
  deriving DecidableEq, Repr

inductive Policy where
  | auto | manual
  deriving DecidableEq, Repr

/-- The part of the slot record that the Slot Admission Unit holds (R1), with the level of the presence line. -/
structure AdmissionPart where
  state : SlotState
  presenceLine : Bool
  filtered : Bool
  window : Timer
  announceWindow : Timer
  policy : Policy
  priority : Fin 4
  zone : Zone
  segment : Option Nat
  cls : Cls
  quanta : Nat
  deriving DecidableEq, Repr

structure Identity where
  bladeType : Word16
  serial : Vector Byte 16
  firmware : Word16
  deriving DecidableEq, Repr

/-- A requested power with its floor, in watts (R8, R21). -/
structure PowerPair where
  requested : Nat
  floor : Nat
  deriving DecidableEq, Repr

/-- The status of an announced address (R21). -/
inductive AddressStatus where
  | entered | conflict | invalid | released
  deriving DecidableEq, Repr

structure AddressEntry where
  address : Station
  status : AddressStatus
  deriving DecidableEq, Repr

inductive AdmissionOutcome where
  | none | allowed | denied
  deriving DecidableEq, Repr

/-- The inventory record of a slot (R21). -/
structure InventoryRecord where
  present : Bool
  announced : Bool
  identity : Option Identity
  announcedPair : Option PowerPair
  effectivePair : Option PowerPair
  clamped : Bool
  addresses : List AddressEntry
  conflict : Bool
  insertions : Nat
  lastOutcome : AdmissionOutcome
  deriving DecidableEq, Repr

/-- The part of the slot record that the Budget Arbiter holds (R47). -/
structure BudgetPart where
  standbyW : Nat
  mainW : Nat
  grantW : Nat
  capped : Bool
  capSeq : Word16
  capAck : Timer
  deriving DecidableEq, Repr

/-- The sequence sub-stage of a slot (R74). -/
inductive Stage where
  | none | railUp | resetHold
  deriving DecidableEq, Repr

/-- The two forms of SLOT_POWER_OFF, which are also the shutdown reasons (R85). -/
inductive ShutdownForm where
  | off | eject
  deriving DecidableEq, Repr

/-- The part of the slot record that the Rail Sequencer holds (R74), with the level of the power-good line. -/
structure RailPart where
  standbyRail : Bool
  mainRail : Bool
  resetAsserted : Bool
  stage : Stage
  powerGoodLine : Bool
  powerGood : Bool
  powerGoodWindow : Timer
  powerGoodTimer : Timer
  resetHold : Timer
  shutdown : Timer
  reason : Option ShutdownForm
  deriving DecidableEq, Repr

/-- The part of the slot record that the Sensor Unit holds (R91): a reading is `none` for "no reading". -/
structure TelemetryPart where
  readings : Vector (Option Int) 8
  stale : Bool
  staleTimer : Timer
  deriving DecidableEq, Repr

/-- A frame that the part holds: its octets from the destination address to the last octet before the CRC, and its
CRC where the frame has one already (a received frame keeps its own; one that the part builds gets it when it is sent,
R145, log 5). -/
structure Frame where
  octets : Octets
  fcs : Option Word32
  deriving DecidableEq, Repr

/-- The kinds of frame on a control list (R158). -/
inductive ControlKind where
  | admitResult | cap | uncap | shutdownReq
  deriving DecidableEq, Repr

/-- A frame waiting on a control list: its kind and its octets as built at the offer (R179, log 9). -/
structure ControlFrame where
  kind : ControlKind
  octets : Octets
  deriving DecidableEq, Repr

/-- The power-frame marker when it is not none (R147). -/
inductive Marker where
  | cap | uncap
  deriving DecidableEq, Repr

/-- A frame in flight on a slot link: whether it came from the egress queue, and so still holds cells (R152), and how
long its transmission takes in nanoseconds (R150). -/
structure SlotFlight where
  frame : Frame
  fromEgress : Bool
  duration : Nat
  deriving DecidableEq, Repr

/-- The part of the slot record that the Queue Manager holds (R147). The entries are the frames not in flight. -/
structure QueuePart where
  egress : List Frame
  egressLimit : Nat
  control : List ControlFrame
  marker : Option Marker
  backpressure : Bool
  refresh : Timer
  pendingPause : Option Nat
  flight : Option SlotFlight
  deriving DecidableEq, Repr

/-- The slot record of chapter 1: the parts of the five blocks and the inventory record. -/
structure SlotRecord where
  adm : AdmissionPart
  inv : InventoryRecord
  bud : BudgetPart
  rail : RailPart
  tel : TelemetryPart
  que : QueuePart
  deriving DecidableEq, Repr

/-! ### Chassis settings and tables -/

/-- The settings that SET_TIMING writes (R166), each in the unit of the command: ms, or s where named so. -/
structure Timing where
  presenceFilter : Nat
  announceWindowS : Nat
  bayFilter : Nat
  capAckS : Nat
  powerGoodFilter : Nat
  powerGoodTimeout : Nat
  resetHold : Nat
  shutdownS : Nat
  staleS : Nat
  deriving DecidableEq, Repr

inductive AdmissionAction where
  | allow | deny
  deriving DecidableEq, Repr

/-- What an admission entry or the default record says: a maximum of 0 is no clamp, a priority of `none` is keep (R9). -/
structure AdmissionRule where
  action : AdmissionAction
  maximum : Nat
  priority : Option (Fin 4)
  deriving DecidableEq, Repr

structure AdmissionEntry where
  bladeType : Word16
  rule : AdmissionRule
  deriving DecidableEq, Repr

/-- An entry of the station table (R25). -/
structure StationEntry where
  address : Station
  owner : Slot
  deriving DecidableEq, Repr

/-! ### Supply and budget (chapters 3, 4) -/

/-- A supply bay: its two lines, their filtered levels and windows, and its rating (R33). -/
structure BayRecord where
  presentLine : Bool
  goodLine : Bool
  present : Bool
  good : Bool
  presentWindow : Timer
  goodWindow : Timer
  rating : Nat
  deriving DecidableEq, Repr

inductive Redundancy where
  | none | n1 | grid
  deriving DecidableEq, Repr

structure Supply where
  policy : Redundancy
  ceiling : Nat
  raw : Nat
  capacity : Nat
  brownout : Bool
  deriving DecidableEq, Repr

inductive RequestKind where
  | standby | main
  deriving DecidableEq, Repr

/-- A request entry of the grant queue with its shortage mark (R51). -/
structure Request where
  slot : Slot
  kind : RequestKind
  short : Bool
  deriving DecidableEq, Repr

structure Budget where
  queue : List Request
  laneCount : Nat
  lanesInUse : Nat
  allowance : Nat
  margin : Nat
  deriving DecidableEq, Repr

/-! ### Sensors and fans (chapters 6, 7) -/

inductive SweepMode where
  | single | repeating
  deriving DecidableEq, Repr

inductive TriggerSelect where
  | command | period | change
  deriving DecidableEq, Repr

/-- The four sweep settings; bit k of the mask is channel k (R95, R181). -/
structure SweepSettings where
  mode : SweepMode
  mask : BitVec 8
  select : TriggerSelect
  period : Nat
  deriving DecidableEq, Repr

inductive Engine where
  | idle | starting | converting (c : Channel)
  deriving DecidableEq, Repr

structure Sweep where
  engine : Engine
  current : SweepSettings
  staged : Option SweepSettings
  periodTimer : Timer
  missed : Word32
  deriving DecidableEq, Repr

/-- A local channel: a result of `none` is "no result" (R95, R101, R103). -/
structure ChannelRecord where
  result : Option Int
  high : Int
  low : Int
  zone : Option Zone
  deriving DecidableEq, Repr

/-- A thermal zone: its temperature and its settings (R102, R104). -/
structure ZoneRecord where
  temp : Int
  low : Int
  range : Int
  limit : Int
  substitute : Int
  deriving DecidableEq, Repr

structure Thermal where
  overrideOn : Bool
  hysteresis : Int
  deriving DecidableEq, Repr

inductive FanMode where
  | zone | hottest | full | off | manual
  deriving DecidableEq, Repr

inductive BelowLimit where
  | stop | min
  deriving DecidableEq, Repr

/-- The powers of a fan at duty 0, 64, 128, 192 and 255 (R109). -/
structure Curve where
  p0 : Nat
  p1 : Nat
  p2 : Nat
  p3 : Nat
  p4 : Nat
  deriving DecidableEq, Repr

/-- A fan: its settings (R109) and its running state (R110). Bit k of the zone set is zone k + 1. -/
structure FanRecord where
  mode : FanMode
  zoneSel : Zone
  zoneSet : BitVec 4
  manual : Nat
  below : BelowLimit
  minDuty : Nat
  rampOn : Bool
  rampN : Nat
  spinOn : Bool
  spinN : Nat
  minSpeed : Nat
  pulsesPerRev : Nat
  curve : Curve
  target : Nat
  actual : Nat
  spin : Timer
  ramp : Timer
  pulses : Nat
  speed : Option Nat
  power : Nat
  deriving DecidableEq, Repr

/-! ### Forwarding, queues and management (chapters 8, 9, 10) -/

inductive UplinkSelect where
  | a | b | pairA | pairB
  deriving DecidableEq, Repr

inductive SegmentAction where
  | forward | drop | trap
  deriving DecidableEq, Repr

/-- An entry of the segment table (R142). -/
structure Segment where
  tagId : Nat
  members : SlotSet
  select : UplinkSelect
  action : SegmentAction
  strict : Bool
  override : Option Cls
  deriving DecidableEq, Repr

structure Forwarding where
  segments : List Segment
  classMap : Vector Cls 8
  maxLength : Nat
  tagType : Word16
  controlType : Word16
  straps : Byte
  deriving DecidableEq, Repr

/-- The drop reasons, in the order of R171. -/
inductive DropReason where
  | notOnline | noSegment | segDrop | notMember | source | wrongUplink | linkDown | queueFull | tooLong | malformed
  | trapFull | respDrop
  deriving DecidableEq, Repr

/-- The counters of one port: received frames, and drops in the order of `DropReason` (R129, R171). -/
structure PortCounters where
  received : Word32
  drops : Vector Word32 12
  deriving DecidableEq, Repr

/-- An entry of an uplink class queue: the frame and its source slot or none (R147). -/
structure QueueEntry where
  frame : Frame
  source : Option Slot
  deriving DecidableEq, Repr

structure Watermarks where
  high : Nat
  low : Nat
  deriving DecidableEq, Repr

/-- An uplink class queue. The entries are the frames not in flight (R147). -/
structure ClassQueue where
  entries : List QueueEntry
  limit : Nat
  marks : Watermarks
  staged : Option Watermarks
  congested : Bool
  held : SlotSet
  deriving DecidableEq, Repr

/-- A frame in flight on an uplink: the class queue it heads, and how long its transmission takes in ns (R150). -/
structure UplinkFlight where
  cls : Cls
  entry : QueueEntry
  duration : Nat
  deriving DecidableEq, Repr

structure UplinkRecord where
  management : Bool
  segment : Option Nat
  linkUp : Bool
  hold : Timer
  flight : Option UplinkFlight
  queues : Vector ClassQueue 4
  deriving DecidableEq, Repr

/-- A trapped frame with its arrival port (R147, R157). -/
structure TrapEntry where
  frame : Frame
  port : Port
  deriving DecidableEq, Repr

/-- The fourteen alert kinds, in the order of the kind table of R163. -/
inductive AlertKind where
  | insert | remove | fault | attention | capTimeout | shutdownTimeout | addrConflict | budgetShort | shed | brownout
  | supplyChange | override | localLimit | stall
  deriving DecidableEq, Repr

/-- An alert entry. The index is the slot 1-16, the fan 1-6, the channel 0-7, or 0 for the chassis (R163). -/
structure Alert where
  kind : AlertKind
  index : Nat
  deriving DecidableEq, Repr

/-- The Command Processor's items (R163). The alert set is kept in the order in which R168 lists it. -/
structure Management where
  destination : Option (Station × Uplink)
  alerts : List Alert
  notice : Word16
  deriving DecidableEq, Repr

/-! ### The whole state -/

structure State where
  slots : Vector SlotRecord 16
  timing : Timing
  admissionTable : List AdmissionEntry
  admissionDefault : AdmissionRule
  stations : List StationEntry
  bays : Vector BayRecord 6
  supply : Supply
  budget : Budget
  sweep : Sweep
  channels : Vector ChannelRecord 8
  zones : Vector ZoneRecord 4
  thermal : Thermal
  fans : Vector FanRecord 6
  fanReservation : Nat
  tachGate : Timer
  fwd : Forwarding
  counters : Vector PortCounters 18
  uplinkA : UplinkRecord
  uplinkB : UplinkRecord
  freeCells : Nat
  trapQueue : List TrapEntry
  mgmt : Management
  pending : List Instr
  deriving DecidableEq, Repr

/-- The part has no condition in which it stops: it answers bad input with a drop counter, a RESPONSE status or no
effect (R130, R166). So no command raises a fault, and there is none to raise (log 17). -/
inductive Fault
  deriving DecidableEq, Repr

inductive Refusal where
  /-- Raised by `exec` alone, for a command that has no meaning yet; no command of this model is such a one. Safe. -/
  | notModelled (mnemonic : String)
  deriving DecidableEq, Repr

/-! ### Chassis reset values -/

/-- The slot record of slot i + 1 after chassis reset, in zone z. -/
def SlotRecord.reset (z : Zone) : SlotRecord where
  adm :=
    { state := .empty, presenceLine := false, filtered := false, window := .stopped, announceWindow := .stopped,
      policy := .auto, priority := 2, zone := z, segment := none, cls := 3, quanta := 4096 }
  inv :=
    { present := false, announced := false, identity := none, announcedPair := none, effectivePair := none,
      clamped := false, addresses := [], conflict := false, insertions := 0, lastOutcome := .none }
  bud := { standbyW := 0, mainW := 0, grantW := 0, capped := false, capSeq := 0, capAck := .stopped }
  rail :=
    { standbyRail := false, mainRail := false, resetAsserted := true, stage := .none, powerGoodLine := false,
      powerGood := false, powerGoodWindow := .stopped, powerGoodTimer := .stopped, resetHold := .stopped,
      shutdown := .stopped, reason := none }
  tel := { readings := Vector.replicate 8 none, stale := false, staleTimer := .stopped }
  que :=
    { egress := [], egressLimit := 32, control := [], marker := none, backpressure := false, refresh := .stopped,
      pendingPause := none, flight := none }

def BayRecord.reset : BayRecord where
  presentLine := false
  goodLine := false
  present := false
  good := false
  presentWindow := .stopped
  goodWindow := .stopped
  rating := 1000

def ZoneRecord.reset : ZoneRecord where
  temp := 80
  low := 35
  range := 20
  limit := 70
  substitute := 80

def FanRecord.reset : FanRecord where
  mode := .full
  zoneSel := 0
  zoneSet := 0xF#4
  manual := 0
  below := .min
  minDuty := 76
  rampOn := true
  rampN := 9
  spinOn := true
  spinN := 20
  minSpeed := 600
  pulsesPerRev := 2
  curve := { p0 := 0, p1 := 3, p2 := 9, p3 := 20, p4 := 36 }
  target := 255
  actual := 255
  spin := .stopped
  ramp := .stopped
  pulses := 0
  speed := none
  power := 36

def ClassQueue.reset : ClassQueue where
  entries := []
  limit := 128
  marks := { high := 64, low := 32 }
  staged := none
  congested := false
  held := 0

def UplinkRecord.reset (management : Bool) : UplinkRecord where
  management := management
  segment := none
  linkUp := false
  hold := .stopped
  flight := none
  queues := Vector.replicate 4 ClassQueue.reset

def PortCounters.reset : PortCounters where
  received := 0
  drops := Vector.replicate 12 0

/-- The machine right after chassis reset at power-up: every field at the spec's value, every input line low, both
uplinks down and the straps 00 (log 1, log 2). The zones stand at their substitute, so the override is on and its
alert is in the set (R104, R105, R163). -/
def State.reset : State where
  slots := Vector.ofFn fun i =>
    SlotRecord.reset (if i.val < 4 then 0 else if i.val < 8 then 1 else if i.val < 12 then 2 else 3)
  timing :=
    { presenceFilter := 100, announceWindowS := 30, bayFilter := 100, capAckS := 5, powerGoodFilter := 100,
      powerGoodTimeout := 500, resetHold := 200, shutdownS := 120, staleS := 10 }
  admissionTable := []
  admissionDefault := { action := .allow, maximum := 0, priority := none }
  stations := []
  bays := Vector.replicate 6 BayRecord.reset
  supply := { policy := .n1, ceiling := 60000, raw := 0, capacity := 0, brownout := false }
  budget := { queue := [], laneCount := 1, lanesInUse := 0, allowance := 20, margin := 100 }
  sweep :=
    { engine := .idle, current := { mode := .repeating, mask := 0xFF#8, select := .period, period := 1000 },
      staged := none, periodTimer := .running 1000, missed := 0 }
  channels := Vector.ofFn fun c =>
    if c.val < 4 then { result := none, high := 127, low := -128, zone := some (Fin.ofNat 4 c.val) }
    else { result := none, high := 255, low := 0, zone := none }
  zones := Vector.replicate 4 ZoneRecord.reset
  thermal := { overrideOn := true, hysteresis := 5 }
  fans := Vector.replicate 6 FanRecord.reset
  fanReservation := 216
  tachGate := .running 500
  fwd :=
    { segments := [], classMap := #v[3, 3, 2, 2, 1, 1, 0, 0], maxLength := 1522, tagType := 0x8100#16,
      controlType := 0x88B6#16, straps := 0 }
  counters := Vector.replicate 18 PortCounters.reset
  uplinkA := UplinkRecord.reset true
  uplinkB := UplinkRecord.reset false
  freeCells := Config.poolCells
  trapQueue := []
  mgmt := { destination := none, alerts := [{ kind := .override, index := 0 }], notice := 0 }
  pending := []

end Sys2Proof.Machine
end

