-- ==== Sys2Proof/Machine/Ops.lean ====
section
/-! DEFINITION. Named reads and updates of the state's parts, the numbered members in order, timers, filters and the
clamps of settings that several blocks share. -/

namespace Sys2Proof.Machine

/-! ### Members in ascending order -/

def allSlots : List Slot := [0, 1, 2, 3, 4, 5, 6, 7, 8, 9, 10, 11, 12, 13, 14, 15]
def allBays : List Bay := [0, 1, 2, 3, 4, 5]
def allFans : List Fan := [0, 1, 2, 3, 4, 5]
def allZones : List Zone := [0, 1, 2, 3]
def allChannels : List Channel := [0, 1, 2, 3, 4, 5, 6, 7]
def allClasses : List Cls := [0, 1, 2, 3]
def allUplinks : List Uplink := [.A, .B]

/-- The eighteen ports in port order: slots 1 to 16, uplink A, uplink B (R171). -/
def allPorts : List Port := allSlots.map .slot ++ allUplinks.map .uplink

def portIndex : Port → Fin 18
  | .slot i => i.castLE (by decide)
  | .uplink .A => 16
  | .uplink .B => 17

/-! ### Slot records -/

def State.slot (s : State) (i : Slot) : SlotRecord := s.slots[i]

def State.modSlot (s : State) (i : Slot) (f : SlotRecord → SlotRecord) : State :=
  { s with slots := s.slots.set i (f s.slots[i]) }

def State.modAdm (s : State) (i : Slot) (f : AdmissionPart → AdmissionPart) : State :=
  s.modSlot i fun r => { r with adm := f r.adm }

def State.modInv (s : State) (i : Slot) (f : InventoryRecord → InventoryRecord) : State :=
  s.modSlot i fun r => { r with inv := f r.inv }

def State.modBud (s : State) (i : Slot) (f : BudgetPart → BudgetPart) : State :=
  s.modSlot i fun r => { r with bud := f r.bud }

def State.modRail (s : State) (i : Slot) (f : RailPart → RailPart) : State :=
  s.modSlot i fun r => { r with rail := f r.rail }

def State.modTel (s : State) (i : Slot) (f : TelemetryPart → TelemetryPart) : State :=
  s.modSlot i fun r => { r with tel := f r.tel }

def State.modQue (s : State) (i : Slot) (f : QueuePart → QueuePart) : State :=
  s.modSlot i fun r => { r with que := f r.que }

/-! ### Other numbered members -/

def State.modBay (s : State) (b : Bay) (f : BayRecord → BayRecord) : State :=
  { s with bays := s.bays.set b (f s.bays[b]) }

def State.modZone (s : State) (z : Zone) (f : ZoneRecord → ZoneRecord) : State :=
  { s with zones := s.zones.set z (f s.zones[z]) }

def State.modChannel (s : State) (c : Channel) (f : ChannelRecord → ChannelRecord) : State :=
  { s with channels := s.channels.set c (f s.channels[c]) }

def State.modFan (s : State) (f : Fan) (g : FanRecord → FanRecord) : State :=
  { s with fans := s.fans.set f (g s.fans[f]) }

def State.uplink (s : State) : Uplink → UplinkRecord
  | .A => s.uplinkA
  | .B => s.uplinkB

def State.modUplink (s : State) (u : Uplink) (f : UplinkRecord → UplinkRecord) : State :=
  match u with
  | .A => { s with uplinkA := f s.uplinkA }
  | .B => { s with uplinkB := f s.uplinkB }

def State.modClass (s : State) (u : Uplink) (c : Cls) (f : ClassQueue → ClassQueue) : State :=
  s.modUplink u fun r => { r with queues := r.queues.set c (f r.queues[c]) }

/-! ### Slot states (R1) -/

/-- The standby-held states: ANNOUNCE_WAIT to FAULT. -/
def SlotState.standbyHeld : SlotState → Bool
  | .empty | .standbyWait => false
  | .announceWait | .unidentified | .denied | .standby | .powerWait | .powering | .online | .capped | .shuttingDown
  | .fault => true

/-- The main-powered states. -/
def SlotState.mainPowered : SlotState → Bool
  | .powering | .online | .capped | .shuttingDown => true
  | .empty | .standbyWait | .announceWait | .unidentified | .denied | .standby | .powerWait | .fault => false

/-- The states in which a slot exchanges traffic (R135, R141, R145). -/
def SlotState.running : SlotState → Bool
  | .online | .capped => true
  | .empty | .standbyWait | .announceWait | .unidentified | .denied | .standby | .powerWait | .powering
  | .shuttingDown | .fault => false

def State.slotState (s : State) (i : Slot) : SlotState := (s.slot i).adm.state

/-- Whether a slot is in its power-on sequence at the given sub-stage (R78). -/
def SlotRecord.inStage (r : SlotRecord) (g : Stage) : Bool := r.adm.state == .powering && r.rail.stage == g

/-! ### Timers, filters, clamps -/

def Timer.isRunning : Timer → Bool
  | .stopped => false
  | .running _ => true

/-- The filter window of a line that has just moved to `level` against the filtered level: started with the full
length when the levels differ, cancelled when they agree (R2, R34, R77). -/
def filterWindow (filtered level : Bool) (length : Nat) : Timer :=
  if level = filtered then .stopped else .running length

/-- A setting in 10 ms steps with 10 ms as its lowest value: clamped, then rounded down to a whole step
(R3, R35, R83, R99). -/
def tenMsSteps (hi v : Nat) : Nat := max 10 (min v hi / 10 * 10)

/-- A setting in whole seconds from 1 to `hi` (R5, R71, R83, R91). -/
def secondsUpTo (hi v : Nat) : Nat := max 1 (min v hi)

/-- A number clamped to `hi` above and `lo` below. -/
def clampNat (lo hi v : Nat) : Nat := max lo (min v hi)

def clampInt (lo hi v : Int) : Int := max lo (min v hi)

/-- A priority or class, a value above 3 stored as 3 (R9, R20, R142, R143). -/
def fin4 (v : Nat) : Fin 4 := ⟨min v 3, by omega⟩

/-! ### Sets of slots -/

def slotSetInsert (h : SlotSet) (i : Slot) : SlotSet := h ||| BitVec.twoPow 16 i.val

def inSlotSet (h : SlotSet) (i : Slot) : Bool := h.getLsbD i.val

end Sys2Proof.Machine
end

