-- ==== Sys2Proof/Machine/Flags.lean ====
section
/-! DEFINITION. What the part reports by: the alert set (R163, R168), the received and drop counters (R129, R171), and
the status of a supply bay (R36). -/

namespace Sys2Proof.Machine

/-! ### Alerts -/

/-- The kind codes of R181. -/
def AlertKind.code : AlertKind → Nat
  | .insert => 1
  | .remove => 2
  | .fault => 3
  | .attention => 4
  | .capTimeout => 5
  | .shutdownTimeout => 6
  | .addrConflict => 7
  | .budgetShort => 8
  | .shed => 9
  | .brownout => 10
  | .supplyChange => 11
  | .override => 12
  | .localLimit => 13
  | .stall => 14

def allAlertKinds : List AlertKind :=
  [.insert, .remove, .fault, .attention, .capTimeout, .shutdownTimeout, .addrConflict, .budgetShort, .shed, .brownout,
    .supplyChange, .override, .localLimit, .stall]

/-- The indexes of a kind (R163). -/
def AlertKind.admitsIndex (k : AlertKind) (n : Nat) : Bool :=
  match k with
  | .insert | .remove | .fault | .attention | .capTimeout | .shutdownTimeout | .addrConflict =>
    decide (1 ≤ n) && decide (n ≤ 16)
  | .budgetShort | .shed | .brownout | .supplyChange | .override => decide (n = 0)
  | .localLimit => decide (n ≤ 7)
  | .stall => decide (1 ≤ n) && decide (n ≤ 6)

/-- The place of an entry in the order of R168: by kind, then by ascending index. -/
def Alert.rank (a : Alert) : Nat := a.kind.code * 256 + a.index

def insertAlert (a : Alert) : List Alert → List Alert
  | [] => [a]
  | b :: rest => if a.rank < b.rank then a :: b :: rest else b :: insertAlert a rest

/-- An alert raised by a block: added to the set if absent (R168). -/
def raise (a : Alert) (s : State) : State :=
  if a ∈ s.mgmt.alerts then s
  else { s with mgmt := { s.mgmt with alerts := insertAlert a s.mgmt.alerts } }

/-- An alert of a slot: its index is the slot number. -/
def raiseSlot (k : AlertKind) (i : Slot) (s : State) : State := raise { kind := k, index := i.val + 1 } s

/-- An alert of the chassis: its index is 0. -/
def raiseChassis (k : AlertKind) (s : State) : State := raise { kind := k, index := 0 } s

/-- Whether an event that led from `before` to `after` added an entry to the alert set (R168). -/
def alertAdded (before after : State) : Bool := after.mgmt.alerts.any fun a => !before.mgmt.alerts.contains a

/-! ### Counters -/

/-- The place of a drop reason in the order of R171. -/
def DropReason.index : DropReason → Fin 12
  | .notOnline => 0
  | .noSegment => 1
  | .segDrop => 2
  | .notMember => 3
  | .source => 4
  | .wrongUplink => 5
  | .linkDown => 6
  | .queueFull => 7
  | .tooLong => 8
  | .malformed => 9
  | .trapFull => 10
  | .respDrop => 11

def State.modCounters (s : State) (p : Port) (f : PortCounters → PortCounters) : State :=
  { s with counters := s.counters.set (portIndex p) (f s.counters[portIndex p]) }

/-- A frame that passed the CRC and length checks increments its port's received counter (R130). -/
def countReceived (p : Port) (s : State) : State :=
  s.modCounters p fun c => { c with received := c.received + 1 }

/-- A drop counted under a reason against a port (R129). -/
def drop (p : Port) (r : DropReason) (s : State) : State :=
  s.modCounters p fun c => { c with drops := c.drops.set r.index (c.drops[r.index] + 1) }

/-! ### Bay status (R36) -/

inductive BayStatus where
  | vacant | failed | delivering | unseated
  deriving DecidableEq, Repr

def BayRecord.status (b : BayRecord) : BayStatus :=
  match b.present, b.good with
  | false, false => .vacant
  | true, false => .failed
  | true, true => .delivering
  | false, true => .unseated

/-- A bay contributes while both its filtered lines are high (R36). -/
def BayRecord.contributes (b : BayRecord) : Bool := b.present && b.good

end Sys2Proof.Machine
end

