-- ==== Sys2Proof/Machine/Operands.lean ====
section
/-! DEFINITION. Frames as octets (chapter 11): composing a control frame from its fields, reading a received frame's
fields back, deciding what a received frame is (R131 to R133, R177), and checking a COMMAND's field items (R181). -/

namespace Sys2Proof.Machine

/-! ### Octets, most significant first (R173) -/

def be16 (w : Word16) : Octets := [w.extractLsb' 8 8, w.extractLsb' 0 8]

def be16n (n : Nat) : Octets := be16 (BitVec.ofNat 16 n)

def be16i (n : Int) : Octets := be16 (BitVec.ofInt 16 n)

def be32 (w : Word32) : Octets :=
  [w.extractLsb' 24 8, w.extractLsb' 16 8, w.extractLsb' 8 8, w.extractLsb' 0 8]

def be48 (a : Station) : Octets :=
  [a.extractLsb' 40 8, a.extractLsb' 32 8, a.extractLsb' 24 8, a.extractLsb' 16 8, a.extractLsb' 8 8, a.extractLsb' 0 8]

def octet (n : Nat) : Byte := BitVec.ofNat 8 n

/-- A two-valued item as one octet. That 1 stands for true and 0 for false is the code of R181 for its four flags and
of R179 for the bodies that use it, and the model's choice for every other result (log 10). -/
def flagOctet (b : Bool) : Octets := [if b then 1 else 0]

/-- The octet at an offset; octets past the end read as 0. -/
def octetAt (o : Octets) (k : Nat) : Byte := o.getD k 0

def word16At (o : Octets) (k : Nat) : Word16 := octetAt o k ++ octetAt o (k + 1)

def stationAt (o : Octets) (k : Nat) : Station :=
  octetAt o k ++ octetAt o (k + 1) ++ octetAt o (k + 2) ++ octetAt o (k + 3) ++ octetAt o (k + 4) ++ octetAt o (k + 5)

/-- The number that octets carry, most significant first. -/
def natOf (o : Octets) : Nat := o.foldl (fun n b => n * 256 + b.toNat) 0

/-- The two's complement number of a two-octet field (R181). -/
def intOf (o : Octets) : Int := (BitVec.ofNat 16 (natOf o)).toInt

/-! ### The part's own addresses and lengths -/

/-- The part's station address 02-E5-6A-00-00-ss (R133). -/
def State.station (s : State) : Station := 0x02E56A0000#40 ++ s.fwd.straps

/-- A group address has the least significant bit of its first octet set (R132). -/
def isGroup (a : Station) : Bool := a.getLsbD 40

/-- The length of a frame: its octets with the four CRC octets (R130). -/
def Frame.length (f : Frame) : Nat := f.octets.length + 4

def rxLength (rx : Reception) : Nat := rx.octets.length + 4

/-- A received frame keeps its octets and its CRC. -/
def rxFrame (rx : Reception) : Frame := { octets := rx.octets, fcs := some rx.fcs }

/-- Padding with octets of 0 to a length of 64, CRC included (R174). -/
def padded (o : Octets) : Octets := o ++ List.replicate (60 - o.length) 0

/-! ### Composing frames -/

/-- The control header (R176): version, kind, sequence, control length. -/
def header (kind : Byte) (sequence : Word16) (bodyLength : Nat) : Octets :=
  [1, kind] ++ be16 sequence ++ be16n bodyLength

def tagOctets : Option Tag → Octets
  | none => []
  | some t => be16 t.tagType ++ be16 t.control

/-- The octets of a received control frame with the given kind and body (R173, R176). -/
def composeControl (e : Envelope) (kind : Byte) (body : Octets) : Reception where
  octets := be48 e.destination ++ be48 e.source ++ tagOctets e.tag ++ be16 e.frameType ++
    header kind e.sequence body.length ++ body ++ e.padding
  fcs := e.fcs
  crcMatches := e.crcMatches

/-- The body of an ANNOUNCE (R178). -/
def announceOctets (b : AnnounceBody) : Octets :=
  be16 b.bladeType ++ b.serial.toList ++ be16 b.firmware ++ be16 b.requested ++ be16 b.floor ++
    [octet b.addresses.length] ++ b.addresses.flatMap be48

/-- The body of a TELEMETRY (R178). -/
def telemetryOctets (readings : List TelemetryItem) : Octets :=
  [octet readings.length] ++ readings.flatMap fun t => [t.sensor, t.reading]

/-- A field item (R180). -/
def itemOctets (it : Item) : Octets := [it.field] ++ be16n it.value.length ++ it.value

/-- The body of a COMMAND (R180). -/
def commandOctets (code : Word16) (items : List Item) : Octets := be16 code ++ items.flatMap itemOctets

/-- The octets of a received flow-control frame (R175). -/
def composeFlow (f : FlowFrame) : Reception where
  octets := be48 f.destination ++ be48 f.source ++ be16 Config.flowControlType ++ be16 f.opcode ++ be16 f.quanta ++
    f.rest
  fcs := f.fcs
  crcMatches := f.crcMatches

/-- A control frame that the part originates: untagged, with the control type in force, its own address as source,
and padded (R174). -/
def State.buildControl (s : State) (destination : Station) (kind : Byte) (sequence : Word16) (body : Octets) : Octets :=
  padded (be48 destination ++ be48 s.station ++ be16 s.fwd.controlType ++ header kind sequence body.length ++ body)

/-- A pause frame of the part, 64 octets long with its CRC (R175). -/
def State.pauseOctets (s : State) (quanta : Nat) : Octets :=
  be48 Config.pauseAddress ++ be48 s.station ++ be16 Config.flowControlType ++ be16 1#16 ++ be16n quanta ++
    List.replicate 42 0

/-! ### Kind codes (R176) -/

abbrev kindAnnounce : Byte := 0x01
abbrev kindTelemetry : Byte := 0x02
abbrev kindCapAck : Byte := 0x03
abbrev kindShutdownAck : Byte := 0x04
abbrev kindAdmitResult : Byte := 0x11
abbrev kindCap : Byte := 0x12
abbrev kindUncap : Byte := 0x13
abbrev kindShutdownReq : Byte := 0x14
abbrev kindCommand : Byte := 0x21
abbrev kindResponse : Byte := 0x22
abbrev kindNotice : Byte := 0x23
abbrev kindTrapCarrier : Byte := 0x24

/-! ### Reading bodies -/

/-- That many station addresses in a row (R178). -/
def stationsIn : Nat → Octets → List Station
  | 0, _ => []
  | n + 1, o => stationAt o 0 :: stationsIn n (o.drop 6)

/-- That many telemetry items in a row (R178). -/
def telemetryIn : Nat → Octets → List TelemetryItem
  | 0, _ => []
  | n + 1, o => { sensor := octetAt o 0, reading := octetAt o 1 } :: telemetryIn n (o.drop 2)

def readAnnounce (body : Octets) : AnnounceBody where
  bladeType := word16At body 0
  serial := Vector.ofFn fun k => octetAt body (2 + k.val)
  firmware := word16At body 18
  requested := word16At body 20
  floor := word16At body 22
  addresses := stationsIn (octetAt body 24).toNat (body.drop 25)

/-- The field items that fill octets exactly, or none where one runs past the end (R177 check 6, R180). The first
argument bounds the number of items; the octets' length is enough. -/
def itemsIn : Nat → Octets → Option (List Item)
  | _, [] => some []
  | 0, _ :: _ => none
  | n + 1, field :: hi :: lo :: rest =>
    let width := hi.toNat * 256 + lo.toNat
    if rest.length < width then none
    else (itemsIn n (rest.drop width)).map ({ field := field, value := rest.take width } :: ·)
  | _ + 1, _ => none

/-! ### What a received frame is -/

/-- The addresses and tag of a traffic frame (R132). -/
structure TrafficHeader where
  destination : Station
  source : Station
  control : Option Word16
  deriving DecidableEq, Repr

/-- The tag priority of a tag control (R132). -/
def tagPriority (control : Word16) : Fin 8 := (control.extractLsb' 13 3).toFin

/-- The tag ID of a tag control (R132). -/
def tagId (control : Word16) : Nat := (control.extractLsb' 0 12).toNat

/-- What the arrival rules R131 to R134 and R177 make of a frame that passed the CRC and length checks. -/
inductive FrameClass where
  | flow (opcode quanta : Word16)
  | malformed
  | announce (i : Slot) (body : AnnounceBody)
  | telemetry (i : Slot) (readings : List TelemetryItem)
  | capAck (i : Slot) (sequence : Word16)
  | shutdownAck (i : Slot)
  | command (u : Uplink) (source : Station) (sequence code : Word16) (items : List Item)
  | upstream (i : Slot) (h : TrafficHeader)
  | downstream (u : Uplink) (h : TrafficHeader)
  deriving DecidableEq, Repr

/-- The body of a control frame by its kind and port: checks 3, 4 and 6 of R177, the kinds accepted by the table of
R133. -/
def bodyClass (s : State) (p : Port) (kind : Byte) (sequence : Word16) (source : Station) (body : Octets) : FrameClass :=
  match p with
  | .slot i =>
    if kind = kindAnnounce then
      if 25 ≤ body.length ∧ body.length = 25 + 6 * (octetAt body 24).toNat then .announce i (readAnnounce body)
      else .malformed
    else if kind = kindTelemetry then
      if 1 ≤ body.length ∧ body.length = 1 + 2 * (octetAt body 0).toNat then
        .telemetry i (telemetryIn (octetAt body 0).toNat (body.drop 1))
      else .malformed
    else if kind = kindCapAck then (if body.length = 0 then .capAck i sequence else .malformed)
    else if kind = kindShutdownAck then (if body.length = 0 then .shutdownAck i else .malformed)
    else .malformed
  | .uplink u =>
    if kind = kindCommand ∧ (s.uplink u).management = true ∧ 2 ≤ body.length then
      match itemsIn body.length (body.drop 2) with
      | some items => .command u source sequence (word16At body 0) items
      | none => .malformed
    else .malformed

/-- A control frame with its header at offset `off` (14 untagged, 18 tagged): checks 1, 2 and 5 of R177, then its body. -/
def controlClass (s : State) (p : Port) (o : Octets) (off : Nat) : FrameClass :=
  let clen := (word16At o (off + 4)).toNat
  if o.length < off + 6 ∨ octetAt o off ≠ 1 ∨ o.length < off + 6 + clen then .malformed
  else bodyClass s p (octetAt o (off + 1)) (word16At o (off + 2)) (stationAt o 6) ((o.drop (off + 6)).take clen)

/-- The class of a frame that passed the CRC and length checks (R131, R132, R133). -/
def frameClass (s : State) (p : Port) (o : Octets) : FrameClass :=
  let outer := word16At o 12
  if outer = Config.flowControlType then .flow (word16At o 14) (word16At o 16)
  else
    let tagged := decide (outer = s.fwd.tagType)
    let frameType := if tagged then word16At o 16 else outer
    let destination := stationAt o 0
    if destination = s.station ∨ destination = Config.groupAddress then
      if frameType = s.fwd.controlType then controlClass s p o (if tagged then 18 else 14) else .malformed
    else
      let h : TrafficHeader :=
        { destination := destination, source := stationAt o 6, control := if tagged then some (word16At o 14) else none }
      match p with
      | .slot i => .upstream i h
      | .uplink u => .downstream u h

/-! ### Field items of a COMMAND (R181) -/

/-- A field that a command lists: its number, the bounds of its width, whether it is required and repeatable. -/
structure FieldSpec where
  number : Nat
  least : Nat
  most : Nat
  required : Bool := false
  repeatable : Bool := false
  deriving DecidableEq, Repr

/-- An optional field of a fixed width. -/
def opt (number width : Nat) : FieldSpec := { number := number, least := width, most := width }

/-- A required field of a fixed width. -/
def req (number width : Nat) : FieldSpec := { number := number, least := width, most := width, required := true }

/-- The checks of R181 on numbers, widths, repeats and required fields. -/
def itemsFit (spec : List FieldSpec) (items : List Item) : Bool :=
  items.all (fun it => spec.any fun f =>
    decide (it.field.toNat = f.number) && decide (f.least ≤ it.value.length) && decide (it.value.length ≤ f.most)) &&
  spec.all (fun f =>
    let n := items.countP fun it => it.field.toNat = f.number
    (f.repeatable || decide (n ≤ 1)) && (!f.required || decide (1 ≤ n)))

def fieldOctets (n : Nat) (items : List Item) : Option Octets :=
  (items.find? fun it => it.field.toNat = n).map (·.value)

def fieldNat (n : Nat) (items : List Item) : Option Nat := (fieldOctets n items).map natOf

def fieldInt (n : Nat) (items : List Item) : Option Int := (fieldOctets n items).map intOf

/-- All values of a repeatable field, in order. -/
def fieldAll (n : Nat) (items : List Item) : List Octets :=
  (items.filter fun it => it.field.toNat = n).map (·.value)

def hasField (n : Nat) (items : List Item) : Bool := (fieldOctets n items).isSome

/-- An optional field whose values form a named set or a range: absent, or decoded; `none` where the value is outside
the set or range (R166, R181). -/
def fieldEnum {α : Type} (n : Nat) (decode : Nat → Option α) (items : List Item) : Option (Option α) :=
  match fieldNat n items with
  | none => some none
  | some v => (decode v).map some

/-- A required member number from 1 to `k` (R166). -/
def memberOf (k : Nat) [NeZero k] (v : Nat) : Option (Fin k) :=
  if 1 ≤ v ∧ v ≤ k then some (Fin.ofNat k (v - 1)) else none

def fieldSlot (n : Nat) (items : List Item) : Option Slot := (fieldNat n items).bind (memberOf 16)

/-- A flag field: 0 clear, 1 set, any other value refused (R181). -/
def flagCode : Nat → Option Bool
  | 0 => some false
  | 1 => some true
  | _ => none

def uplinkCode : Nat → Option Uplink
  | 1 => some .A
  | 2 => some .B
  | _ => none

/-- A default segment: 0 is none, above 4094 refused (R20, R144). -/
def segmentCode (v : Nat) : Option (Option Nat) :=
  if v = 0 then some none else if v ≤ 4094 then some (some v) else none

end Sys2Proof.Machine
end

