-- ==== Sys2Proof/Machine/Inventory.lean ====
section
/-! DEFINITION. The Inventory Store (chapter 2): the station table, its refresh at an accepted announce and its purges. -/

namespace Sys2Proof.Machine

/-- An address that cannot name a station: a group address, the all-zero address, the part's own (R26). -/
def invalidStation (s : State) (a : Station) : Bool := isGroup a || decide (a = 0) || decide (a = s.station)

/-- The list without later repeats of an address (R26 step 2). -/
def firstAppearances : List Station → List Station
  | [] => []
  | a :: rest => a :: (firstAppearances rest).filter fun b => decide (b ≠ a)

/-- The slot that holds an address in the station table, if any. -/
def ownerOf (table : List StationEntry) (a : Station) : Option Slot := (table.find? fun e => e.address = a).map (·.owner)

/-- The status that a new address of slot i gets against the table without the slot's old entries (R26 step 3). -/
def judgeAddress (s : State) (others : List StationEntry) (a : Station) : AddressEntry where
  address := a
  status := if invalidStation s a then .invalid else if (ownerOf others a).isSome then .conflict else .entered

/-- The table with the entries of slot i put in their place of the slot order (R25). -/
def placeEntries (others : List StationEntry) (i : Slot) (entered : List Station) : List StationEntry :=
  others.filter (fun e => decide (e.owner < i)) ++ entered.map (fun a => { address := a, owner := i }) ++
    others.filter (fun e => !decide (e.owner < i))

/-- The refresh of R26 with the address list of an accepted announce after the clamp of R8. -/
def refreshStations (i : Slot) (addresses : List Station) (s : State) : State :=
  let others := s.stations.filter fun e => decide (e.owner ≠ i)
  let judged := (firstAppearances addresses).map (judgeAddress s others)
  let entered := (judged.filter fun a => a.status == .entered).map (·.address)
  let conflict := judged.any fun a => a.status == .conflict
  let s1 := { s with stations := placeEntries others i entered }
  let s2 := s1.modInv i fun r => { r with addresses := judged, conflict := conflict }
  if conflict then raiseSlot .addrConflict i s2 else s2

/-- The status of an address after a purge (R27). -/
def releaseAddress (a : AddressEntry) : AddressEntry :=
  match a.status with
  | .entered => { a with status := .released }
  | .conflict | .invalid | .released => a

/-- The purge of R27. -/
def purgeStations (i : Slot) (s : State) : State :=
  { s with stations := s.stations.filter fun e => decide (e.owner ≠ i) }.modInv i
    fun r => { r with addresses := r.addresses.map releaseAddress }

end Sys2Proof.Machine
end

