-- ==== Sys2Proof/Machine/Queues.lean ====
section
/-! DEFINITION. The Queue Manager (chapter 9): cells, admission, congestion and pause, transmission, flushes, the
control list, the trap queue and its carrier. -/

namespace Sys2Proof.Machine

/-! ### Cells and occupancy (R147, R148) -/

/-- The cells of a frame: ceil(n / 128) (R148). -/
def Frame.cells (f : Frame) : Nat := (f.length + (Config.cellOctets - 1)) / Config.cellOctets

def entryCells (q : List QueueEntry) : Nat := (q.map fun e => e.frame.cells).sum

def frameCells (q : List Frame) : Nat := (q.map Frame.cells).sum

def trapCells (q : List TrapEntry) : Nat := (q.map fun e => e.frame.cells).sum

/-- The entries of a class queue with the frame in flight from it, oldest first (R147, R150). -/
def UplinkRecord.held (r : UplinkRecord) (c : Cls) : List QueueEntry :=
  (match r.flight with
    | some f => if f.cls = c then [f.entry] else []
    | none => []) ++ r.queues[c].entries

/-- The occupancy of a class queue: the cells of its entries, a frame in flight from it counted (R147). -/
def UplinkRecord.occupancy (r : UplinkRecord) (c : Cls) : Nat := entryCells (r.held c)

/-- The frames of an egress queue with the one in flight from it (R147, R152). -/
def QueuePart.egressHeld (q : QueuePart) : List Frame :=
  (match q.flight with
    | some f => if f.fromEgress then [f.frame] else []
    | none => []) ++ q.egress

def QueuePart.occupancy (q : QueuePart) : Nat := frameCells q.egressHeld

/-- The length of a frame's transmission in nanoseconds (R150). -/
def transmissionTime (f : Frame) : Nat := (f.length + 20) * 8

/-- A frame as it is sent: with its CRC, computed now where it has none (R145, log 5). -/
def sealFrame (f : Frame) : Frame := { f with fcs := some (f.fcs.getD (Config.crc f.octets)) }

/-! ### Pause and congestion (R153, R154) -/

/-- The length of a pause refresh in ms for a pause quanta (R154). -/
def refreshLength (quanta : Nat) : Nat := max 1 (quanta * 256 / 1000000)

/-- A slot of a held set flagged: one whose flag is clear has it set, gets its pause pending and its refresh timer
started; one already flagged has nothing further done (R153). -/
def pauseSlot (i : Slot) (s : State) : State :=
  if (s.slot i).que.backpressure then s
  else
    let quanta := (s.slot i).adm.quanta
    s.modQue i fun q =>
      { q with backpressure := true, pendingPause := some quanta, refresh := .running (refreshLength quanta) }

/-- A slot released: flag cleared, timer stopped, a pause of quanta 0 pending (R153, R159). -/
def releaseSlot (i : Slot) (s : State) : State :=
  s.modQue i fun q => { q with backpressure := false, refresh := .stopped, pendingPause := some 0 }

/-- Whether a slot is in the held set of some uplink class queue. -/
def heldAnywhere (s : State) (i : Slot) : Bool :=
  allUplinks.any fun u => allClasses.any fun c => inSlotSet (s.uplink u).queues[c].held i

/-- The source slots of entries as a set (R153). -/
def sourcesOf (q : List QueueEntry) : SlotSet :=
  q.foldl (fun h e => match e.source with
    | some i => slotSetInsert h i
    | none => h) 0

/-- A queue no longer congested: flag cleared, held set emptied, staged watermarks in force (R153, R155, R159). -/
def clearCongestion (q : ClassQueue) : ClassQueue :=
  { q with congested := false, held := 0, staged := none, marks := q.staged.getD q.marks }

/-- The end of a queue's congestion with its release pauses: each slot of the emptied held set that is flagged and in
the held set of no other class queue is released (R153, R155). -/
def endCongestion (u : Uplink) (c : Cls) (s : State) : State :=
  let held := (s.uplink u).queues[c].held
  let s1 := s.modClass u c clearCongestion
  allSlots.foldl
    (fun s i => if inSlotSet held i && (s.slot i).que.backpressure && !heldAnywhere s i then releaseSlot i s else s) s1

/-- The downward test at a completion (R153). -/
def downwardTest (u : Uplink) (c : Cls) (s : State) : State :=
  if (s.uplink u).queues[c].congested ∧ (s.uplink u).occupancy c ≤ (s.uplink u).queues[c].marks.low then
    endCongestion u c s
  else s

/-- The watermark test after an admission whose frame has the given source (R153). -/
def upwardTest (u : Uplink) (c : Cls) (source : Option Slot) (s : State) : State :=
  let r := s.uplink u
  if r.queues[c].congested then
    match source with
    | none => s
    | some i => pauseSlot i (s.modClass u c fun q => { q with held := slotSetInsert q.held i })
  else if r.queues[c].marks.high < r.occupancy c then
    let held := sourcesOf (r.held c)
    let s1 := s.modClass u c fun q => { q with congested := true, held := held }
    allSlots.foldl (fun s i => if inSlotSet held i then pauseSlot i s else s) s1
  else s

/-! ### Admission (R149) -/

/-- The conditions of an uplink class queue, with the free cells given. -/
def classAdmits (s : State) (u : Uplink) (c : Cls) (free cells : Nat) : Bool :=
  (s.uplink u).linkUp && decide (cells ≤ free) &&
    decide ((s.uplink u).occupancy c + cells ≤ (s.uplink u).queues[c].limit)

/-- A frame offered to an uplink class queue: admitted at its tail with its cells taken and the watermarks tested, or
refused (`none`). -/
def offerClass (u : Uplink) (c : Cls) (e : QueueEntry) (s : State) : Option State :=
  if classAdmits s u c s.freeCells e.frame.cells then
    some (upwardTest u c e.source
      ({ s with freeCells := s.freeCells - e.frame.cells }.modClass u c fun q => { q with entries := q.entries ++ [e] }))
  else none

/-- A frame offered to a slot egress queue. -/
def offerEgress (i : Slot) (f : Frame) (s : State) : Option State :=
  let q := (s.slot i).que
  if f.cells ≤ s.freeCells ∧ q.occupancy + f.cells ≤ q.egressLimit then
    some ({ s with freeCells := s.freeCells - f.cells }.modQue i fun q => { q with egress := q.egress ++ [f] })
  else none

/-- A frame offered to the trap queue. -/
def offerTrap (e : TrapEntry) (s : State) : Option State :=
  if s.trapQueue.length < 16 ∧ e.frame.length ≤ 2000 ∧ e.frame.cells ≤ s.freeCells then
    some { s with freeCells := s.freeCells - e.frame.cells, trapQueue := s.trapQueue ++ [e] }
  else none

/-! ### Transmission (R150, R152) -/

/-- The lowest-numbered class with a waiting entry. -/
def firstClass (r : UplinkRecord) : Option Cls := allClasses.find? fun c => !r.queues[c].entries.isEmpty

/-- A transmission begun on an uplink that has no frame in flight, a link up, no hold and a waiting frame (R150). -/
def beginUplink (u : Uplink) (s : State) : State :=
  let r := s.uplink u
  if r.flight.isNone && r.linkUp && !r.hold.isRunning then
    match firstClass r with
    | none => s
    | some c =>
      match r.queues[c].entries with
      | [] => s
      | e :: rest =>
        (s.modClass u c fun q => { q with entries := rest }).modUplink u fun r =>
          { r with
            flight := some
              ({ cls := c, entry := { e with frame := sealFrame e.frame }, duration := transmissionTime e.frame }
                : UplinkFlight) }
  else s

def flightOf (f : Frame) (fromEgress : Bool) : SlotFlight where
  frame := sealFrame f
  fromEgress := fromEgress
  duration := transmissionTime f

/-- The power-frame marker after a control-list frame begins transmission (R158). -/
def markerAfter (m : Option Marker) : ControlKind → Option Marker
  | .cap => some .cap
  | .uncap => some .uncap
  | .admitResult | .shutdownReq => m

/-- What a slot link does next when nothing is in flight: the pending pause, then the oldest control-list frame, then
the head of the egress queue (R152). The pause frame's octets are given for its quanta. -/
def beginSlotPart (pause : Nat → Octets) (q : QueuePart) : QueuePart :=
  match q.flight with
  | some _ => q
  | none =>
    match q.pendingPause with
    | some n => { q with pendingPause := none, flight := some (flightOf { octets := pause n, fcs := none } false) }
    | none =>
      match q.control with
      | f :: rest =>
        { q with
          control := rest, marker := markerAfter q.marker f.kind,
          flight := some (flightOf { octets := f.octets, fcs := none } false) }
      | [] =>
        match q.egress with
        | f :: rest => { q with egress := rest, flight := some (flightOf f true) }
        | [] => q

def beginSlot (i : Slot) (s : State) : State := s.modQue i (beginSlotPart s.pauseOctets)

/-- Every idle link that can begin a transmission begins one (R150, R152, log 7). -/
def beginAll (s : State) : State :=
  allSlots.foldl (fun s i => beginSlot i s) (beginUplink .B (beginUplink .A s))

/-! ### Flushes (R155, R156, R159) -/

/-- A frame flushed by a link fall, counted against its source slot's port or else the uplink's (R155). -/
def countLinkDown (u : Uplink) (e : QueueEntry) (s : State) : State :=
  match e.source with
  | some i => drop (.slot i) .linkDown s
  | none => drop (.uplink u) .linkDown s

/-- The waiting entries of a class queue discarded, their cells returned. A frame in flight stays. -/
def flushClass (u : Uplink) (c : Cls) (s : State) : State :=
  { s with freeCells := s.freeCells + entryCells (s.uplink u).queues[c].entries }.modClass u c
    fun q => { q with entries := [] }

/-- The flush of one class queue at a link fall: entries counted and discarded, congestion ended (R155). -/
def linkDownClass (u : Uplink) (c : Cls) (s : State) : State :=
  endCongestion u c (flushClass u c ((s.uplink u).queues[c].entries.foldl (fun s e => countLinkDown u e s) s))

/-- The waiting egress frames of a slot discarded, their cells returned. A frame in flight stays. -/
def flushEgress (i : Slot) (s : State) : State :=
  { s with freeCells := s.freeCells + frameCells (s.slot i).que.egress }.modQue i fun q => { q with egress := [] }

/-- What removal and a standby cut do to the slot's Queue Manager state (R156). -/
def flushSlot (i : Slot) (s : State) : State :=
  (flushEgress i s).modQue i fun q =>
    { q with control := [], backpressure := false, refresh := .stopped, pendingPause := none, marker := none }

/-- What a main-off does to the control list: CAP, UNCAP and SHUTDOWN_REQ discarded, the marker set to none
(R76, R156). -/
def discardPowerFrames (q : QueuePart) : QueuePart :=
  { q with control := q.control.filter fun f => f.kind == .admitResult, marker := none }

/-! ### The control list (R158, R179) -/

def waiting (k : ControlKind) (l : List ControlFrame) : Bool := l.any fun f => f.kind == k

/-- The frame in place of the waiting one of its kind, or else at the tail. -/
def replaceOrAppend (f : ControlFrame) (l : List ControlFrame) : List ControlFrame :=
  if waiting f.kind l then l.map fun g => if g.kind = f.kind then f else g else l ++ [f]

def without (k : ControlKind) (l : List ControlFrame) : List ControlFrame := l.filter fun g => g.kind != k

/-- A frame offered to the control list (R158). -/
def offerControlPart (f : ControlFrame) (q : QueuePart) : QueuePart :=
  match f.kind with
  | .admitResult | .shutdownReq => { q with control := replaceOrAppend f q.control }
  | .cap =>
    if waiting .cap q.control then { q with control := replaceOrAppend f q.control }
    else { q with control := without .uncap q.control ++ [f] }
  | .uncap =>
    if waiting .uncap q.control then { q with control := replaceOrAppend f q.control }
    else if waiting .cap q.control then
      if q.marker = some .cap then { q with control := without .cap q.control ++ [f] }
      else { q with control := without .cap q.control }
    else { q with control := q.control ++ [f] }

/-- The octets of a blade-bound control frame (R174, R179). -/
def State.bladeFrame (s : State) (kind : Byte) (sequence : Word16) (body : Octets) : Octets :=
  s.buildControl Config.groupAddress kind sequence body

def offerControl (i : Slot) (f : ControlFrame) (s : State) : State := s.modQue i (offerControlPart f)

/-- The ADMIT_RESULT of an outcome and an effective pair (R179). -/
def admitResultFrame (s : State) (denied : Bool) (pair : PowerPair) : ControlFrame where
  kind := .admitResult
  octets := s.bladeFrame kindAdmitResult 0 (flagOctet denied ++ be16n pair.requested ++ be16n pair.floor)

def capFrame (s : State) (sequence : Word16) (watts : Nat) : ControlFrame where
  kind := .cap
  octets := s.bladeFrame kindCap sequence (be16n watts)

def uncapFrame (s : State) (sequence : Word16) (watts : Nat) : ControlFrame where
  kind := .uncap
  octets := s.bladeFrame kindUncap sequence (be16n watts)

def shutdownReqFrame (s : State) (form : ShutdownForm) (seconds : Nat) : ControlFrame where
  kind := .shutdownReq
  octets := s.bladeFrame kindShutdownReq 0 (flagOctet (form == .eject) ++ be16n seconds)

/-! ### The trap queue's carrier (R157, R183) -/

/-- The port number of R181 and R183: 1-16 slots, 17 uplink A, 18 uplink B. -/
def portNumber (p : Port) : Nat := (portIndex p).val + 1

/-- The TRAP_CARRIER of a trapped frame with the count of entries still waiting once it has left (R183). -/
def carrierFrame (s : State) (destination : Station) (e : TrapEntry) (remaining : Nat) : Frame where
  octets := s.buildControl destination kindTrapCarrier 0
    (be16n (portNumber e.port) ++ be16n remaining ++ be16n e.frame.length ++ e.frame.octets ++
      be32 (e.frame.fcs.getD (Config.crc e.frame.octets)))
  fcs := none

/-- One carrier, if it is possible: the head entry leaves, its cells return, and its carrier is admitted to class 0 of
the notice destination's uplink. The free-cell test counts the head entry's cells as free (R157). -/
def carryOne (s : State) : Option State :=
  match s.mgmt.destination, s.trapQueue with
  | some (station, u), e :: rest =>
    offerClass u 0 { frame := carrierFrame s station e rest.length, source := none }
      { s with trapQueue := rest, freeCells := s.freeCells + e.frame.cells }
  | _, _ => none

/-- The carrier try: carriers are built while they are possible (R157). The first argument bounds their number. -/
def carryAll : Nat → State → State
  | 0, s => s
  | n + 1, s =>
    match carryOne s with
    | none => s
    | some t => carryAll n t

def carrierTry (s : State) : State := carryAll s.trapQueue.length s

end Sys2Proof.Machine
end

