-- ==== Sys2Proof/Machine/Supply.lean ====
section
/-! DEFINITION. The Supply Monitor (chapter 3): the sums over contributing bays, the raw figure and the available
capacity, the bay filters, and the brownout condition. -/

namespace Sys2Proof.Machine

/-- Bays 1 to 3 are on grid A (R37). -/
def onGridA (b : Bay) : Bool := decide (b.val < 3)

/-- The ratings of the contributing bays that a test picks (R37). -/
def ratings (bays : Vector BayRecord 6) (pick : Bay → Bool) : List Nat :=
  allBays.filterMap fun b => if bays[b].contributes && pick b then some bays[b].rating else none

/-- S_A and S_B (R37). -/
def gridSum (bays : Vector BayRecord 6) (gridA : Bool) : Nat := (ratings bays fun b => onGridA b == gridA).sum

/-- S (R37). -/
def totalSum (bays : Vector BayRecord 6) : Nat := (ratings bays fun _ => true).sum

/-- The largest rating among the contributing bays, 0 when there is none (R38). -/
def largestRating (bays : Vector BayRecord 6) : Nat := (ratings bays fun _ => true).foldl max 0

/-- The raw figure under the redundancy policy (R38). -/
def rawFigure (policy : Redundancy) (bays : Vector BayRecord 6) : Nat :=
  match policy with
  | .none => totalSum bays
  | .n1 => totalSum bays - largestRating bays
  | .grid => min (gridSum bays true) (gridSum bays false)

/-- The recomputation of R39: the raw figure is stored; a capacity that differs from the one held is stored and raises
SUPPLY_CHANGE (R40). The evaluation that a change starts is the event's. -/
def recomputeCapacity (s : State) : State :=
  let raw := rawFigure s.supply.policy s.bays
  let capacity := min raw s.supply.ceiling
  if capacity = s.supply.capacity then { s with supply := { s.supply with raw := raw } }
  else raiseChassis .supplyChange { s with supply := { s.supply with raw := raw, capacity := capacity } }

/-- A bay line at a level, with its filter window started or cancelled (R34). -/
def moveBayLine (line : BayLine) (level : Bool) (length : Nat) (b : BayRecord) : BayRecord :=
  match line with
  | .present => { b with presentLine := level, presentWindow := filterWindow b.present level length }
  | .outputGood => { b with goodLine := level, goodWindow := filterWindow b.good level length }

def BayRecord.line (b : BayRecord) : BayLine → Bool
  | .present => b.presentLine
  | .outputGood => b.goodLine

def BayRecord.window (b : BayRecord) : BayLine → Timer
  | .present => b.presentWindow
  | .outputGood => b.goodWindow

def BayRecord.level (b : BayRecord) : BayLine → Bool
  | .present => b.present
  | .outputGood => b.good

/-- The window's expiry: the filtered level takes the line's level (R34). -/
def takeBayLine (line : BayLine) (b : BayRecord) : BayRecord :=
  match line with
  | .present => { b with present := b.presentLine, presentWindow := .stopped }
  | .outputGood => { b with good := b.goodLine, goodWindow := .stopped }

/-- A channel 4 result against channel 4's low limit (R43): the brownout condition that follows. -/
def brownoutAfter (holding : Bool) (result low : Int) : Bool :=
  if result ≤ low then true else holding && decide (result ≤ low + 4)

/-- The brownout rule applied to a channel 4 result (R43). -/
def applyBrownout (result : Int) (s : State) : State :=
  let low := s.channels[(4 : Channel)].low
  let s1 := { s with supply := { s.supply with brownout := brownoutAfter s.supply.brownout result low } }
  if result ≤ low then raiseChassis .brownout s1 else s1

end Sys2Proof.Machine
end

