-- ==== Sys2Proof/Machine/Fans.lean ====
section
/-! DEFINITION. The Fan Controller (chapter 7): demand and target, settling the actual duty, ramp and spin-up, tach
results, the power curve and the fan reservation. -/

namespace Sys2Proof.Machine

/-! ### Demand and target (R111, R112) -/

/-- The demand of a zone for a fan (R111). -/
def demand (z : ZoneRecord) (f : FanRecord) : Nat :=
  if z.temp < z.low then
    match f.below with
    | .stop => 0
    | .min => f.minDuty
  else if z.temp < z.low + z.range then
    f.minDuty + (255 - f.minDuty) * (z.temp - z.low).toNat / z.range.toNat
  else 255

/-- The largest demand over the zones of the fan's zone set (R112). -/
def hottestDemand (zones : Vector ZoneRecord 4) (f : FanRecord) : Nat :=
  allZones.foldl (fun d z => if f.zoneSet.getLsbD z.val then max d (demand zones[z] f) else d) 0

/-- The target duty by mode (R112). -/
def targetOf (zones : Vector ZoneRecord 4) (f : FanRecord) : Nat :=
  match f.mode with
  | .zone => demand zones[f.zoneSel] f
  | .hottest => hottestDemand zones f
  | .full => 255
  | .manual => f.manual
  | .off => 0

/-- Whether a fan follows a zone in its present mode (R112). -/
def follows (f : FanRecord) (z : Zone) : Bool :=
  match f.mode with
  | .zone => decide (f.zoneSel = z)
  | .hottest => f.zoneSet.getLsbD z.val
  | .full | .off | .manual => false

/-! ### Power curve (R124, R125) -/

/-- P + ceil((Q - P) * k / w): the straight line between two points of the curve, rounded up (R124). -/
def interpolate (p q k w : Nat) : Nat := p + ((q - p) * k + w - 1) / w

/-- curve(d) of R124. -/
def curveAt (c : Curve) (d : Nat) : Nat :=
  if d < 64 then interpolate c.p0 c.p1 d 64
  else if d < 128 then interpolate c.p1 c.p2 (d - 64) 64
  else if d < 192 then interpolate c.p2 c.p3 (d - 128) 64
  else if d < 255 then interpolate c.p3 c.p4 (d - 192) 63
  else c.p4

/-- The fan power P_f (R125). -/
def fanPower (overrideOn : Bool) (f : FanRecord) : Nat :=
  if f.mode = .off then 0
  else if f.spin.isRunning || overrideOn then curveAt f.curve 255
  else curveAt f.curve (max f.target f.actual)

def repower (overrideOn : Bool) (f : FanRecord) : FanRecord := { f with power := fanPower overrideOn f }

/-! ### Actual duty (R115 to R118) -/

/-- The ramp interval in force, (n + 1) * 10 ms (R109). -/
def rampInterval (f : FanRecord) : Timer := .running ((f.rampN + 1) * 10)

/-- The settle table of R115: the first row that applies. -/
def settle (overrideOn : Bool) (f : FanRecord) : FanRecord :=
  if f.mode = .off then { f with actual := 0, spin := .stopped, ramp := .stopped }
  else if overrideOn then { f with actual := 255, spin := .stopped, ramp := .stopped }
  else if f.spin.isRunning then
    if f.target = 0 then { f with actual := 0, spin := .stopped }
    else if !f.spinOn then { f with actual := f.target, spin := .stopped }
    else f
  else if f.actual = 0 ∧ 0 < f.target then
    if f.spinOn ∧ 0 < f.spinN then
      { f with actual := 255, spin := .running (f.spinN * 100), ramp := .stopped }
    else { f with actual := f.target }
  else if f.mode = .full ∨ f.mode = .manual then { f with actual := f.target, ramp := .stopped }
  else if !f.rampOn then { f with actual := f.target, ramp := .stopped }
  else if f.actual ≠ f.target then { f with ramp := if f.ramp.isRunning then f.ramp else rampInterval f }
  else { f with ramp := .stopped }

/-- One ramp step (R116). -/
def rampDuty (f : FanRecord) : Nat :=
  if f.actual < f.target then f.actual + 1
  else if f.target < f.actual then
    if 0 < f.target then f.actual - 1
    else if f.minDuty < f.actual then f.actual - 1
    else 0
  else f.actual

/-- A ramp expiry: the step, then the timer stopped at the target and started again elsewhere (R116). -/
def rampStep (f : FanRecord) : FanRecord :=
  let d := rampDuty f
  { f with actual := d, ramp := if d = f.target then .stopped else rampInterval f }

/-- The end of a spin-up by its timer or by a tach result: the target at once, the ramp timer stopped (R117, R118). -/
def endSpinUp (f : FanRecord) : FanRecord := { f with actual := f.target, spin := .stopped, ramp := .stopped }

/-! ### Tach (R122, R123) -/

/-- The speed of a gate: pulses * 120 / pulses per revolution, rounded down (R122). -/
def speedOf (f : FanRecord) : Nat := f.pulses * 120 / f.pulsesPerRev

/-- A gate result for one fan: the last speed, the count reset, and the early end of a spin-up (R118, R122). -/
def gateResult (f : FanRecord) : FanRecord :=
  let g := { f with speed := some (speedOf f), pulses := 0 }
  if g.spin.isRunning && decide (0 < g.minSpeed) && decide (g.minSpeed ≤ speedOf f) then endSpinUp g else g

/-- Whether a gate result finds a fan stalled (R123). -/
def stalled (f : FanRecord) : Bool :=
  match f.speed with
  | none => false
  | some v =>
    decide (v < f.minSpeed) && decide (0 < f.minSpeed) && decide (0 < f.actual) && !f.spin.isRunning &&
      decide (f.mode ≠ .off)

/-! ### The fans of the chassis -/

/-- F as the sum of the fan powers held (R125). -/
def powerSum (fans : Vector FanRecord 6) : Nat := (allFans.map fun f => fans[f].power).sum

/-- F brought up to date after an event's changes to the fans (R125). -/
def updateReservation (s : State) : State := { s with fanReservation := powerSum s.fans }

/-- A fan changed, its power brought up to date with it; F is left to `updateReservation` (R125). -/
def changeFan (f : Fan) (g : FanRecord → FanRecord) (s : State) : State :=
  s.modFan f fun r => repower s.thermal.overrideOn (g r)

/-- A recomputation of a fan's target; one that gives the target already held changes nothing further (R112). -/
def retarget (f : Fan) (s : State) : State :=
  let t := targetOf s.zones s.fans[f]
  if t = s.fans[f].target then s
  else changeFan f (fun r => settle s.thermal.overrideOn { r with target := t }) s

/-- A settings change of a fan: the settings stored, the target recomputed once, the duty settled (R113, R114). -/
def reconfigure (f : Fan) (g : FanRecord → FanRecord) (s : State) : State :=
  updateReservation
    (changeFan f (fun r => settle s.thermal.overrideOn { g r with target := targetOf s.zones (g r) }) s)

/-- Every fan settled, at a start or end of the override (R119, R120). -/
def settleAll (s : State) : State :=
  allFans.foldl (fun s f => changeFan f (settle s.thermal.overrideOn) s) s

end Sys2Proof.Machine
end

