-- ==== Sys2Proof/Machine/Thermal.lean ====
section
/-! DEFINITION. Zone temperatures and the thermal override of the Sensor Unit (R103 to R105, R119, R120), and the cache
of blade telemetry (R92, R94). -/

namespace Sys2Proof.Machine

/-! ### Contributions (R103) -/

def largest : List Int → Option Int
  | [] => none
  | x :: rest =>
    match largest rest with
    | none => some x
    | some y => some (max x y)

/-- The valid readings of a slot's cache (R91). -/
def validReadings (t : TelemetryPart) : List Int := allChannels.filterMap fun k => t.readings[k]

/-- What a blade offers to its zone: nothing while its main rail is off, its largest valid reading while it is fresh,
the zone's stale substitute otherwise (R103). -/
def slotContribution (r : SlotRecord) (substitute : Int) : Option Int :=
  if r.rail.mainRail then
    if r.tel.stale then some substitute
    else
      match largest (validReadings r.tel) with
      | none => some substitute
      | some t => some t
  else none

/-- The contributions to a zone: its blades, then its mapped channels (R103). -/
def contributions (s : State) (z : Zone) : List Int :=
  (allSlots.filterMap fun i =>
    if (s.slot i).adm.zone = z then slotContribution (s.slot i) s.zones[z].substitute else none) ++
  (allChannels.filterMap fun c => if s.channels[c].zone = some z then s.channels[c].result else none)

/-- T(z): the largest contribution, or the stale substitute when there is none (R104). -/
def zoneTemp (s : State) (z : Zone) : Int :=
  match largest (contributions s z) with
  | none => s.zones[z].substitute
  | some t => t

/-- The temperatures of the given zones recomputed and stored. -/
def retemp (zs : List Zone) (s : State) : State :=
  zs.foldl (fun s z => s.modZone z fun r => { r with temp := zoneTemp s z }) s

/-! ### The override (R105) -/

/-- Some zone with a limit stands above it. -/
def overLimit (s : State) : Bool :=
  allZones.any fun z => decide (s.zones[z].limit ≠ -128) && decide (s.zones[z].limit < s.zones[z].temp)

/-- Every zone with a limit stands at or below it by the hysteresis. -/
def belowLimit (s : State) : Bool :=
  allZones.all fun z =>
    decide (s.zones[z].limit = -128) || decide (s.zones[z].temp ≤ s.zones[z].limit - s.thermal.hysteresis)

/-- The override evaluated; a change of it settles every fan (R105, R119, R120). -/
def evaluateOverride (s : State) : State :=
  if s.thermal.overrideOn then
    if belowLimit s then settleAll { s with thermal := { s.thermal with overrideOn := false } } else s
  else if overLimit s then
    settleAll (raiseChassis .override { s with thermal := { s.thermal with overrideOn := true } })
  else s

/-! ### Handing thermal changes on (R104, R105, R108, R125) -/

/-- Whether a zone's T, T_low or R differs between two states. -/
def zoneChanged (before after : State) (z : Zone) : Bool :=
  decide (before.zones[z].temp ≠ after.zones[z].temp) || decide (before.zones[z].low ≠ after.zones[z].low) ||
    decide (before.zones[z].range ≠ after.zones[z].range)

/-- Whether a zone temperature, a T_abs or the hysteresis differs between two states (R105). -/
def overrideInputsChanged (before after : State) : Bool :=
  decide (before.thermal.hysteresis ≠ after.thermal.hysteresis) ||
    allZones.any fun z =>
      decide (before.zones[z].temp ≠ after.zones[z].temp) || decide (before.zones[z].limit ≠ after.zones[z].limit)

/-- The fans that follow a changed zone take their new targets, then the override is evaluated once on what stands
after the changes, then F is brought up to date. Nothing is handed on where no zone and no hysteresis changed
(R104, R105, log 13). -/
def propagate (before after : State) : State :=
  if before.zones = after.zones ∧ before.thermal = after.thermal then after
  else
    let s1 := allFans.foldl
      (fun s f => if allZones.any (fun z => zoneChanged before after z && follows s.fans[f] z) then retarget f s else s)
      after
    let s2 := if overrideInputsChanged before after then evaluateOverride s1 else s1
    updateReservation s2

/-- Recompute the given zones and hand a change on (R104). -/
def rezone (zs : List Zone) (s : State) : State := propagate s (retemp zs s)

/-- Recompute the zone of a slot (R104). -/
def rezoneSlot (i : Slot) (s : State) : State := rezone [(s.slot i).adm.zone] s

/-! ### Telemetry (R92, R94) -/

/-- The cache value of an item: -128 is "no reading" (R92). -/
def readingOf (b : Byte) : Option Int := if b.toInt = -128 then none else some b.toInt

/-- An item written to the cache; an index of 8 or more is skipped (R92). -/
def storeReading (t : TelemetryPart) (it : TelemetryItem) : TelemetryPart :=
  if h : it.sensor.toNat < 8 then { t with readings := t.readings.set it.sensor.toNat (readingOf it.reading) } else t

/-- The cache cleared, at removal and at a standby cut (R94). -/
def clearTelemetry (t : TelemetryPart) : TelemetryPart :=
  { t with readings := Vector.replicate 8 none, stale := false, staleTimer := .stopped }

end Sys2Proof.Machine
end

