-- ==== Sys2Proof/Machine/Budget.lean ====
section
/-! DEFINITION. The Budget Arbiter with the Rail Sequencer's actions that it takes (chapters 4, 5): commitments and
headroom, the grant queue, the main-off, shedding, restore, grants and the evaluation. -/

namespace Sys2Proof.Machine

/-! ### Commitment and headroom (R48, R49) -/

/-- The commitment of a slot: standby W held plus main W held (R48). -/
def commitment (r : SlotRecord) : Nat := r.bud.standbyW + r.bud.mainW

def commitments (s : State) : Nat := (allSlots.map fun i => commitment (s.slot i)).sum

/-- Headroom H: the available capacity less F and less the commitments, computed afresh at each test (R49). -/
def headroom (s : State) : Int := (s.supply.capacity : Int) - s.fanReservation - commitments s

/-- The effective requested W of a slot; an absent pair counts as 0 W (log 18). -/
def effectiveRequested (r : SlotRecord) : Nat :=
  match r.inv.effectivePair with
  | some p => p.requested
  | none => 0

/-- The effective floor W of a slot; an absent pair counts as 0 W (log 18). -/
def effectiveFloor (r : SlotRecord) : Nat :=
  match r.inv.effectivePair with
  | some p => p.floor
  | none => 0

/-! ### The grant queue (R51, R52) and the state changes (R14) -/

/-- A standby request placed after every standby request (R51). -/
def insertStandby (e : Request) : List Request → List Request
  | [] => [e]
  | r :: rest => if r.kind = .standby then r :: insertStandby e rest else e :: r :: rest

/-- A main request placed at the tail of its priority group: before the first main request of worse priority (R51). -/
def insertMain (priority : Slot → Fin 4) (e : Request) : List Request → List Request
  | [] => [e]
  | r :: rest =>
    if r.kind = .main ∧ priority e.slot < priority r.slot then e :: r :: rest else r :: insertMain priority e rest

def State.priorityOf (s : State) (i : Slot) : Fin 4 := (s.slot i).adm.priority

def setQueue (q : List Request) (s : State) : State := { s with budget := { s.budget with queue := q } }

def withoutRequest (i : Slot) (q : List Request) : List Request := q.filter fun e => decide (e.slot ≠ i)

/-- A slot moved to a state: its request leaves the queue with the old state, and a request with a clear shortage mark
enters for STANDBY_WAIT and POWER_WAIT (R14, R51). -/
def moveTo (i : Slot) (st : SlotState) (s : State) : State :=
  let q := withoutRequest i s.budget.queue
  let s1 := s.modAdm i fun a => { a with state := st }
  match st with
  | .standbyWait => setQueue (insertStandby { slot := i, kind := .standby, short := false } q) s1
  | .powerWait => setQueue (insertMain s1.priorityOf { slot := i, kind := .main, short := false } q) s1
  | .empty | .announceWait | .unidentified | .denied | .standby | .powering | .online | .capped | .shuttingDown
  | .fault => setQueue q s1

/-- A slot's priority set. A change moves a waiting main request to the tail of its new group, its mark kept; a standby
request keeps its place (R20, R52). -/
def setPriority (i : Slot) (p : Fin 4) (s : State) : State :=
  if p = s.priorityOf i then s
  else
    let s1 := s.modAdm i fun a => { a with priority := p }
    match s1.budget.queue.find? fun e => decide (e.slot = i) && e.kind == .main with
    | none => s1
    | some e => setQueue (insertMain s1.priorityOf e (withoutRequest i s1.budget.queue)) s1

/-! ### Releases and the main-off (R48, R57, R76) -/

/-- The main release of R48. -/
def releaseMain (b : BudgetPart) : BudgetPart := { b with mainW := 0, grantW := 0, capped := false, capAck := .stopped }

/-- The rail outputs and timers at a main-off (R76 steps 1 and 2). -/
def railsOff (r : RailPart) : RailPart :=
  { r with
    mainRail := false, resetAsserted := true, stage := .none, powerGoodTimer := .stopped, resetHold := .stopped,
    shutdown := .stopped, reason := none }

/-- The lane of a slot in POWERING freed (R57). -/
def freeLane (i : Slot) (s : State) : State :=
  if s.slotState i = .powering then { s with budget := { s.budget with lanesInUse := s.budget.lanesInUse - 1 } } else s

/-- The main-off of R76, to the state its cause names, with the zone recomputed for the rail that goes off (R104). The
evaluation and any alert are the event's. -/
def mainOff (i : Slot) (st : SlotState) (s : State) : State :=
  let s1 := (freeLane i s).modSlot i fun r =>
    { r with rail := railsOff r.rail, bud := releaseMain r.bud, que := discardPowerFrames r.que }
  rezoneSlot i (moveTo i st s1)

/-! ### Picking slots by priority (R58, R60, R62, R64) -/

/-- The slot of lowest priority (highest number) that satisfies a test; among equals the highest slot number. -/
def pickWorst (s : State) (p : SlotRecord → Bool) : Option Slot :=
  allSlots.foldl
    (fun best i =>
      if p (s.slot i) then
        match best with
        | none => some i
        | some j => if s.priorityOf j ≤ s.priorityOf i then some i else some j
      else best) none

/-- The slot of best priority (lowest number) that satisfies a test; among equals the lowest slot number. -/
def pickBest (s : State) (p : SlotRecord → Bool) : Option Slot :=
  allSlots.foldl
    (fun best i =>
      if p (s.slot i) then
        match best with
        | none => some i
        | some j => if s.priorityOf i < s.priorityOf j then some i else some j
      else best) none

/-- The highest slot number that satisfies a test. -/
def pickHighest (s : State) (p : SlotRecord → Bool) : Option Slot :=
  allSlots.foldl (fun best i => if p (s.slot i) then some i else best) none

/-! ### Shedding (R58 to R63) -/

/-- A cap candidate (R58). -/
def capCandidate (r : SlotRecord) : Bool :=
  (r.adm.state == .online || (r.adm.state == .shuttingDown && !r.bud.capped)) &&
    decide (effectiveFloor r < r.bud.mainW)

/-- A cap (R59). -/
def capSlot (i : Slot) (s : State) : State :=
  let r := s.slot i
  let watts := effectiveFloor r
  let sequence := r.bud.capSeq + 1
  let s1 := s.modBud i fun b =>
    { b with mainW := watts, capped := true, capSeq := sequence, capAck := .running (s.timing.capAckS * 1000) }
  let s2 := offerControl i (capFrame s sequence watts) s1
  let s3 := if r.adm.state = .online then moveTo i .capped s2 else s2
  raiseChassis .shed s3

/-- A power-off by shedding (R61). -/
def powerOff (i : Slot) (s : State) : State := raiseChassis .shed (mainOff i .powerWait s)

/-- A standby cut with its effects in every block (R15, R27, R62, R94, R156). -/
def standbyCut (i : Slot) (s : State) : State :=
  let s1 := s.modSlot i fun r =>
    { r with
      rail := { r.rail with standbyRail := false }, bud := { r.bud with standbyW := 0 },
      adm := { r.adm with announceWindow := .stopped }, tel := clearTelemetry r.tel }
  raiseChassis .shed (moveTo i .standbyWait (flushSlot i (purgeStations i s1)))

def isPowering (r : SlotRecord) : Bool := r.adm.state == .powering

def isMainPowered (r : SlotRecord) : Bool := r.adm.state.mainPowered

/-- A slot that holds standby alone (R62). -/
def isStandbyOnly (r : SlotRecord) : Bool := r.adm.state.standbyHeld && !r.adm.state.mainPowered

/-- The next shedding action: a cap, then a power-off, then a standby cut, in the orders of R58, R60 and R62; none
when nothing is left to take (R63). -/
def shedOne (s : State) : Option State :=
  match pickWorst s capCandidate with
  | some i => some (capSlot i s)
  | none =>
    match pickHighest s isPowering with
    | some i => some (powerOff i s)
    | none =>
      match pickWorst s isMainPowered with
      | some i => some (powerOff i s)
      | none =>
        match pickWorst s isStandbyOnly with
        | some i => some (standbyCut i s)
        | none => none

/-- Step 1 of an evaluation: shed while H is below 0. The first argument bounds the actions: 48 are enough, three for
each slot (log 20). -/
def shed : Nat → State → State
  | 0, s => s
  | n + 1, s =>
    if headroom s < 0 then
      match shedOne s with
      | none => s
      | some t => shed n t
    else s

/-! ### Restore (R64, R65) -/

/-- An uncap (R65). -/
def uncapSlot (i : Slot) (s : State) : State :=
  let r := s.slot i
  let s1 := s.modBud i fun b => { b with mainW := b.grantW, capped := false, capAck := .stopped }
  let s2 := offerControl i (uncapFrame s r.bud.capSeq r.bud.grantW) s1
  if r.adm.state = .capped then moveTo i .online s2 else s2

/-- What an uncap needs of H: grant W less main W held, plus the restore margin (R64). -/
def restoreNeed (s : State) (i : Slot) : Int :=
  ((s.slot i).bud.grantW : Int) - (s.slot i).bud.mainW + s.budget.margin

def isCapped (r : SlotRecord) : Bool := r.bud.capped

/-- Step 2 of an evaluation: capped slots restored in their order up to the first that does not fit (R64). The first
argument bounds the uncaps: 16 are enough. -/
def restore : Nat → State → State
  | 0, s => s
  | n + 1, s =>
    if s.supply.brownout then s
    else
      match pickBest s isCapped with
      | none => s
      | some i => if restoreNeed s i ≤ headroom s then restore n (uncapSlot i s) else s

/-! ### Grants (R53 to R57, R78) -/

/-- A standby grant (R5, R53). -/
def grantStandby (i : Slot) (s : State) : State :=
  (moveTo i .announceWait s).modSlot i fun r =>
    { r with
      bud := { r.bud with standbyW := s.budget.allowance }, rail := { r.rail with standbyRail := true },
      adm := { r.adm with announceWindow := .running (s.timing.announceWindowS * 1000) } }

/-- RAIL_UP left: the power-good timer stopped, the reset hold started (R78). -/
def leaveRailUp (hold : Nat) (r : RailPart) : RailPart :=
  { r with powerGoodTimer := .stopped, stage := .resetHold, resetHold := .running hold }

/-- The start of the power-on sequence at a main grant; a filtered power-good level already high leaves RAIL_UP within
the grant (R78). -/
def startSequence (timeout hold : Nat) (r : RailPart) : RailPart :=
  let up := { r with mainRail := true, resetAsserted := true, stage := .railUp, powerGoodTimer := .running timeout }
  if r.powerGood then leaveRailUp hold up else up

/-- A main grant (R55). -/
def grantMain (i : Slot) (s : State) : State :=
  let watts := effectiveRequested (s.slot i)
  let s1 := (moveTo i .powering s).modSlot i fun r =>
    { r with
      bud := { r.bud with mainW := watts, grantW := watts },
      rail := startSequence s.timing.powerGoodTimeout s.timing.resetHold r.rail }
  rezoneSlot i { s1 with budget := { s1.budget with lanesInUse := s1.budget.lanesInUse + 1 } }

def anyCapped (s : State) : Bool := allSlots.any fun i => (s.slot i).bud.capped

/-- The four conditions of R54 for a main request of slot i at the head. -/
def mainServed (s : State) (i : Slot) : Bool :=
  !anyCapped s && !s.supply.brownout && decide (s.budget.lanesInUse < s.budget.laneCount) &&
    decide ((effectiveRequested (s.slot i) : Int) ≤ headroom s)

/-- The two conditions of R53 for a standby request at the head. -/
def standbyServed (s : State) : Bool :=
  decide (1 ≤ s.budget.allowance) && decide ((s.budget.allowance : Int) ≤ headroom s)

/-- The shortage mark of a head main request found short set, with BUDGET_SHORT (R56). -/
def markShort (s : State) : State :=
  match s.budget.queue with
  | [] => s
  | e :: rest =>
    if headroom s < effectiveRequested (s.slot e.slot) ∧ e.short = false then
      raiseChassis .budgetShort (setQueue ({ e with short := true } :: rest) s)
    else s

/-- Step 3 of an evaluation: grants from the head of the queue until it is empty or its head waits. The first argument
bounds the grants: the queue's length is enough. -/
def grants : Nat → State → State
  | 0, s => s
  | n + 1, s =>
    match s.budget.queue with
    | [] => s
    | e :: _ =>
      match e.kind with
      | .standby => if standbyServed s then grants n (grantStandby e.slot s) else s
      | .main => if mainServed s e.slot then grants n (grantMain e.slot s) else markShort s

/-! ### The evaluation (R50) -/

/-- The actions that shedding can take at most: three for each slot. -/
abbrev shedBound : Nat := 48

/-- The evaluation: shed, restore, grant, and shed once more if H is below 0 when the grants end (R50). -/
def evaluate (s : State) : State :=
  let s1 := shed shedBound s
  let s2 := restore 16 s1
  let s3 := grants s2.budget.queue.length s2
  if headroom s3 < 0 then shed shedBound s3 else s3

/-- The one evaluation of an event, where one of its causes arose: a cause that the event's rule names, or a change of
F or of the available capacity between the state before the event and the state after its own changes (R50). -/
def evaluateIfDue (before after : State) (cause : Bool) : State :=
  if cause || decide (after.fanReservation ≠ before.fanReservation) ||
      decide (after.supply.capacity ≠ before.supply.capacity) then evaluate after
  else after

end Sys2Proof.Machine
end

