-- ==== Sys2Proof/Machine/Events.lean ====
section
/-! DEFINITION. How an event ends: the evaluation, then the NOTICE, then the links (R50, R150, R152, R168, R183, log 7). -/

namespace Sys2Proof.Machine

/-- The NOTICE that lists the whole alert set with the notice number in force (R168, R183). -/
def noticeFrame (s : State) (destination : Station) : Frame where
  octets := s.buildControl destination kindNotice s.mgmt.notice
    ([octet s.mgmt.alerts.length] ++ s.mgmt.alerts.flatMap fun a => [octet a.kind.code, octet a.index])
  fcs := none

/-- One NOTICE at the end of an event that added an alert, if a notice destination exists; an admitted one takes the
number (R168). -/
def sendNotice (before after : State) : State :=
  if alertAdded before after then
    match after.mgmt.destination with
    | none => after
    | some (station, u) =>
      match offerClass u 0 { frame := noticeFrame after station, source := none } after with
      | none => after
      | some t => { t with mgmt := { t.mgmt with notice := t.mgmt.notice + 1 } }
  else after

/-- The end of an event that is no command: evaluation, NOTICE, links. -/
def close (before after : State) (cause : Bool) : State := beginAll (sendNotice before (evaluateIfDue before after cause))

end Sys2Proof.Machine
end

