-- ==== Sys2Proof/Machine/FanEvents.lean ====
section
/-! DEFINITION. The meanings of the fan events (R116, R117, R122, R123). -/

namespace Sys2Proof.Machine

/-- A ramp timer's expiry (R116, R125). -/
def rampExpiry (f : Fan) (s : State) : State := updateReservation (changeFan f rampStep s)

def execRampExpiry (f : Fan) (s : State) : Host.Outcome State Fault Refusal :=
  .next (if s.fans[f].ramp.isRunning then close s (rampExpiry f s) false else s)

/-- A spin-up timer's expiry (R117, R125). -/
def spinUpExpiry (f : Fan) (s : State) : State := updateReservation (changeFan f endSpinUp s)

def execSpinUpExpiry (f : Fan) (s : State) : Host.Outcome State Fault Refusal :=
  .next (if s.fans[f].spin.isRunning then close s (spinUpExpiry f s) false else s)

/-- A pulse counted, up to 1023 (R122). -/
def countPulse (f : FanRecord) : FanRecord := { f with pulses := min (f.pulses + 1) 1023 }

def execTachPulse (f : Fan) (s : State) : Host.Outcome State Fault Refusal := .next (s.modFan f countPulse)

/-- STALL raised where a gate result finds the fan stalled (R123). -/
def checkStall (f : Fan) (s : State) : State :=
  if stalled s.fans[f] then raise { kind := .stall, index := f.val + 1 } s else s

/-- The gate result of one fan (R122, R123). -/
def gateFan (f : Fan) (s : State) : State := checkStall f (changeFan f gateResult s)

/-- The tach gate's expiry for every fan; the gate starts again (R122). -/
def gateExpiry (s : State) : State :=
  let s1 := allFans.foldl (fun s f => gateFan f s) s
  updateReservation { s1 with tachGate := .running 500 }

def execTachGateExpiry (s : State) : Host.Outcome State Fault Refusal :=
  .next (if s.tachGate.isRunning then close s (gateExpiry s) false else s)

end Sys2Proof.Machine
end

