-- ==== Sys2Proof/Machine/Sweep.lean ====
section
/-! DEFINITION. The local sweep engine of the Sensor Unit (R95 to R100): triggers, starts, the channel order, the
period timer. -/

namespace Sys2Proof.Machine

/-- The period timer as arming leaves it: started with the period under PERIOD, stopped under any other select (R98). -/
def armedTimer (c : SweepSettings) : Timer :=
  match c.select with
  | .period => .running c.period
  | .command | .change => .stopped

/-- A trigger (R96, R97): in IDLE it starts a sweep, with any staged settings made current and the timer armed;
otherwise it is counted as missed. -/
def triggerSweep (w : Sweep) : Sweep :=
  match w.engine with
  | .idle =>
    match w.staged with
    | none => { w with engine := .starting }
    | some c => { w with engine := .starting, current := c, staged := none, periodTimer := armedTimer c }
  | .starting | .converting _ => { w with missed := w.missed + 1 }

/-- A filtered presence or bay line change: a trigger under CHANGE alone, else not counted (R97). -/
def changeTrigger (s : State) : State :=
  match s.sweep.current.select with
  | .change => { s with sweep := triggerSweep s.sweep }
  | .command | .period => s

/-- The lowest enabled channel at or above a number (R96). -/
def nextChannel (mask : BitVec 8) (least : Nat) : Option Channel :=
  allChannels.find? fun c => decide (least ≤ c.val) && mask.getLsbD c.val

/-- The engine going on to the lowest enabled channel at or above a number, or to IDLE (R96). -/
def advanceEngine (w : Sweep) (least : Nat) : Sweep :=
  { w with engine := match nextChannel w.current.mask least with
      | some c => .converting c
      | none => .idle }

/-- The period timer's expiry (R97, R98): under PERIOD it is a trigger; then REPEAT starts the timer again and SINGLE
does not, unless the trigger has made staged settings current and so armed the timer itself (log 14). -/
def periodExpiry (w : Sweep) : Sweep :=
  match w.current.select with
  | .command | .change => { w with periodTimer := .stopped }
  | .period =>
    let w1 := triggerSweep { w with periodTimer := .stopped }
    if w.engine = .idle ∧ w.staged.isSome then w1
    else
      match w1.current.mode with
      | .repeating => { w1 with periodTimer := .running w1.current.period }
      | .single => w1

/-- A running sweep ended, the conversion in progress lost (R100, R172). -/
def endSweep (w : Sweep) : Sweep := { w with engine := .idle }

/-- STOP_SWEEP: the sweep ended and the period timer stopped, the staged settings kept (R100). -/
def stopSweeping (w : Sweep) : Sweep := { w with engine := .idle, periodTimer := .stopped }

/-- SET_SWEEP with its full set: current at once in IDLE, with the timer armed; staged during a sweep (R99). -/
def storeSweep (c : SweepSettings) (w : Sweep) : Sweep :=
  match w.engine with
  | .idle => { w with current := c, staged := none, periodTimer := armedTimer c }
  | .starting | .converting _ => { w with staged := some c }

end Sys2Proof.Machine
end

