-- ==== Sys2Proof/Machine/Admission.lean ====
section
/-! DEFINITION. The Slot Admission Unit (chapter 1): insertion, removal, announces and the admission table; and the
blade control frames that other blocks take (R66, R86, R92). -/

namespace Sys2Proof.Machine

/-- What an event of a block leaves: the state after its own changes, and whether one of its rules asks for an
evaluation (R50). Changes of F and of the capacity ask by themselves. -/
structure Effect where
  state : State
  cause : Bool

/-! ### Insertion and removal (R4, R16, R22) -/

/-- The insertion of R4, with the inventory part of R22. -/
def insertion (i : Slot) (s : State) : State :=
  let s1 := (moveTo i .standbyWait s).modInv i fun r =>
    { r with present := true, announced := false, insertions := min (r.insertions + 1) 65535 }
  raiseSlot .insert i s1

/-- The teardown of R16 in every block. -/
def removal (i : Slot) (s : State) : State :=
  let s1 := (freeLane i s).modSlot i fun r =>
    { r with
      rail := { railsOff r.rail with standbyRail := false }, bud := { releaseMain r.bud with standbyW := 0 },
      adm := { r.adm with announceWindow := .stopped }, inv := { r.inv with present := false },
      tel := clearTelemetry r.tel }
  raiseSlot .remove i (rezoneSlot i (moveTo i .empty (flushSlot i (purgeStations i s1))))

/-- A presence line at a level, with its filter window started or cancelled (R2). -/
def movePresence (level : Bool) (length : Nat) (a : AdmissionPart) : AdmissionPart :=
  { a with presenceLine := level, window := filterWindow a.filtered level length }

/-- A presence window's expiry: the filtered level takes the line's level; a rise in EMPTY is an insertion, a fall in
any other state a removal, and either is handed on as a CHANGE trigger (R2, R4, R16). -/
def presenceExpiry (i : Slot) (s : State) : Effect :=
  let a := (s.slot i).adm
  let s1 := s.modAdm i fun a => { a with window := .stopped, filtered := a.presenceLine }
  if a.presenceLine = a.filtered then { state := s1, cause := false }
  else if a.presenceLine then
    if a.state = .empty then { state := changeTrigger (insertion i s1), cause := true }
    else { state := changeTrigger s1, cause := false }
  else if a.state = .empty then { state := changeTrigger s1, cause := false }
  else { state := changeTrigger (removal i s1), cause := true }

/-! ### Announces (R7 to R13, R23) -/

/-- The announced pair: requested power at most 4000 W, the floor at most the requested power (R8). -/
def announcedPair (b : AnnounceBody) : PowerPair where
  requested := min b.requested.toNat 4000
  floor := min b.floor.toNat (min b.requested.toNat 4000)

/-- The record that governs a blade type: its entry, or the default record (R10). -/
def governing (s : State) (bladeType : Word16) : AdmissionRule :=
  match s.admissionTable.find? fun e => e.bladeType = bladeType with
  | some e => e.rule
  | none => s.admissionDefault

/-- Whether a record's maximum clamps a pair (R10). -/
def clamps (g : AdmissionRule) (p : PowerPair) : Bool := decide (g.maximum ≠ 0) && decide (g.maximum < p.requested)

/-- The effective pair of an announced pair under a record (R10). -/
def effectivePair (g : AdmissionRule) (p : PowerPair) : PowerPair :=
  if clamps g p then { requested := g.maximum, floor := min p.floor g.maximum } else p

/-- The states in which an accepted ANNOUNCE is evaluated (R7). -/
def SlotState.evaluated : SlotState → Bool
  | .announceWait | .unidentified | .denied | .standby | .powerWait => true
  | .empty | .standbyWait | .powering | .online | .capped | .shuttingDown | .fault => false

/-- What every accepted ANNOUNCE writes to the record before its addresses (R23 steps 1 to 3). -/
def recordAnnounce (g : AdmissionRule) (b : AnnounceBody) (r : InventoryRecord) : InventoryRecord :=
  { r with
    identity := some { bladeType := b.bladeType, serial := b.serial, firmware := b.firmware }, announced := true,
    announcedPair := some (announcedPair b), effectivePair := some (effectivePair g (announcedPair b)),
    clamped := clamps g (announcedPair b) }

/-- The state that an ADMIT gives (R11, R12): POWER_WAIT stays; elsewhere the policy decides. -/
def admittedState (old : SlotState) (p : Policy) : SlotState :=
  if old = .powerWait then .powerWait
  else
    match p with
    | .manual => .standby
    | .auto => .powerWait

/-- A governing record's default priority applied (R10). -/
def applyPriority (g : AdmissionRule) (i : Slot) (s : State) : State :=
  match g.priority with
  | some p => setPriority i p s
  | none => s

/-- The slot's state after an evaluation, with ATTENTION on a DENY; a slot that stays in POWER_WAIT keeps its request
(R11, R12). -/
def applyAction (g : AdmissionRule) (i : Slot) (s : State) : State :=
  match g.action with
  | .deny => raiseSlot .attention i (moveTo i .denied s)
  | .allow =>
    if s.slotState i = .powerWait then s
    else moveTo i (admittedState (s.slotState i) (s.slot i).adm.policy) s

/-- The evaluation of an accepted ANNOUNCE (R10, R11, R12, R23). -/
def evaluateAnnounce (i : Slot) (b : AnnounceBody) (s : State) : Effect :=
  let g := governing s b.bladeType
  let pair := effectivePair g (announcedPair b)
  let s1 := s.modInv i fun r =>
    { recordAnnounce g b r with lastOutcome := match g.action with
        | .allow => .allowed
        | .deny => .denied }
  let s2 := applyAction g i (applyPriority g i s1)
  let s3 := s2.modAdm i fun a => { a with announceWindow := .stopped }
  let s4 := refreshStations i (b.addresses.take 4) s3
  { state := offerControl i (admitResultFrame s (g.action == .deny) pair) s4
    cause := decide (s2.priorityOf i ≠ s.priorityOf i) || decide (s.slotState i = .powerWait) ||
      decide (s2.slotState i = .powerWait) }

/-- An accepted ANNOUNCE recorded without evaluation (R13). -/
def recordOnly (i : Slot) (b : AnnounceBody) (s : State) : State :=
  refreshStations i (b.addresses.take 4) (s.modInv i (recordAnnounce (governing s b.bladeType) b))

/-- An ANNOUNCE handed to the unit (R7). -/
def takeAnnounce (i : Slot) (b : AnnounceBody) (s : State) : Effect :=
  if s.slotState i = .empty ∨ s.slotState i = .standbyWait then
    { state := drop (.slot i) .notOnline s, cause := false }
  else if b.requested = 0 then { state := drop (.slot i) .malformed s, cause := false }
  else if (s.slotState i).evaluated then evaluateAnnounce i b s
  else { state := recordOnly i b s, cause := false }

/-! ### The other blade frames -/

/-- A TELEMETRY handed to the Sensor Unit (R92). -/
def takeTelemetry (i : Slot) (readings : List TelemetryItem) (s : State) : Effect :=
  if s.slotState i = .empty ∨ s.slotState i = .standbyWait then
    { state := drop (.slot i) .notOnline s, cause := false }
  else
    { state := rezoneSlot i (s.modTel i fun t =>
        { readings.foldl storeReading t with stale := false, staleTimer := .running (s.timing.staleS * 1000) })
      cause := false }

/-- Whether a CAP_ACK is taken (R66). -/
def capAckTaken (b : BudgetPart) (sequence : Word16) : Bool :=
  b.capped && b.capAck.isRunning && decide (sequence = b.capSeq)

/-- A CAP_ACK handed to the Budget Arbiter (R66). -/
def takeCapAck (i : Slot) (sequence : Word16) (s : State) : Effect :=
  if capAckTaken (s.slot i).bud sequence then
    { state := s.modBud i fun b => { b with capAck := .stopped }, cause := true }
  else { state := s, cause := false }

/-- A SHUTDOWN_ACK handed to the Rail Sequencer (R86). -/
def takeShutdownAck (i : Slot) (s : State) : Effect :=
  if s.slotState i = .shuttingDown then { state := mainOff i .standby s, cause := true }
  else { state := s, cause := false }

end Sys2Proof.Machine
end

