-- ==== Sys2Proof/Machine/Responses.lean ====
section
/-! DEFINITION. What a command answers (R165, R166, R182): statuses, result items, RESPONSE frames. The conventions of
the result layout that R182 leaves open stand in log 10. -/

namespace Sys2Proof.Machine

inductive Status where
  | ok | busy | badState | badValue | full | unknown
  deriving DecidableEq, Repr

/-- The status codes of R181. -/
def Status.code : Status → Byte
  | .ok => 0
  | .busy => 1
  | .badState => 2
  | .badValue => 3
  | .full => 4
  | .unknown => 5

/-- What the execution of a command gives: the state after its own changes, its status, its results (result k of the
command's rule at place k - 1, as the values of its items), and whether its rule asks for an evaluation. -/
structure Answer where
  state : State
  status : Status
  results : List (List Octets)
  cause : Bool

def answerOk (s : State) (results : List (List Octets)) (cause : Bool) : Answer where
  state := s
  status := .ok
  results := results
  cause := cause

/-- A refusal: no change and no results (R166). -/
def refuse (s : State) (status : Status) : Answer where
  state := s
  status := status
  results := []
  cause := false

/-- A command whose items were read, or BADVALUE where they could not be (R166, R181). -/
def withArgs {α : Type} (args : Option α) (s : State) (run : α → Answer) : Answer :=
  match args with
  | some a => run a
  | none => refuse s .badValue

/-! ### Result items (R182) -/

def one (n : Nat) : Octets := [octet n]

/-- A value that is absent stands as an item of length 0 (log 10). -/
def orAbsent {α : Type} (encode : α → Octets) : Option α → Octets
  | some a => encode a
  | none => []

/-- A result that a command returns only when it was carried (log 10). -/
def ifCarried {α : Type} (encode : α → Octets) : Option α → List Octets
  | some a => [encode a]
  | none => []

/-- One item per member, the member's number first (R182). -/
def perMember {α : Type} (members : List α) (number : α → Nat) (value : α → Octets) : List Octets :=
  members.map fun m => octet (number m) :: value m

def perSlot (value : Slot → Octets) : List Octets := perMember allSlots (fun i => i.val + 1) value
def perBay (value : Bay → Octets) : List Octets := perMember allBays (fun b => b.val + 1) value
def perFan (value : Fan → Octets) : List Octets := perMember allFans (fun f => f.val + 1) value
def perZone (value : Zone → Octets) : List Octets := perMember allZones (fun z => z.val + 1) value
def perChannel (value : Channel → Octets) : List Octets := perMember allChannels (fun c => c.val) value

/-- The items of the results, numbered from 1 in the order of the command's rule (R182). -/
def resultItems : Nat → List (List Octets) → List Octets
  | _, [] => []
  | n, values :: rest =>
    values.map (fun v => itemOctets { field := octet n, value := v }) ++ resultItems (n + 1) rest

/-- The octets of items that one RESPONSE holds at most, for a length of 2030 (R182). -/
abbrev responseRoom : Nat := 2003

/-- Items carried over as many bodies as they need, in order (R182). -/
def packItems : Octets → List Octets → List Octets
  | body, [] => [body]
  | body, x :: rest =>
    if body.length + x.length ≤ responseRoom then packItems (body ++ x) rest else body :: packItems x rest

/-- Where a command came from and what it echoes (R164, R165). -/
structure Origin where
  uplink : Uplink
  source : Station
  sequence : Word16
  code : Word16

def responseFrame (s : State) (o : Origin) (status : Status) (items : Octets) : Frame where
  octets := s.buildControl o.source kindResponse o.sequence (be16 o.code ++ [status.code] ++ items)
  fcs := none

/-- One RESPONSE frame offered to class 0 of the arrival uplink, or dropped under RESP_DROP (R165). -/
def offerResponse (o : Origin) (status : Status) (items : Octets) (s : State) : State :=
  match offerClass o.uplink 0 { frame := responseFrame s o status items, source := none } s with
  | some t => t
  | none => drop (.uplink o.uplink) .respDrop s

/-- The RESPONSE of a command, in as many frames as its items need (R165, R182). -/
def respond (o : Origin) (status : Status) (results : List (List Octets)) (s : State) : State :=
  (packItems [] (resultItems 1 results)).foldl (fun s body => offerResponse o status body s) s

/-! ### Codes of enumerations (R181; those that it does not list, log 10) -/

def SlotState.code : SlotState → Nat
  | .empty => 0
  | .standbyWait => 1
  | .announceWait => 2
  | .unidentified => 3
  | .denied => 4
  | .standby => 5
  | .powerWait => 6
  | .powering => 7
  | .online => 8
  | .capped => 9
  | .shuttingDown => 10
  | .fault => 11

def policyCode : Nat → Option Policy
  | 0 => some .auto
  | 1 => some .manual
  | _ => none

def Policy.code : Policy → Nat
  | .auto => 0
  | .manual => 1

def redundancyCode : Nat → Option Redundancy
  | 0 => some .none
  | 1 => some .n1
  | 2 => some .grid
  | _ => none

def Redundancy.code : Redundancy → Nat
  | .none => 0
  | .n1 => 1
  | .grid => 2

def fanModeCode : Nat → Option FanMode
  | 0 => some .zone
  | 1 => some .hottest
  | 2 => some .full
  | 3 => some .off
  | 4 => some .manual
  | _ => none

def FanMode.code : FanMode → Nat
  | .zone => 0
  | .hottest => 1
  | .full => 2
  | .off => 3
  | .manual => 4

def belowCode : Nat → Option BelowLimit
  | 0 => some .stop
  | 1 => some .min
  | _ => none

def BelowLimit.code : BelowLimit → Nat
  | .stop => 0
  | .min => 1

def sweepModeCode : Nat → Option SweepMode
  | 0 => some .single
  | 1 => some .repeating
  | _ => none

def SweepMode.code : SweepMode → Nat
  | .single => 0
  | .repeating => 1

def triggerCode : Nat → Option TriggerSelect
  | 0 => some .command
  | 1 => some .period
  | 2 => some .change
  | _ => none

def TriggerSelect.code : TriggerSelect → Nat
  | .command => 0
  | .period => 1
  | .change => 2

def selectCode : Nat → Option UplinkSelect
  | 0 => some .a
  | 1 => some .b
  | 2 => some .pairA
  | 3 => some .pairB
  | _ => none

def UplinkSelect.code : UplinkSelect → Nat
  | .a => 0
  | .b => 1
  | .pairA => 2
  | .pairB => 3

def segmentActionCode : Nat → Option SegmentAction
  | 0 => some .forward
  | 1 => some .drop
  | 2 => some .trap
  | _ => none

def SegmentAction.code : SegmentAction → Nat
  | .forward => 0
  | .drop => 1
  | .trap => 2

def admissionActionCode : Nat → Option AdmissionAction
  | 0 => some .allow
  | 1 => some .deny
  | _ => none

def AdmissionAction.code : AdmissionAction → Nat
  | .allow => 0
  | .deny => 1

def formCode : Nat → Option ShutdownForm
  | 0 => some .off
  | 1 => some .eject
  | _ => none

def ShutdownForm.code : ShutdownForm → Nat
  | .off => 0
  | .eject => 1

def alertKindCode (v : Nat) : Option AlertKind := allAlertKinds.find? fun k => decide (k.code = v)

/-- A class of SET_QUEUE, 0 to 3 (R160). -/
def classCode (v : Nat) : Option Cls := if h : v < 4 then some ⟨v, h⟩ else none

def channelCode (v : Nat) : Option Channel := if h : v < 8 then some ⟨v, h⟩ else none

def priorityCode (v : Nat) : Option (Fin 8) := if h : v < 8 then some ⟨v, h⟩ else none

/-- A zone map entry: 0 none, 1 to 4 a zone (R103, R181). -/
def zoneMapCode (v : Nat) : Option (Option Zone) := if v = 0 then some none else (memberOf 4 v).map some

/-- A port of READ_COUNTERS: 1-16 slots, 17 uplink A, 18 uplink B (R181). -/
def portCode (v : Nat) : Option Port :=
  match memberOf 16 v with
  | some i => some (.slot i)
  | none => if v = 17 then some (.uplink .A) else if v = 18 then some (.uplink .B) else none

/-- A tag ID field of a result: 0 for none (R20). -/
def segmentField : Option Nat → Octets
  | some id => be16n id
  | none => be16n 0

def pairField (p : PowerPair) : Octets := be16n p.requested ++ be16n p.floor

/-- Whether a timer or a hold runs, 1 where it does: the model's choice (log 10). -/
def runField (t : Timer) : Octets := flagOctet t.isRunning

def alertField (a : Alert) : Octets := one a.kind.code ++ one a.index

/-- A full set of sweep settings as one item, in the order of R95 (log 10). -/
def sweepField (c : SweepSettings) : Octets :=
  one c.mode.code ++ [c.mask] ++ one c.select.code ++ be16n c.period

def curveField (c : Curve) : Octets := be16n c.p0 ++ be16n c.p1 ++ be16n c.p2 ++ be16n c.p3 ++ be16n c.p4

/-- The priority of an admission record, 0xFF for keep as in field 4 of LOAD_ADMISSION (R181, log 10). -/
def priorityField : Option (Fin 4) → Octets
  | some p => one p.val
  | none => one 0xFF

def admissionRuleField (g : AdmissionRule) : Octets := one g.action.code ++ be16n g.maximum ++ priorityField g.priority

def admissionEntryField (e : AdmissionEntry) : Octets := be16 e.bladeType ++ admissionRuleField e.rule

/-- A segment entry as one item in the order of R142; an absent class override leaves its octet out, the model's choice
(log 10). -/
def segmentEntryField (g : Segment) : Octets :=
  be16n g.tagId ++ be16 g.members ++ one g.select.code ++ one g.action.code ++ flagOctet g.strict ++
    orAbsent (fun c : Cls => one c.val) g.override

end Sys2Proof.Machine
end

