-- ==== Sys2Proof/Machine/Reads.lean ====
section
/-! DEFINITION. The read commands (R29, R30, R46, R72, R107, R127, R142, R161, R167, R171): their results in the order
in which their rules list them. They change no state (R167). -/

namespace Sys2Proof.Machine

/-- A READ command without fields. -/
def readPlain (items : List Item) (s : State) (results : List (List Octets)) : Answer :=
  if itemsFit [] items then answerOk s results false else refuse s .badValue

/-- A command whose only field is a required slot in field 1. -/
def slotField (items : List Item) : Option Slot := if itemsFit [req 1 1] items then fieldSlot 1 items else none

def stageCode : Stage → Nat
  | .none => 0
  | .railUp => 1
  | .resetHold => 2

def readingField : Option Int → Octets
  | some t => be16i t
  | none => be16i (-128)

/-! ### READ_SLOT (R167) -/

/-- The results of R167 in its order. R181 codes four flags alone; that an output reads 1 where a rail is enabled or
reset is asserted and 0 where it is disabled or released, the power-good level 1 where it is high, and every other flag
or running timer 1 where it is set or runs, and that the cap sequence takes two octets, which R181 does not list, are the
model's choices (log 10). -/
def slotResults (r : SlotRecord) : List (List Octets) :=
  [[one r.adm.state.code], [one r.adm.policy.code], [one r.adm.priority.val], [one (r.adm.zone.val + 1)],
    [segmentField r.adm.segment], [one r.adm.cls.val], [be16n r.adm.quanta],
    [be16n r.bud.standbyW], [be16n r.bud.mainW], [be16n r.bud.grantW], [flagOctet r.bud.capped], [be16 r.bud.capSeq],
    [runField r.bud.capAck],
    [flagOctet r.rail.standbyRail], [flagOctet r.rail.mainRail], [flagOctet r.rail.resetAsserted],
    [one (stageCode r.rail.stage)], [flagOctet r.rail.powerGood], [runField r.rail.powerGoodTimer],
    [runField r.rail.resetHold], [runField r.rail.shutdown], [orAbsent (fun f => one f.code) r.rail.reason],
    allChannels.map fun k => readingField r.tel.readings[k],
    [flagOctet r.tel.stale], [runField r.tel.staleTimer],
    [flagOctet r.que.backpressure], [flagOctet r.que.pendingPause.isSome]]

def cmdReadSlot (items : List Item) (s : State) : Answer :=
  withArgs (slotField items) s fun i => answerOk s (slotResults (s.slot i)) false

/-! ### READ_INVENTORY (R29) -/

/-- The identity as one item of 20 octets: blade type, serial number, firmware revision in the order of R21, the model's
choice (log 10). -/
def identityField (d : Identity) : Octets := be16 d.bladeType ++ d.serial.toList ++ be16 d.firmware

def addressStatusCode : AddressStatus → Nat
  | .entered => 0
  | .conflict => 1
  | .invalid => 2
  | .released => 3

def outcomeCode : AdmissionOutcome → Nat
  | .none => 0
  | .allowed => 1
  | .denied => 2

/-- The results of R29 in its order. The slot's state, which R29 returns with the record and does not place, stands last
as result 11: the model's choice (log 10). -/
def inventoryResults (r : SlotRecord) : List (List Octets) :=
  [[flagOctet r.inv.present], [flagOctet r.inv.announced], [orAbsent identityField r.inv.identity],
    [orAbsent pairField r.inv.announcedPair], [orAbsent pairField r.inv.effectivePair], [flagOctet r.inv.clamped],
    [flagOctet r.inv.conflict], r.inv.addresses.map fun a => be48 a.address ++ one (addressStatusCode a.status),
    [be16n r.inv.insertions], [one (outcomeCode r.inv.lastOutcome)], [one r.adm.state.code]]

def cmdReadInventory (items : List Item) (s : State) : Answer :=
  withArgs (slotField items) s fun i => answerOk s (inventoryResults (s.slot i)) false

/-! ### READ_POWER (R46, R72) -/

def bayStatusCode : BayStatus → Nat
  | .vacant => 0
  | .failed => 1
  | .delivering => 2
  | .unseated => 3

def requestKindCode : RequestKind → Nat
  | .standby => 0
  | .main => 1

def requestField (s : State) (e : Request) : Octets :=
  one (e.slot.val + 1) ++ one (requestKindCode e.kind) ++ one (s.priorityOf e.slot).val ++ flagOctet e.short

/-- The results of R46, then those of R72. H is a signed number of watts, two's complement in its two octets
(00_scope.md, Power; R181). That channel 4's result takes the two octets of a channel limit is the model's choice
(log 10). -/
def powerResults (s : State) : List (List Octets) :=
  [perBay fun b => one (bayStatusCode s.bays[b].status), perBay fun b => be16n s.bays[b].rating,
    [one s.supply.policy.code], [be16n s.supply.ceiling], [be16n (gridSum s.bays true)], [be16n (gridSum s.bays false)],
    [be16n s.supply.raw], [be16n s.supply.capacity], [flagOctet s.supply.brownout],
    [orAbsent be16i s.channels[(4 : Channel)].result], [be16i s.channels[(4 : Channel)].low],
    [be16n s.fanReservation], [be16n (commitments s)], [be16i (headroom s)],
    s.budget.queue.map (requestField s), [be16n s.budget.laneCount], [be16n s.budget.lanesInUse],
    [be16n s.budget.allowance], [be16n s.budget.margin], [be16n s.timing.capAckS]]

def cmdReadPower (items : List Item) (s : State) : Answer := readPlain items s (powerResults s)

/-! ### READ_THERMAL (R107) -/

/-- The engine state, with the channel being converted as a second octet of the same item in CONVERTING alone: the
model's choice (log 10). -/
def engineField : Engine → Octets
  | .idle => one 0
  | .starting => one 1
  | .converting c => one 2 ++ one c.val

def zoneMapField : Option Zone → Octets
  | some z => one (z.val + 1)
  | none => one 0

/-- The results of R107. That a channel result takes the two octets of a channel limit, and that a full set of sweep
settings is one item (`sweepField`), are the model's choices (log 10). -/
def thermalResults (s : State) : List (List Octets) :=
  [perZone fun z => be16i s.zones[z].temp, perZone fun z => be16n (contributions s z).length,
    perZone fun z => be16i s.zones[z].low, perZone fun z => be16i s.zones[z].range,
    perZone fun z => be16i s.zones[z].limit, perZone fun z => be16i s.zones[z].substitute,
    [flagOctet s.thermal.overrideOn], [be16i s.thermal.hysteresis],
    perChannel fun c => orAbsent be16i s.channels[c].result, perChannel fun c => be16i s.channels[c].high,
    perChannel fun c => be16i s.channels[c].low,
    perMember (allChannels.take 4) (fun c => c.val) fun c => zoneMapField s.channels[c].zone,
    [engineField s.sweep.engine], [sweepField s.sweep.current], [orAbsent sweepField s.sweep.staged],
    [runField s.sweep.periodTimer], [be32 s.sweep.missed]]

def cmdReadThermal (items : List Item) (s : State) : Answer := readPlain items s (thermalResults s)

/-! ### READ_FANS (R127) -/

/-- A speed in the two octets of rpm; one above 65535 does not fit them (log 11). -/
def speedOctets (v : Nat) : Octets := if v < 65536 then be16n v else be16 (Config.speedField v)

/-- The settings of a fan in the order of R109. -/
def fanSettings (f : FanRecord) : List Octets :=
  [one f.mode.code, one (f.zoneSel.val + 1), one f.zoneSet.toNat, be16n f.manual, one f.below.code, be16n f.minDuty,
    flagOctet f.rampOn, one f.rampN, flagOctet f.spinOn, one f.spinN, be16n f.minSpeed, one f.pulsesPerRev,
    curveField f.curve]

/-- Result k of the settings for every fan, with the fan's number. -/
def fanSettingResults (s : State) : List (List Octets) :=
  (List.range 13).map fun k => perFan fun f => (fanSettings s.fans[f]).getD k []

def fanResults (s : State) : List (List Octets) :=
  fanSettingResults s ++
  [perFan fun f => be16n s.fans[f].target, perFan fun f => be16n s.fans[f].actual,
    perFan fun f => runField s.fans[f].spin, perFan fun f => runField s.fans[f].ramp,
    perFan fun f => orAbsent speedOctets s.fans[f].speed, perFan fun f => be16n s.fans[f].power,
    [be16n s.fanReservation]]

def cmdReadFans (items : List Item) (s : State) : Answer := readPlain items s (fanResults s)

/-! ### READ_QUEUES (R161) -/

/-- A pair of watermarks of READ_QUEUES as one item, the high one first (log 10). -/
def watermarksField (w : Watermarks) : Octets := be16n w.high ++ be16n w.low

/-- The class queues in member order: uplink A classes 0-3 as 0-3, uplink B classes 0-3 as 4-7 (log 10). -/
def classQueues : List (Uplink × Cls) := allUplinks.flatMap fun u => allClasses.map fun c => (u, c)

def queueNumber (q : Uplink × Cls) : Nat :=
  match q.1 with
  | .A => q.2.val
  | .B => 4 + q.2.val

/-- The number of an uplink in a per-uplink result, 1 for A and 2 for B as in field 1 of SET_UPLINK: the model's choice,
since R182 lists no uplinks (log 10). -/
def uplinkNumber : Uplink → Nat
  | .A => 1
  | .B => 2

def controlKindCode : ControlKind → Byte
  | .admitResult => kindAdmitResult
  | .cap => kindCap
  | .uncap => kindUncap
  | .shutdownReq => kindShutdownReq

def markerCode : Option Marker → Nat
  | none => 0
  | some .cap => 1
  | some .uncap => 2

def perQueue (s : State) (value : UplinkRecord → Cls → Octets) : List Octets :=
  perMember classQueues queueNumber fun q => value (s.uplink q.1) q.2

def perUplink (s : State) (value : UplinkRecord → Octets) : List Octets :=
  perMember allUplinks uplinkNumber fun u => value (s.uplink u)

/-- The kinds on a slot's control list: one item per list entry in list order, each with the slot's number first
(R161, R182, log 10). -/
def controlKindItems (s : State) : List Octets :=
  allSlots.flatMap fun i => (s.slot i).que.control.map fun f => [octet (i.val + 1), controlKindCode f.kind]

def queueResults (s : State) : List (List Octets) :=
  [[be16n s.freeCells], perQueue s fun r c => be16n (r.held c).length, perQueue s fun r c => be16n (r.occupancy c),
    perQueue s fun r c => be16n r.queues[c].limit, perQueue s fun r c => watermarksField r.queues[c].marks,
    perQueue s fun r c => orAbsent watermarksField r.queues[c].staged,
    perQueue s fun r c => flagOctet r.queues[c].congested, perQueue s fun r c => be16 r.queues[c].held,
    perUplink s fun r => runField r.hold, perUplink s fun r => flagOctet r.linkUp,
    perSlot fun i => be16n (s.slot i).que.egressHeld.length, perSlot fun i => be16n (s.slot i).que.occupancy,
    perSlot fun i => be16n (s.slot i).que.egressLimit,
    controlKindItems s, perSlot fun i => one (markerCode (s.slot i).que.marker),
    perSlot fun i => flagOctet (s.slot i).que.backpressure, perSlot fun i => flagOctet (s.slot i).que.pendingPause.isSome,
    [be16n s.trapQueue.length], [be16n (trapCells s.trapQueue)]]

def cmdReadQueues (items : List Item) (s : State) : Answer := readPlain items s (queueResults s)

/-! ### READ_COUNTERS (R171) -/

def perPort (ports : List Port) (value : Port → Octets) : List Octets := perMember ports portNumber value

def allDropReasons : List DropReason :=
  [.notOnline, .noSegment, .segDrop, .notMember, .source, .wrongUplink, .linkDown, .queueFull, .tooLong, .malformed,
    .trapFull, .respDrop]

def counterResults (s : State) (ports : List Port) : List (List Octets) :=
  (perPort ports fun p => be32 s.counters[portIndex p].received) ::
    allDropReasons.map fun r => perPort ports fun p => be32 s.counters[portIndex p].drops[r.index]

/-- The ports of READ_COUNTERS: the one carried, or all eighteen in port order. -/
def counterPorts (items : List Item) : Option (List Port) :=
  if itemsFit [opt 1 1] items then
    (fieldEnum 1 portCode items).map fun p => match p with
      | some p => [p]
      | none => allPorts
  else none

def cmdReadCounters (items : List Item) (s : State) : Answer :=
  withArgs (counterPorts items) s fun ports => answerOk s (counterResults s ports) false

/-! ### READ_ALERTS (R167) -/

/-- The alert set listed as a NOTICE lists it, the entry count and the notice number (R167). That the count and the
notice number take two octets each, which R181 does not list, is the model's choice (log 10). -/
def alertResults (s : State) : List (List Octets) :=
  [s.mgmt.alerts.map alertField, [be16n s.mgmt.alerts.length], [be16 s.mgmt.notice]]

def cmdReadAlerts (items : List Item) (s : State) : Answer := readPlain items s (alertResults s)

/-! ### READ_TABLE (R9, R30, R142) -/

inductive TableSelector where
  | admission | station | segment
  deriving DecidableEq, Repr

def tableCode : Nat → Option TableSelector
  | 0 => some .admission
  | 1 => some .station
  | 2 => some .segment
  | _ => none

/-- What READ_TABLE names: a table with an index, or with `none` the admission table's default form. -/
def tableArgs (items : List Item) : Option (TableSelector × Option Nat) :=
  if itemsFit [req 1 1, opt 2 2, opt 3 0] items then
    match (fieldNat 1 items).bind tableCode, fieldNat 2 items, hasField 3 items with
    | some t, some n, false => some (t, some n)
    | some .admission, none, true => some (.admission, none)
    | _, _, _ => none
  else none

/-- An entry, or a refusal for an index at or beyond the entry count. The station and segment tables return the count
too, after the entry and with the refusal; the admission table returns the entry alone (R9, R30, R142). -/
def tableEntry {α : Type} (s : State) (table : List α) (k : Nat) (encode : α → Octets) (withCount : Bool) : Answer :=
  let count : List (List Octets) := if withCount then [[be16n table.length]] else []
  match table[k]? with
  | some e => answerOk s ([encode e] :: count) false
  | none => { state := s, status := .badValue, results := count, cause := false }

def readTable (s : State) : TableSelector → Option Nat → Answer
  | .admission, some k => tableEntry s s.admissionTable k admissionEntryField false
  | .station, some k => tableEntry s s.stations k (fun e => be48 e.address ++ one (e.owner.val + 1)) true
  | .segment, some k => tableEntry s s.fwd.segments k segmentEntryField true
  | .admission, none => answerOk s [[admissionRuleField s.admissionDefault]] false
  | .station, none | .segment, none => refuse s .badValue

def cmdReadTable (items : List Item) (s : State) : Answer :=
  withArgs (tableArgs items) s fun a => readTable s a.1 a.2

end Sys2Proof.Machine
end

