-- ==== Sys2Proof/Machine/Settings.lean ====
section
/-! DEFINITION. The setting and table commands (R3, R5, R9, R20, R35, R41, R70, R71, R83, R91, R99, R101 to R103, R113,
R114, R126, R142 to R144, R160): for each, the reading of its fields, and what it stores and answers. A field that
cannot be read or a value that the rule refuses gives BADVALUE before any change (R166, R181). -/

namespace Sys2Proof.Machine

/-- Every value read by the same reader, or `none` where one cannot be read. -/
def readEach {α β : Type} (read : α → Option β) : List α → Option (List β)
  | [] => some []
  | a :: rest =>
    match read a, readEach read rest with
    | some b, some bs => some (b :: bs)
    | _, _ => none

/-! ### SET_SLOT (R20) -/

structure SlotSettings where
  policy : Option Policy
  priority : Option (Fin 4)
  zone : Option Zone
  segment : Option (Option Nat)
  cls : Option Cls
  quanta : Option Nat
  deriving DecidableEq, Repr

def slotArgs (items : List Item) : Option (Slot × SlotSettings) :=
  if itemsFit [req 1 1, opt 2 1, opt 3 1, opt 4 1, opt 5 2, opt 6 1, opt 7 2] items then do
    let i ← fieldSlot 1 items
    let policy ← fieldEnum 2 policyCode items
    let zone ← fieldEnum 4 (memberOf 4) items
    let segment ← fieldEnum 5 segmentCode items
    some (i, {
      policy := policy, priority := (fieldNat 3 items).map fin4, zone := zone, segment := segment,
      cls := (fieldNat 6 items).map fin4, quanta := (fieldNat 7 items).map (max 1) })
  else none

def storeSlot (x : SlotSettings) (a : AdmissionPart) : AdmissionPart :=
  { a with
    policy := x.policy.getD a.policy, zone := x.zone.getD a.zone, segment := x.segment.getD a.segment,
    cls := x.cls.getD a.cls, quanta := x.quanta.getD a.quanta }

/-- The priority of a slot set where one is carried (R20). -/
def storePriority (i : Slot) : Option (Fin 4) → State → State
  | some p, s => setPriority i p s
  | none, s => s

def setSlot (i : Slot) (x : SlotSettings) (s : State) : Answer :=
  let s1 := storePriority i x.priority (s.modAdm i (storeSlot x))
  let old := (s.slot i).adm.zone
  let new := (s1.slot i).adm.zone
  answerOk (if new = old then s1 else rezone [old, new] s1)
    [ifCarried (fun p => one (Policy.code p)) x.policy, ifCarried (fun p => one p.val) x.priority,
      ifCarried (fun z => one (z.val + 1)) x.zone, ifCarried segmentField x.segment,
      ifCarried (fun c => one c.val) x.cls, ifCarried be16n x.quanta]
    x.priority.isSome

def cmdSetSlot (items : List Item) (s : State) : Answer :=
  withArgs (slotArgs items) s fun a => setSlot a.1 a.2 s

/-! ### SET_SUPPLY (R41, R70) -/

structure SupplySettings where
  ratings : List (Bay × Nat)
  policy : Option Redundancy
  ceiling : Option Nat
  allowance : Option Nat
  margin : Option Nat
  lanes : Option Nat
  deriving DecidableEq, Repr

def bayRating (o : Octets) : Option (Bay × Nat) :=
  (memberOf 6 (octetAt o 0).toNat).map fun b => (b, min (natOf (o.drop 1)) 4000)

/-- The settings carried (R41, R70, R181). That the lane count takes two octets is the model's choice: R181 names no
width for it (log 21). -/
def supplyArgs (items : List Item) : Option SupplySettings :=
  if itemsFit [{ number := 1, least := 3, most := 3, repeatable := true }, opt 2 1, opt 3 2, opt 4 2, opt 5 2, opt 6 2]
      items then do
    let ratings ← readEach bayRating (fieldAll 1 items)
    let policy ← fieldEnum 2 redundancyCode items
    if (ratings.map (·.1)).Nodup then
      some {
        ratings := ratings, policy := policy, ceiling := (fieldNat 3 items).map (min 60000),
        allowance := (fieldNat 4 items).map (min 63), margin := (fieldNat 5 items).map (min 1000),
        lanes := (fieldNat 6 items).map (clampNat 1 4) }
    else none
  else none

/-- The settings carried that the Supply Monitor holds (R39, R41). -/
def SupplySettings.supplyCarried (x : SupplySettings) : Bool :=
  !x.ratings.isEmpty || x.policy.isSome || x.ceiling.isSome

def SupplySettings.anyCarried (x : SupplySettings) : Bool :=
  x.supplyCarried || x.allowance.isSome || x.margin.isSome || x.lanes.isSome

def storeSupply (x : SupplySettings) (s : State) : State :=
  { (x.ratings.foldl (fun s r => s.modBay r.1 fun b => { b with rating := r.2 }) s) with
    supply := { s.supply with
      policy := x.policy.getD s.supply.policy, ceiling := x.ceiling.getD s.supply.ceiling }
    budget := { s.budget with
      allowance := x.allowance.getD s.budget.allowance, margin := x.margin.getD s.budget.margin,
      laneCount := x.lanes.getD s.budget.laneCount } }

/-- The ratings carried, one item per bay in ascending bay order (R182). -/
def ratingItems (ratings : List (Bay × Nat)) : List Octets :=
  allBays.filterMap fun b => (ratings.find? fun r => decide (r.1 = b)).map fun r => octet (b.val + 1) :: be16n r.2

def setSupply (x : SupplySettings) (s : State) : Answer :=
  if x.lanes.isSome ∧ 0 < s.budget.lanesInUse then refuse s .busy
  else
    let s1 := storeSupply x s
    answerOk (if x.supplyCarried then recomputeCapacity s1 else s1)
      [ratingItems x.ratings, ifCarried (fun p => one (Redundancy.code p)) x.policy, ifCarried be16n x.ceiling,
        ifCarried be16n x.allowance, ifCarried be16n x.margin, ifCarried be16n x.lanes]
      x.anyCarried

def cmdSetSupply (items : List Item) (s : State) : Answer := withArgs (supplyArgs items) s fun x => setSupply x s

/-! ### SET_TIMING (R3, R5, R35, R71, R83, R91) -/

structure TimingSettings where
  presenceFilter : Option Nat
  announceWindowS : Option Nat
  bayFilter : Option Nat
  capAckS : Option Nat
  powerGoodFilter : Option Nat
  powerGoodTimeout : Option Nat
  resetHold : Option Nat
  shutdownS : Option Nat
  staleS : Option Nat
  deriving DecidableEq, Repr

def timingArgs (items : List Item) : Option TimingSettings :=
  if itemsFit [opt 1 2, opt 2 2, opt 3 2, opt 4 2, opt 5 2, opt 6 2, opt 7 2, opt 8 2, opt 9 2] items then
    some {
      presenceFilter := (fieldNat 1 items).map (tenMsSteps 1000)
      announceWindowS := (fieldNat 2 items).map (secondsUpTo 255)
      bayFilter := (fieldNat 3 items).map (tenMsSteps 1000)
      capAckS := (fieldNat 4 items).map (secondsUpTo 60)
      powerGoodFilter := (fieldNat 5 items).map (tenMsSteps 1000)
      powerGoodTimeout := (fieldNat 6 items).map (tenMsSteps 2550)
      resetHold := (fieldNat 7 items).map (tenMsSteps 2550)
      shutdownS := (fieldNat 8 items).map (secondsUpTo 600)
      staleS := (fieldNat 9 items).map (secondsUpTo 60) }
  else none

def storeTiming (x : TimingSettings) (t : Timing) : Timing where
  presenceFilter := x.presenceFilter.getD t.presenceFilter
  announceWindowS := x.announceWindowS.getD t.announceWindowS
  bayFilter := x.bayFilter.getD t.bayFilter
  capAckS := x.capAckS.getD t.capAckS
  powerGoodFilter := x.powerGoodFilter.getD t.powerGoodFilter
  powerGoodTimeout := x.powerGoodTimeout.getD t.powerGoodTimeout
  resetHold := x.resetHold.getD t.resetHold
  shutdownS := x.shutdownS.getD t.shutdownS
  staleS := x.staleS.getD t.staleS

/-- Some slot is in its power-on sequence (R83). -/
def anyPowering (s : State) : Bool := allSlots.any fun i => isPowering (s.slot i)

def setTiming (x : TimingSettings) (s : State) : Answer :=
  if (x.powerGoodTimeout.isSome || x.resetHold.isSome) && anyPowering s then refuse s .busy
  else
    answerOk { s with timing := storeTiming x s.timing }
      [ifCarried be16n x.presenceFilter, ifCarried be16n x.announceWindowS, ifCarried be16n x.bayFilter,
        ifCarried be16n x.capAckS, ifCarried be16n x.powerGoodFilter, ifCarried be16n x.powerGoodTimeout,
        ifCarried be16n x.resetHold, ifCarried be16n x.shutdownS, ifCarried be16n x.staleS]
      false

def cmdSetTiming (items : List Item) (s : State) : Answer := withArgs (timingArgs items) s fun x => setTiming x s

/-! ### SET_ZONE (R102) -/

structure ZoneSettings where
  zone : Option Zone
  low : Option Int
  range : Option Int
  limit : Option Int
  substitute : Option Int
  hysteresis : Option Int
  deriving DecidableEq, Repr

/-- The settings carried (R102, R181). The hysteresis is taken beside a zone as well as alone: the model's choice, since
R102 gives it to the chassis form and R181 refuses it in neither (log 15). -/
def zoneArgs (items : List Item) : Option ZoneSettings :=
  if itemsFit [opt 1 1, opt 2 2, opt 3 2, opt 4 2, opt 5 2, opt 6 2] items &&
      (hasField 1 items || !(hasField 2 items || hasField 3 items || hasField 4 items || hasField 5 items)) then do
    let zone ← fieldEnum 1 (memberOf 4) items
    some {
      zone := zone, low := (fieldInt 2 items).map (clampInt (-64) 127), range := (fieldInt 3 items).map (clampInt 1 64),
      limit := (fieldInt 4 items).map (clampInt (-128) 127),
      substitute := (fieldInt 5 items).map (clampInt (-64) 127),
      hysteresis := (fieldInt 6 items).map (clampInt 0 15) }
  else none

def storeZone (x : ZoneSettings) (z : ZoneRecord) : ZoneRecord :=
  { z with
    low := x.low.getD z.low, range := x.range.getD z.range, limit := x.limit.getD z.limit,
    substitute := x.substitute.getD z.substitute }

/-- The zone form's settings stored; a substitute that changes recomputes the zone (R104). -/
def storeZoneForm (x : ZoneSettings) (s : State) : State :=
  match x.zone with
  | none => s
  | some z =>
    let s1 := s.modZone z (storeZone x)
    if s1.zones[z].substitute = s.zones[z].substitute then s1 else retemp [z] s1

def setZone (x : ZoneSettings) (s : State) : Answer :=
  let s1 := storeZoneForm x s
  let s2 := { s1 with thermal := { s1.thermal with hysteresis := x.hysteresis.getD s1.thermal.hysteresis } }
  answerOk (propagate s s2)
    [ifCarried be16i x.low, ifCarried be16i x.range, ifCarried be16i x.limit, ifCarried be16i x.substitute,
      ifCarried be16i x.hysteresis]
    false

def cmdSetZone (items : List Item) (s : State) : Answer := withArgs (zoneArgs items) s fun x => setZone x s

/-! ### SET_FAN, SET_FAN_CURVE, SET_FAN_DUTY (R113, R114, R126) -/

structure FanSettings where
  mode : Option FanMode
  zoneSel : Option Zone
  zoneSet : Option (BitVec 4)
  below : Option BelowLimit
  minDuty : Option Nat
  rampOn : Option Bool
  rampN : Option Nat
  spinOn : Option Bool
  spinN : Option Nat
  minSpeed : Option Nat
  pulsesPerRev : Option Nat
  deriving DecidableEq, Repr

/-- A zone set: bits 0 to 3, not empty, no higher bit (R113, R181). -/
def zoneSetCode (v : Nat) : Option (BitVec 4) := if 1 ≤ v ∧ v ≤ 15 then some (BitVec.ofNat 4 v) else none

def fieldFan (n : Nat) (items : List Item) : Option Fan := (fieldNat n items).bind (memberOf 6)

def fanArgs (items : List Item) : Option (Fan × FanSettings) :=
  if itemsFit [req 1 1, opt 2 1, opt 3 1, opt 4 1, opt 5 1, opt 6 2, opt 7 1, opt 8 1, opt 9 1, opt 10 1, opt 11 2,
      opt 12 1] items then do
    let f ← fieldFan 1 items
    let mode ← fieldEnum 2 fanModeCode items
    let zoneSel ← fieldEnum 3 (memberOf 4) items
    let zoneSet ← fieldEnum 4 zoneSetCode items
    let below ← fieldEnum 5 belowCode items
    let rampOn ← fieldEnum 7 flagCode items
    let spinOn ← fieldEnum 9 flagCode items
    some (f, {
      mode := mode, zoneSel := zoneSel, zoneSet := zoneSet, below := below, minDuty := (fieldNat 6 items).map (min 255),
      rampOn := rampOn, rampN := (fieldNat 8 items).map (min 63), spinOn := spinOn,
      spinN := (fieldNat 10 items).map (min 31), minSpeed := (fieldNat 11 items).map (min 20000),
      pulsesPerRev := (fieldNat 12 items).map (clampNat 1 4) })
  else none

def storeFan (x : FanSettings) (f : FanRecord) : FanRecord :=
  { f with
    mode := x.mode.getD f.mode, zoneSel := x.zoneSel.getD f.zoneSel, zoneSet := x.zoneSet.getD f.zoneSet,
    below := x.below.getD f.below, minDuty := x.minDuty.getD f.minDuty, rampOn := x.rampOn.getD f.rampOn,
    rampN := x.rampN.getD f.rampN, spinOn := x.spinOn.getD f.spinOn, spinN := x.spinN.getD f.spinN,
    minSpeed := x.minSpeed.getD f.minSpeed, pulsesPerRev := x.pulsesPerRev.getD f.pulsesPerRev }

/-- A SET_FAN that carries none of its settings. -/
def noFanSettings : FanSettings where
  mode := none
  zoneSel := none
  zoneSet := none
  below := none
  minDuty := none
  rampOn := none
  rampN := none
  spinOn := none
  spinN := none
  minSpeed := none
  pulsesPerRev := none

def setFan (f : Fan) (x : FanSettings) (s : State) : Answer :=
  let s1 := if x = noFanSettings then s else reconfigure f (storeFan x) s
  answerOk s1 ((fanSettings s1.fans[f]).map fun v => [v]) false

def cmdSetFan (items : List Item) (s : State) : Answer := withArgs (fanArgs items) s fun a => setFan a.1 a.2 s

/-- A power of the ten octets of a curve, at most 255 W (R126). -/
def curvePower (o : Octets) (k : Nat) : Nat := min (word16At o (2 * k)).toNat 255

def curveOf (o : Octets) : Curve where
  p0 := curvePower o 0
  p1 := curvePower o 1
  p2 := curvePower o 2
  p3 := curvePower o 3
  p4 := curvePower o 4

def curveArgs (items : List Item) : Option (Fan × Curve) :=
  if itemsFit [req 1 1, req 2 10] items then
    match fieldFan 1 items, (fieldOctets 2 items).map curveOf with
    | some f, some c => if c.p0 ≤ c.p1 ∧ c.p1 ≤ c.p2 ∧ c.p2 ≤ c.p3 ∧ c.p3 ≤ c.p4 then some (f, c) else none
    | _, _ => none
  else none

def setFanCurve (f : Fan) (c : Curve) (s : State) : Answer :=
  answerOk (updateReservation (changeFan f (fun r => { r with curve := c }) s)) [[curveField c]] false

def cmdSetFanCurve (items : List Item) (s : State) : Answer :=
  withArgs (curveArgs items) s fun a => setFanCurve a.1 a.2 s

def dutyArgs (items : List Item) : Option (Fan × Nat) :=
  if itemsFit [req 1 1, req 2 2] items then
    match fieldFan 1 items, fieldNat 2 items with
    | some f, some d => some (f, min d 255)
    | _, _ => none
  else none

/-- SET_FAN_DUTY (R114): the duty is stored in every mode; in MANUAL the target takes it and the duty is settled. -/
def setFanDuty (f : Fan) (d : Nat) (s : State) : Answer :=
  let s1 := s.modFan f fun r => { r with manual := d }
  answerOk (if s.fans[f].mode = .manual then updateReservation (retarget f s1) else s1) [[be16n d]] false

def cmdSetFanDuty (items : List Item) (s : State) : Answer :=
  withArgs (dutyArgs items) s fun a => setFanDuty a.1 a.2 s

/-! ### SET_CHANNEL (R101, R103) -/

structure ChannelSettings where
  high : Option Int
  low : Option Int
  zone : Option (Option Zone)
  deriving DecidableEq, Repr

/-- A limit at the nearer end of its channel's range where it lies outside (R101). -/
def channelLimit (c : Channel) (v : Int) : Int := if c.val < 4 then clampInt (-128) 127 v else clampInt 0 255 v

def channelArgs (items : List Item) : Option (Channel × ChannelSettings) :=
  if itemsFit [req 1 1, opt 2 2, opt 3 2, opt 4 1] items then do
    let c ← (fieldNat 1 items).bind channelCode
    let zone ← fieldEnum 4 zoneMapCode items
    if 4 ≤ c.val ∧ zone.isSome then none
    else
      some (c, {
        high := (fieldInt 2 items).map (channelLimit c), low := (fieldInt 3 items).map (channelLimit c), zone := zone })
  else none

def storeChannel (x : ChannelSettings) (c : ChannelRecord) : ChannelRecord :=
  { c with high := x.high.getD c.high, low := x.low.getD c.low, zone := x.zone.getD c.zone }

def setChannel (c : Channel) (x : ChannelSettings) (s : State) : Answer :=
  let s1 := s.modChannel c (storeChannel x)
  let old := s.channels[c].zone
  let new := s1.channels[c].zone
  answerOk (if new = old then s1 else rezone (old.toList ++ new.toList) s1)
    [ifCarried be16i x.high, ifCarried be16i x.low, ifCarried zoneMapField x.zone] false

def cmdSetChannel (items : List Item) (s : State) : Answer :=
  withArgs (channelArgs items) s fun a => setChannel a.1 a.2 s

/-! ### SET_SWEEP (R99) -/

structure SweepArgs where
  mode : Option SweepMode
  mask : Option (BitVec 8)
  select : Option TriggerSelect
  period : Option Nat
  deriving DecidableEq, Repr

def sweepArgs (items : List Item) : Option SweepArgs :=
  if itemsFit [opt 1 1, opt 2 1, opt 3 1, opt 4 2] items then do
    let mode ← fieldEnum 1 sweepModeCode items
    let select ← fieldEnum 3 triggerCode items
    some {
      mode := mode, mask := (fieldNat 2 items).map (BitVec.ofNat 8), select := select,
      period := (fieldNat 4 items).map (tenMsSteps 2550) }
  else none

def SweepArgs.anyCarried (x : SweepArgs) : Bool :=
  x.mode.isSome || x.mask.isSome || x.select.isSome || x.period.isSome

/-- The full set: settings not carried come from the staged settings if present, else from the current (R99). -/
def fullSweep (x : SweepArgs) (w : Sweep) : SweepSettings :=
  let base := w.staged.getD w.current
  { mode := x.mode.getD base.mode, mask := x.mask.getD base.mask, select := x.select.getD base.select
    period := x.period.getD base.period }

/-- SET_SWEEP: the full set stored, and answered with whether it is current or staged (R99); one that carries nothing
stores nothing (R181). That the latter answers the staged set if present, else the current one, with whether staged
settings stand, is the model's choice (log 15). -/
def setSweep (x : SweepArgs) (s : State) : Answer :=
  let c := fullSweep x s.sweep
  let w := if x.anyCarried then storeSweep c s.sweep else s.sweep
  answerOk { s with sweep := w }
    [[one c.mode.code], [[c.mask]], [one c.select.code], [be16n c.period], [flagOctet w.staged.isSome]] false

def cmdSetSweep (items : List Item) (s : State) : Answer := withArgs (sweepArgs items) s fun x => setSweep x s

/-! ### SET_UPLINK (R144) -/

inductive UplinkArgs where
  /-- The form of an uplink: its management flag and default segment. -/
  | uplink (u : Uplink) (management : Option Bool) (segment : Option (Option Nat))
  /-- The chassis form: maximum length, tag type, control type. -/
  | chassis (maxLength : Option Nat) (tagType controlType : Option Word16)
  deriving DecidableEq, Repr

/-- The form and settings carried (R144, R181). That the maximum frame length takes two octets is the model's choice:
R181 names no width for it (log 21). -/
def uplinkArgs (items : List Item) : Option UplinkArgs :=
  if itemsFit [opt 1 1, opt 2 1, opt 3 2, opt 4 2, opt 5 2, opt 6 2] items then
    match fieldNat 1 items with
    | some n =>
      if hasField 4 items || hasField 5 items || hasField 6 items then none
      else do
        let u ← uplinkCode n
        let management ← fieldEnum 2 flagCode items
        let segment ← fieldEnum 3 segmentCode items
        some (.uplink u management segment)
    | none =>
      if hasField 2 items || hasField 3 items then none
      else
        some (.chassis ((fieldNat 4 items).map (clampNat 64 2048)) ((fieldNat 5 items).map (BitVec.ofNat 16))
          ((fieldNat 6 items).map (BitVec.ofNat 16)))
  else none

def otherUplink : Uplink → Uplink
  | .A => .B
  | .B => .A

/-- A management flag that would leave both flags clear is refused (R144). -/
def setUplinkForm (u : Uplink) (management : Option Bool) (segment : Option (Option Nat)) (s : State) : Answer :=
  if management = some false ∧ (s.uplink (otherUplink u)).management = false then refuse s .badValue
  else
    answerOk
      (s.modUplink u fun r => { r with management := management.getD r.management, segment := segment.getD r.segment })
      [ifCarried flagOctet management, ifCarried segmentField segment] false

/-- Types that may stand together: different, and neither that of flow control (R144). -/
def typesFit (tagType controlType : Word16) : Bool :=
  decide (tagType ≠ controlType) && decide (tagType ≠ Config.flowControlType) &&
    decide (controlType ≠ Config.flowControlType)

def setChassisForm (maxLength : Option Nat) (tagType controlType : Option Word16) (s : State) : Answer :=
  let t := tagType.getD s.fwd.tagType
  let c := controlType.getD s.fwd.controlType
  if (tagType.isSome || controlType.isSome) && !typesFit t c then refuse s .badValue
  else
    answerOk
      { s with fwd := { s.fwd with
          maxLength := maxLength.getD s.fwd.maxLength, tagType := t, controlType := c } }
      [[], [], ifCarried be16n maxLength, ifCarried be16 tagType, ifCarried be16 controlType] false

def setUplink (a : UplinkArgs) (s : State) : Answer :=
  match a with
  | .uplink u management segment => setUplinkForm u management segment s
  | .chassis maxLength tagType controlType => setChassisForm maxLength tagType controlType s

def cmdSetUplink (items : List Item) (s : State) : Answer := withArgs (uplinkArgs items) s fun a => setUplink a s

/-! ### SET_QUEUE (R160) -/

inductive QueueArgs where
  | classQueue (u : Uplink) (c : Cls) (limit high low : Option Nat)
  | egress (i : Slot) (limit : Option Nat)
  deriving DecidableEq, Repr

def queueArgs (items : List Item) : Option QueueArgs :=
  if itemsFit [opt 1 1, opt 2 1, opt 3 1, opt 4 2, opt 5 2, opt 6 2] items then
    match fieldNat 1 items, fieldNat 2 items, fieldNat 3 items with
    | some n, some k, none => do
      let u ← uplinkCode n
      let c ← classCode k
      some (.classQueue u c ((fieldNat 4 items).map (clampNat 8 256)) (fieldNat 5 items) (fieldNat 6 items))
    | none, none, some n =>
      if hasField 5 items || hasField 6 items then none
      else (memberOf 16 n).map fun i => .egress i ((fieldNat 4 items).map (clampNat 4 64))
    | _, _, _ => none
  else none

/-- The watermarks stored: in force in a queue that is not congested, staged in a congested one (R160). -/
def storeMarks (w : Watermarks) (q : ClassQueue) : ClassQueue :=
  if q.congested then { q with staged := some w } else { q with marks := w }

/-- The class form (R160, log 15): the set that results must have 1 ≤ low < high ≤ limit. A watermark carried stores
the pair, and the pair is answered. -/
def setClassQueue (u : Uplink) (c : Cls) (limit high low : Option Nat) (s : State) : Answer :=
  let q := (s.uplink u).queues[c]
  let base := q.staged.getD q.marks
  let w : Watermarks := { high := high.getD base.high, low := low.getD base.low }
  let l := limit.getD q.limit
  if 1 ≤ w.low ∧ w.low < w.high ∧ w.high ≤ l then
    let carried := high.isSome || low.isSome
    let s1 := s.modClass u c fun q => if carried then storeMarks w { q with limit := l } else { q with limit := l }
    answerOk s1
      [ifCarried be16n limit, if carried then [be16n w.high] else [], if carried then [be16n w.low] else [],
        [flagOctet (s1.uplink u).queues[c].staged.isSome]] false
  else refuse s .badValue

def setEgressLimit (i : Slot) (limit : Option Nat) (s : State) : Answer :=
  answerOk (s.modQue i fun q => { q with egressLimit := limit.getD q.egressLimit }) [ifCarried be16n limit] false

def setQueueLimits (a : QueueArgs) (s : State) : Answer :=
  match a with
  | .classQueue u c limit high low => setClassQueue u c limit high low s
  | .egress i limit => setEgressLimit i limit s

def cmdSetQueue (items : List Item) (s : State) : Answer := withArgs (queueArgs items) s fun a => setQueueLimits a s

/-! ### SET_CLASS_MAP (R143) -/

def classPair (o : Octets) : Option (Fin 8 × Cls) :=
  (priorityCode (octetAt o 0).toNat).map fun p => (p, fin4 (octetAt o 1).toNat)

def classMapArgs (items : List Item) : Option (List (Fin 8 × Cls)) :=
  if itemsFit [{ number := 1, least := 2, most := 2, required := true, repeatable := true }] items then do
    let pairs ← readEach classPair (fieldAll 1 items)
    if (pairs.map (·.1)).Nodup then some pairs else none
  else none

def setClassMap (pairs : List (Fin 8 × Cls)) (s : State) : Answer :=
  let m := pairs.foldl (fun m p => m.set p.1 p.2) s.fwd.classMap
  answerOk { s with fwd := { s.fwd with classMap := m } } [m.toList.map fun c => one c.val] false

def cmdSetClassMap (items : List Item) (s : State) : Answer :=
  withArgs (classMapArgs items) s fun pairs => setClassMap pairs s

/-! ### LOAD_SEGMENT, DELETE_SEGMENT (R142) -/

/-- A tag ID that an entry may hold (R142). -/
def tagIdCode (v : Nat) : Option Nat := if 1 ≤ v ∧ v ≤ 4094 then some v else none

def segmentArgs (items : List Item) : Option Segment :=
  if itemsFit [req 1 2, req 2 2, req 3 1, req 4 1, req 5 1, opt 6 1] items then do
    let id ← (fieldNat 1 items).bind tagIdCode
    let members ← fieldNat 2 items
    let select ← (fieldNat 3 items).bind selectCode
    let action ← (fieldNat 4 items).bind segmentActionCode
    let strict ← (fieldNat 5 items).bind flagCode
    some {
      tagId := id, members := BitVec.ofNat 16 members, select := select, action := action, strict := strict,
      override := (fieldNat 6 items).map fin4 }
  else none

/-- An entry in its place of a table kept in ascending order of a key, in place of one with its key (R9, R142). -/
def placeByKey {α : Type} (key : α → Nat) (e : α) : List α → List α
  | [] => [e]
  | x :: rest =>
    if key e < key x then e :: x :: rest
    else if key e = key x then e :: rest
    else x :: placeByKey key e rest

/-- Whether a table of a given room takes an entry: it holds the entry's key, or has room (R9, R142). -/
def tableTakes {α : Type} (key : α → Nat) (room : Nat) (e : α) (table : List α) : Bool :=
  table.any (fun x => decide (key x = key e)) || decide (table.length < room)

def setSegments (t : List Segment) (s : State) : State := { s with fwd := { s.fwd with segments := t } }

def loadSegment (g : Segment) (s : State) : Answer :=
  if tableTakes Segment.tagId 32 g s.fwd.segments then
    answerOk (setSegments (placeByKey Segment.tagId g s.fwd.segments) s) [[segmentEntryField g]] false
  else refuse s .full

def cmdLoadSegment (items : List Item) (s : State) : Answer := withArgs (segmentArgs items) s fun g => loadSegment g s

def deleteSegmentArgs (items : List Item) : Option Nat := if itemsFit [req 1 2] items then fieldNat 1 items else none

def deleteSegment (id : Nat) (s : State) : Answer :=
  if s.fwd.segments.any fun g => decide (g.tagId = id) then
    answerOk (setSegments (s.fwd.segments.filter fun g => decide (g.tagId ≠ id)) s) [] false
  else refuse s .badValue

def cmdDeleteSegment (items : List Item) (s : State) : Answer :=
  withArgs (deleteSegmentArgs items) s fun id => deleteSegment id s

/-! ### LOAD_ADMISSION, DELETE_ADMISSION (R9) -/

/-- A default priority: 0xFF is keep, another value above 3 is 3 (R9, R181). -/
def keepOr (v : Nat) : Option (Fin 4) := if v = 255 then none else some (fin4 v)

/-- The blade type carried, absent for the default form, with the record. -/
def admissionArgs (items : List Item) : Option (Option Word16 × AdmissionRule) :=
  if itemsFit [opt 1 2, req 2 1, req 3 2, req 4 1] items then do
    let action ← (fieldNat 2 items).bind admissionActionCode
    let maximum ← fieldNat 3 items
    let priority ← fieldNat 4 items
    some ((fieldNat 1 items).map (BitVec.ofNat 16),
      { action := action, maximum := min maximum 4000, priority := keepOr priority })
  else none

def entryKey (e : AdmissionEntry) : Nat := e.bladeType.toNat

def loadAdmission (bladeType : Option Word16) (g : AdmissionRule) (s : State) : Answer :=
  match bladeType with
  | none => answerOk { s with admissionDefault := g } [[admissionRuleField g]] false
  | some t =>
    let e : AdmissionEntry := { bladeType := t, rule := g }
    if tableTakes entryKey 16 e s.admissionTable then
      answerOk { s with admissionTable := placeByKey entryKey e s.admissionTable } [[admissionEntryField e]] false
    else refuse s .full

def cmdLoadAdmission (items : List Item) (s : State) : Answer :=
  withArgs (admissionArgs items) s fun a => loadAdmission a.1 a.2 s

def deleteAdmissionArgs (items : List Item) : Option (Option Word16) :=
  if itemsFit [opt 1 2] items then some ((fieldNat 1 items).map (BitVec.ofNat 16)) else none

def deleteAdmission (bladeType : Option Word16) (s : State) : Answer :=
  match bladeType with
  | none => answerOk { s with admissionDefault := { action := .allow, maximum := 0, priority := none } } [] false
  | some t =>
    if s.admissionTable.any fun e => decide (e.bladeType = t) then
      answerOk { s with admissionTable := s.admissionTable.filter fun e => decide (e.bladeType ≠ t) } [] false
    else refuse s .badValue

def cmdDeleteAdmission (items : List Item) (s : State) : Answer :=
  withArgs (deleteAdmissionArgs items) s fun a => deleteAdmission a s

end Sys2Proof.Machine
end

