-- ==== Sys2Proof/Machine/Actions.lean ====
section
/-! DEFINITION. The action commands: sweeps (R97, R100), slot power (R85, R88 to R90), SLOT_ADMIT and SLOT_RELEASE
(R18, R19, R24), INJECT (R145), CLEAR_ALERTS (R170), CLEAR_COUNTERS (R171) and RESTART (R159, R172). -/

namespace Sys2Proof.Machine

/-- A command without fields. -/
def plainCommand (items : List Item) (s : State) (run : State → Answer) : Answer :=
  if itemsFit [] items then run s else refuse s .badValue

/-! ### START_SWEEP, STOP_SWEEP -/

/-- START_SWEEP: a trigger under every select; one taken during a sweep is counted as missed and answered BUSY (R97). -/
def startSweep (s : State) : Answer where
  state := { s with sweep := triggerSweep s.sweep }
  status := if s.sweep.engine = .idle then .ok else .busy
  results := []
  cause := false

def cmdStartSweep (items : List Item) (s : State) : Answer := plainCommand items s startSweep

def stopSweep (s : State) : Answer := answerOk { s with sweep := stopSweeping s.sweep } [] false

def cmdStopSweep (items : List Item) (s : State) : Answer := plainCommand items s stopSweep

/-! ### Slot power (R85, R88, R89, R90) -/

/-- SLOT_POWER_ON by the slot's state (R90). -/
def slotPowerOn (i : Slot) (s : State) : Answer :=
  match s.slotState i with
  | .standby => answerOk (moveTo i .powerWait s) [] true
  | .powerWait | .powering | .online => answerOk s [] false
  | .empty | .standbyWait | .announceWait | .unidentified | .denied | .capped | .shuttingDown | .fault =>
    refuse s .badState

def cmdSlotPowerOn (items : List Item) (s : State) : Answer :=
  withArgs (slotField items) s fun i => slotPowerOn i s

/-- The start of a graceful shutdown (R85). -/
def beginShutdown (i : Slot) (form : ShutdownForm) (s : State) : State :=
  let s1 := s.modRail i fun r => { r with reason := some form, shutdown := .running (s.timing.shutdownS * 1000) }
  moveTo i .shuttingDown (offerControl i (shutdownReqFrame s form s.timing.shutdownS) s1)

/-- SLOT_POWER_OFF by the slot's state (R88). -/
def slotPowerOff (i : Slot) (form : ShutdownForm) (s : State) : Answer :=
  match s.slotState i with
  | .online | .capped => answerOk (beginShutdown i form s) [] false
  | .shuttingDown | .standby => answerOk s [] false
  | .powering => answerOk (mainOff i .standby s) [] true
  | .powerWait => answerOk (moveTo i .standby s) [] true
  | .empty | .standbyWait | .announceWait | .unidentified | .denied | .fault => refuse s .badState

def powerOffArgs (items : List Item) : Option (Slot × ShutdownForm) :=
  if itemsFit [req 1 1, opt 2 1] items then do
    let i ← fieldSlot 1 items
    let form ← fieldEnum 2 formCode items
    some (i, form.getD .off)
  else none

def cmdSlotPowerOff (items : List Item) (s : State) : Answer :=
  withArgs (powerOffArgs items) s fun a => slotPowerOff a.1 a.2 s

/-- SLOT_KILL by the slot's state (R89). -/
def slotKill (i : Slot) (s : State) : Answer :=
  match s.slotState i with
  | .powering | .online | .capped | .shuttingDown => answerOk (mainOff i .standby s) [] true
  | .standby => answerOk s [] false
  | .empty | .standbyWait | .announceWait | .unidentified | .denied | .powerWait | .fault => refuse s .badState

def cmdSlotKill (items : List Item) (s : State) : Answer := withArgs (slotField items) s fun i => slotKill i s

/-! ### SLOT_ADMIT, SLOT_RELEASE (R18, R19, R24) -/

/-- The state that the admission policy gives an admitted or released slot (R18, R19). -/
def policyState : Policy → SlotState
  | .manual => .standby
  | .auto => .powerWait

/-- SLOT_ADMIT on the manager's authority (R18, R24). -/
def admitSlot (i : Slot) (pair : PowerPair) (s : State) : Answer :=
  let target := policyState (s.slot i).adm.policy
  let s1 := s.modInv i fun r => { r with effectivePair := some pair, clamped := false, lastOutcome := .allowed }
  answerOk (offerControl i (admitResultFrame s false pair) (moveTo i target s1)) [[pairField pair]]
    (target == .powerWait)

def slotAdmit (i : Slot) (pair : PowerPair) (s : State) : Answer :=
  if s.slotState i = .denied ∨ s.slotState i = .unidentified then admitSlot i pair s else refuse s .badState

/-- The slot with the pair after its clamps; a requested power of 0 is refused (R18). -/
def slotAdmitArgs (items : List Item) : Option (Slot × PowerPair) :=
  if itemsFit [req 1 1, req 2 2, req 3 2] items then do
    let i ← fieldSlot 1 items
    let requested ← fieldNat 2 items
    let floor ← fieldNat 3 items
    if requested = 0 then none
    else some (i, { requested := min requested 4000, floor := min floor (min requested 4000) })
  else none

def cmdSlotAdmit (items : List Item) (s : State) : Answer :=
  withArgs (slotAdmitArgs items) s fun a => slotAdmit a.1 a.2 s

/-- SLOT_RELEASE by the slot's state (R19). -/
def slotRelease (i : Slot) (s : State) : Answer :=
  match s.slotState i with
  | .fault =>
    let target := policyState (s.slot i).adm.policy
    answerOk (moveTo i target s) [] (target == .powerWait)
  | .unidentified =>
    answerOk ((moveTo i .announceWait s).modAdm i fun a =>
      { a with announceWindow := .running (s.timing.announceWindowS * 1000) }) [] false
  | .empty | .standbyWait | .announceWait | .denied | .standby | .powerWait | .powering | .online | .capped
  | .shuttingDown => refuse s .badState

def cmdSlotRelease (items : List Item) (s : State) : Answer := withArgs (slotField items) s fun i => slotRelease i s

/-! ### INJECT (R145) -/

/-- The slot and the frame's octets without CRC, 60 to 1996 of them (R145, R181). -/
def injectArgs (items : List Item) : Option (Slot × Octets) :=
  if itemsFit [req 1 1, { number := 2, least := 60, most := 1996, required := true }] items then
    match fieldSlot 1 items, fieldOctets 2 items with
    | some i, some o => some (i, o)
    | _, _ => none
  else none

def injectFrame (i : Slot) (o : Octets) (s : State) : Answer :=
  if (s.slotState i).running then
    match offerEgress i { octets := o, fcs := none } s with
    | some t => answerOk t [] false
    | none => refuse s .full
  else refuse s .badState

def cmdInject (items : List Item) (s : State) : Answer := withArgs (injectArgs items) s fun a => injectFrame a.1 a.2 s

/-! ### CLEAR_ALERTS, CLEAR_COUNTERS (R170, R171) -/

/-- A pair of kind code and index, the index in its kind's range (R170, R181). -/
def alertPair (o : Octets) : Option Alert :=
  match alertKindCode (octetAt o 0).toNat with
  | some k => if k.admitsIndex (octetAt o 1).toNat then some { kind := k, index := (octetAt o 1).toNat } else none
  | none => none

/-- What CLEAR_ALERTS names: `none` for the form all, or the pairs (R170, R181). -/
def clearAlertsArgs (items : List Item) : Option (Option (List Alert)) :=
  if itemsFit [{ number := 1, least := 2, most := 2, repeatable := true }, opt 2 0] items then
    match hasField 1 items, hasField 2 items with
    | true, false => (readEach alertPair (fieldAll 1 items)).map some
    | false, true => some none
    | true, true | false, false => none
  else none

def withAlerts (l : List Alert) (s : State) : State := { s with mgmt := { s.mgmt with alerts := l } }

def clearAlerts (pairs : Option (List Alert)) (s : State) : Answer :=
  let left :=
    match pairs with
    | none => []
    | some l => s.mgmt.alerts.filter fun a => !l.contains a
  answerOk (withAlerts left s) [left.map alertField] false

def cmdClearAlerts (items : List Item) (s : State) : Answer :=
  withArgs (clearAlertsArgs items) s fun p => clearAlerts p s

/-- Every received and drop counter and the missed-trigger count set to 0 (R171, R172 step 2). -/
def zeroCounters (s : State) : State :=
  { s with counters := Vector.replicate 18 PortCounters.reset, sweep := { s.sweep with missed := 0 } }

def clearCounters (s : State) : Answer := answerOk (zeroCounters s) [] false

def cmdClearCounters (items : List Item) (s : State) : Answer := plainCommand items s clearCounters

/-! ### RESTART (R159, R172) -/

/-- Every flagged slot released (R159 step 1). -/
def releaseFlagged (s : State) : State :=
  allSlots.foldl (fun s i => if (s.slot i).que.backpressure then releaseSlot i s else s) s

/-- A function of every uplink class queue. -/
def eachClass (f : Uplink → Cls → State → State) (s : State) : State :=
  allUplinks.foldl (fun s u => allClasses.foldl (fun s c => f u c s) s) s

/-- The trap queue flushed (R159 step 3). -/
def flushTrap (s : State) : State := { s with freeCells := s.freeCells + trapCells s.trapQueue, trapQueue := [] }

/-- An egress queue flushed and a control list emptied (R159 step 3). -/
def flushLink (i : Slot) (s : State) : State := (flushEgress i s).modQue i fun q => { q with control := [] }

/-- The three steps of R159. -/
def restartQueues (s : State) : State :=
  let s1 := releaseFlagged s
  let s2 := eachClass (fun u c s => s.modClass u c clearCongestion) s1
  let s3 := eachClass flushClass s2
  flushTrap (allSlots.foldl (fun s i => flushLink i s) s3)

/-- The steps of R172 before its RESPONSE. -/
def restart (s : State) : Answer :=
  let s1 := withAlerts [] (zeroCounters (restartQueues s))
  answerOk { s1 with sweep := endSweep s1.sweep } [] false

def cmdRestart (items : List Item) (s : State) : Answer := plainCommand items s restart

end Sys2Proof.Machine
end

