-- ==== Sys2Proof/Machine/Commands.lean ====
section
/-! DEFINITION. The Command Processor's taking of a COMMAND (R164, R165, R166): the command table by code, and the
event of a command from its notice destination to its RESPONSE. -/

namespace Sys2Proof.Machine

/-- The execution of a command by its code (R166, R181). A code of no command is UNKNOWN. -/
def runCode (code : Word16) (items : List Item) (s : State) : Answer :=
  match code.toNat with
  | 0x01 => cmdReadSlot items s
  | 0x02 => cmdReadInventory items s
  | 0x03 => cmdReadPower items s
  | 0x04 => cmdReadThermal items s
  | 0x05 => cmdReadFans items s
  | 0x06 => cmdReadQueues items s
  | 0x07 => cmdReadCounters items s
  | 0x08 => cmdReadAlerts items s
  | 0x09 => cmdReadTable items s
  | 0x10 => cmdSetSlot items s
  | 0x11 => cmdSetSupply items s
  | 0x12 => cmdSetTiming items s
  | 0x13 => cmdSetZone items s
  | 0x14 => cmdSetFan items s
  | 0x15 => cmdSetFanCurve items s
  | 0x16 => cmdSetFanDuty items s
  | 0x17 => cmdSetChannel items s
  | 0x18 => cmdSetSweep items s
  | 0x19 => cmdSetUplink items s
  | 0x1A => cmdSetQueue items s
  | 0x1B => cmdSetClassMap items s
  | 0x1C => cmdLoadSegment items s
  | 0x1D => cmdDeleteSegment items s
  | 0x1E => cmdLoadAdmission items s
  | 0x1F => cmdDeleteAdmission items s
  | 0x20 => cmdStartSweep items s
  | 0x21 => cmdStopSweep items s
  | 0x30 => cmdSlotPowerOn items s
  | 0x31 => cmdSlotPowerOff items s
  | 0x32 => cmdSlotKill items s
  | 0x33 => cmdSlotAdmit items s
  | 0x34 => cmdSlotRelease items s
  | 0x40 => cmdInject items s
  | 0x41 => cmdClearAlerts items s
  | 0x42 => cmdClearCounters items s
  | 0x43 => cmdRestart items s
  | _ => refuse s .unknown

/-- The notice destination set to the command's source and arrival uplink (R164 step 1). -/
def setDestination (source : Station) (u : Uplink) (s : State) : State :=
  { s with mgmt := { s.mgmt with destination := some (source, u) } }

/-- The event of a command after its execution: the evaluation where one is due, the NOTICE, the RESPONSE, the links
(R50, R164 steps 3 and 4, log 7). -/
def finish (o : Origin) (before : State) (a : Answer) : State :=
  beginAll (respond o a.status a.results (sendNotice before (evaluateIfDue before a.state a.cause)))

/-- A COMMAND taken whole (R164). -/
def runCommand (o : Origin) (items : List Item) (s : State) : State :=
  let s1 := setDestination o.source o.uplink s
  finish o s1 (runCode o.code items s1)

end Sys2Proof.Machine
end

