-- ==== Sys2Proof/Machine/Forward.lean ====
section
/-! DEFINITION. The Forwarding Engine's handling of flow control and traffic (R131, R135 to R141). -/

namespace Sys2Proof.Machine

/-- The entry of a tag ID in the segment table (R142). -/
def segmentEntry (s : State) (id : Nat) : Option Segment := s.fwd.segments.find? fun g => decide (g.tagId = id)

/-- The segment that a frame is placed in: its tag ID unless 0 or untagged, else the default segment (R135, R140). -/
def frameSegment (s : State) (default : Option Nat) (h : TrafficHeader) : Option Segment :=
  let id :=
    match h.control with
    | some c => if tagId c = 0 then default else some (tagId c)
    | none => default
  id.bind (segmentEntry s)

/-- The uplink of an upstream frame by its segment's select and the link states (R138). -/
def chooseUplink (s : State) (select : UplinkSelect) : Option Uplink :=
  match select with
  | .a => if s.uplinkA.linkUp then some .A else none
  | .b => if s.uplinkB.linkUp then some .B else none
  | .pairA => if s.uplinkA.linkUp then some .A else if s.uplinkB.linkUp then some .B else none
  | .pairB => if s.uplinkB.linkUp then some .B else if s.uplinkA.linkUp then some .A else none

/-- Whether a select includes an uplink (R140). -/
def selectIncludes : UplinkSelect → Uplink → Bool
  | .a, .A | .b, .B | .pairA, _ | .pairB, _ => true
  | .a, .B | .b, .A => false

/-- The class of an upstream frame (R139). -/
def upstreamClass (s : State) (i : Slot) (g : Segment) (h : TrafficHeader) : Cls :=
  match g.override with
  | some c => c
  | none =>
    match h.control with
    | some c => s.fwd.classMap[tagPriority c]
    | none => (s.slot i).adm.cls

/-- The TRAP action (R137): a frame longer than 2000 octets or one that the queue cannot admit is dropped under
TRAP_FULL; an admission to the trap queue is followed by the carrier try (R157). -/
def trapFrame (p : Port) (rx : Reception) (s : State) : State :=
  match offerTrap { frame := rxFrame rx, port := p } s with
  | some t => carrierTry t
  | none => drop p .trapFull s

/-- An upstream frame given to its class queue, or dropped under LINK_DOWN or QUEUE_FULL (R138, R139). -/
def forwardUpstream (i : Slot) (g : Segment) (h : TrafficHeader) (rx : Reception) (s : State) : State :=
  match chooseUplink s g.select with
  | none => drop (.slot i) .linkDown s
  | some u =>
    match offerClass u (upstreamClass s i g h) { frame := rxFrame rx, source := some i } s with
    | some t => t
    | none => drop (.slot i) .queueFull s

/-- An upstream frame (R135 to R139): the first step that fails drops it under that step's reason. -/
def upstream (i : Slot) (h : TrafficHeader) (rx : Reception) (s : State) : State :=
  if !(s.slotState i).running then drop (.slot i) .notOnline s
  else
    match frameSegment s (s.slot i).adm.segment h with
    | none => drop (.slot i) .noSegment s
    | some g =>
      if !inSlotSet g.members i then drop (.slot i) .notMember s
      else if g.strict ∧ ownerOf s.stations h.source ≠ some i then drop (.slot i) .source s
      else
        match g.action with
        | .drop => drop (.slot i) .segDrop s
        | .trap => trapFrame (.slot i) rx s
        | .forward => forwardUpstream i g h rx s

/-- One copy of a downstream frame for a slot; a refused one is dropped against that slot's port (R141). -/
def deliverCopy (rx : Reception) (i : Slot) (s : State) : State :=
  match offerEgress i (rxFrame rx) s with
  | some t => t
  | none => drop (.slot i) .queueFull s

/-- The member slots that are running, in ascending order (R141). -/
def runningMembers (s : State) (g : Segment) : List Slot :=
  allSlots.filter fun i => inSlotSet g.members i && (s.slotState i).running

/-- A frame flooded to every running member (R141). -/
def flood (u : Uplink) (g : Segment) (rx : Reception) (s : State) : State :=
  match runningMembers s g with
  | [] => drop (.uplink u) .notOnline s
  | i :: rest => (i :: rest).foldl (fun s i => deliverCopy rx i s) s

/-- A downstream FORWARD frame delivered by its destination (R141). -/
def deliver (u : Uplink) (g : Segment) (h : TrafficHeader) (rx : Reception) (s : State) : State :=
  match (if isGroup h.destination then none else ownerOf s.stations h.destination) with
  | none => flood u g rx s
  | some i =>
    if !inSlotSet g.members i then drop (.uplink u) .notMember s
    else if !(s.slotState i).running then drop (.uplink u) .notOnline s
    else deliverCopy rx i s

/-- A downstream frame (R140, R141). -/
def downstream (u : Uplink) (h : TrafficHeader) (rx : Reception) (s : State) : State :=
  match frameSegment s (s.uplink u).segment h with
  | none => drop (.uplink u) .noSegment s
  | some g =>
    if !selectIncludes g.select u then drop (.uplink u) .wrongUplink s
    else
      match g.action with
      | .drop => drop (.uplink u) .segDrop s
      | .trap => trapFrame (.uplink u) rx s
      | .forward => deliver u g h rx s

/-- The transmit hold that a pause of the given quanta sets: q * 512 ns, or none for 0 (R151). -/
def holdOf (quanta : Word16) : Timer := if quanta = 0 then .stopped else .running (quanta.toNat * 512)

/-- A flow-control frame (R131, R151). -/
def takeFlow (p : Port) (opcode quanta : Word16) (s : State) : State :=
  if opcode = 1 then
    match p with
    | .slot _ => s
    | .uplink u => s.modUplink u fun r => { r with hold := holdOf quanta }
  else drop p .malformed s

end Sys2Proof.Machine
end

