-- ==== Sys2Proof/Machine/Arrival.lean ====
section
/-! DEFINITION. The arrival of a frame (R130 to R134), and the frame of each frame row: composed by the layouts of
chapter 11, then handled by its octets (log 6). -/

namespace Sys2Proof.Machine

/-- What a block makes of a frame of its kind, closed as an event. -/
def closeEffect (before : State) (e : Effect) : State := close before e.state e.cause

/-- The handling of a frame that passed the CRC and length checks, by its class (R131 to R135, R140). -/
def handle (p : Port) (rx : Reception) (k : FrameClass) (s : State) : State :=
  match k with
  | .flow opcode quanta => close s (takeFlow p opcode quanta s) false
  | .malformed => close s (drop p .malformed s) false
  | .announce i body => closeEffect s (takeAnnounce i body s)
  | .telemetry i readings => closeEffect s (takeTelemetry i readings s)
  | .capAck i sequence => closeEffect s (takeCapAck i sequence s)
  | .shutdownAck i => closeEffect s (takeShutdownAck i s)
  | .command u source sequence code items =>
    runCommand { uplink := u, source := source, sequence := sequence, code := code } items s
  | .upstream i h => close s (upstream i h rx s) false
  | .downstream u h => close s (downstream u h rx s) false

/-- The end of a reception on a port (R130). -/
def receive (p : Port) (rx : Reception) (s : State) : State :=
  if !rx.crcMatches then s
  else if rxLength rx < 64 ∨ s.fwd.maxLength < rxLength rx then drop p .tooLong s
  else handle p rx (frameClass s p rx.octets) (countReceived p s)

/-- A COMMAND frame on an uplink. -/
def receiveCommand (u : Uplink) (e : Envelope) (code : Word16) (items : List Item) (s : State) : State :=
  receive (.uplink u) (composeControl e kindCommand (commandOctets code items)) s

end Sys2Proof.Machine
end

