-- ==== Sys2Proof/Machine/FrameRows.lean ====
section
/-! DEFINITION. The meanings of the frame rows: a frame from outside is composed to octets and received (R130, log 6).
Each command row sends a COMMAND frame with its own code (R181). -/

namespace Sys2Proof.Machine

/-! ### Blade control frames (R178) -/

def execAnnounce (i : Slot) (e : Envelope) (body : AnnounceBody) (s : State) : Host.Outcome State Fault Refusal :=
  .next (receive (.slot i) (composeControl e kindAnnounce (announceOctets body)) s)

def execTelemetry (i : Slot) (e : Envelope) (readings : List TelemetryItem) (s : State) :
    Host.Outcome State Fault Refusal :=
  .next (receive (.slot i) (composeControl e kindTelemetry (telemetryOctets readings)) s)

def execCapAck (i : Slot) (e : Envelope) (s : State) : Host.Outcome State Fault Refusal :=
  .next (receive (.slot i) (composeControl e kindCapAck []) s)

def execShutdownAck (i : Slot) (e : Envelope) (s : State) : Host.Outcome State Fault Refusal :=
  .next (receive (.slot i) (composeControl e kindShutdownAck []) s)

/-! ### Other frames -/

def execFlowControlFrame (p : Port) (f : FlowFrame) (s : State) : Host.Outcome State Fault Refusal :=
  .next (receive p (composeFlow f) s)

def execUpstreamFrame (i : Slot) (rx : Reception) (s : State) : Host.Outcome State Fault Refusal :=
  .next (receive (.slot i) rx s)

def execDownstreamFrame (u : Uplink) (rx : Reception) (s : State) : Host.Outcome State Fault Refusal :=
  .next (receive (.uplink u) rx s)

def execMalformedControlFrame (p : Port) (rx : Reception) (s : State) : Host.Outcome State Fault Refusal :=
  .next (receive p rx s)

/-! ### COMMAND frames -/

def execUnknownCommand (u : Uplink) (e : Envelope) (code : Word16) (items : List Item) (s : State) :
    Host.Outcome State Fault Refusal :=
  .next (receiveCommand u e code items s)

def execReadSlot (u : Uplink) (e : Envelope) (items : List Item) (s : State) : Host.Outcome State Fault Refusal :=
  .next (receiveCommand u e 0x01#16 items s)

def execReadInventory (u : Uplink) (e : Envelope) (items : List Item) (s : State) : Host.Outcome State Fault Refusal :=
  .next (receiveCommand u e 0x02#16 items s)

def execReadPower (u : Uplink) (e : Envelope) (items : List Item) (s : State) : Host.Outcome State Fault Refusal :=
  .next (receiveCommand u e 0x03#16 items s)

def execReadThermal (u : Uplink) (e : Envelope) (items : List Item) (s : State) : Host.Outcome State Fault Refusal :=
  .next (receiveCommand u e 0x04#16 items s)

def execReadFans (u : Uplink) (e : Envelope) (items : List Item) (s : State) : Host.Outcome State Fault Refusal :=
  .next (receiveCommand u e 0x05#16 items s)

def execReadQueues (u : Uplink) (e : Envelope) (items : List Item) (s : State) : Host.Outcome State Fault Refusal :=
  .next (receiveCommand u e 0x06#16 items s)

def execReadCounters (u : Uplink) (e : Envelope) (items : List Item) (s : State) : Host.Outcome State Fault Refusal :=
  .next (receiveCommand u e 0x07#16 items s)

def execReadAlerts (u : Uplink) (e : Envelope) (items : List Item) (s : State) : Host.Outcome State Fault Refusal :=
  .next (receiveCommand u e 0x08#16 items s)

def execReadTable (u : Uplink) (e : Envelope) (items : List Item) (s : State) : Host.Outcome State Fault Refusal :=
  .next (receiveCommand u e 0x09#16 items s)

def execSetSlot (u : Uplink) (e : Envelope) (items : List Item) (s : State) : Host.Outcome State Fault Refusal :=
  .next (receiveCommand u e 0x10#16 items s)

def execSetSupply (u : Uplink) (e : Envelope) (items : List Item) (s : State) : Host.Outcome State Fault Refusal :=
  .next (receiveCommand u e 0x11#16 items s)

def execSetTiming (u : Uplink) (e : Envelope) (items : List Item) (s : State) : Host.Outcome State Fault Refusal :=
  .next (receiveCommand u e 0x12#16 items s)

def execSetZone (u : Uplink) (e : Envelope) (items : List Item) (s : State) : Host.Outcome State Fault Refusal :=
  .next (receiveCommand u e 0x13#16 items s)

def execSetFan (u : Uplink) (e : Envelope) (items : List Item) (s : State) : Host.Outcome State Fault Refusal :=
  .next (receiveCommand u e 0x14#16 items s)

def execSetFanCurve (u : Uplink) (e : Envelope) (items : List Item) (s : State) : Host.Outcome State Fault Refusal :=
  .next (receiveCommand u e 0x15#16 items s)

def execSetFanDuty (u : Uplink) (e : Envelope) (items : List Item) (s : State) : Host.Outcome State Fault Refusal :=
  .next (receiveCommand u e 0x16#16 items s)

def execSetChannel (u : Uplink) (e : Envelope) (items : List Item) (s : State) : Host.Outcome State Fault Refusal :=
  .next (receiveCommand u e 0x17#16 items s)

def execSetSweep (u : Uplink) (e : Envelope) (items : List Item) (s : State) : Host.Outcome State Fault Refusal :=
  .next (receiveCommand u e 0x18#16 items s)

def execSetUplink (u : Uplink) (e : Envelope) (items : List Item) (s : State) : Host.Outcome State Fault Refusal :=
  .next (receiveCommand u e 0x19#16 items s)

def execSetQueue (u : Uplink) (e : Envelope) (items : List Item) (s : State) : Host.Outcome State Fault Refusal :=
  .next (receiveCommand u e 0x1A#16 items s)

def execSetClassMap (u : Uplink) (e : Envelope) (items : List Item) (s : State) : Host.Outcome State Fault Refusal :=
  .next (receiveCommand u e 0x1B#16 items s)

def execLoadSegment (u : Uplink) (e : Envelope) (items : List Item) (s : State) : Host.Outcome State Fault Refusal :=
  .next (receiveCommand u e 0x1C#16 items s)

def execDeleteSegment (u : Uplink) (e : Envelope) (items : List Item) (s : State) : Host.Outcome State Fault Refusal :=
  .next (receiveCommand u e 0x1D#16 items s)

def execLoadAdmission (u : Uplink) (e : Envelope) (items : List Item) (s : State) : Host.Outcome State Fault Refusal :=
  .next (receiveCommand u e 0x1E#16 items s)

def execDeleteAdmission (u : Uplink) (e : Envelope) (items : List Item) (s : State) : Host.Outcome State Fault Refusal :=
  .next (receiveCommand u e 0x1F#16 items s)

def execStartSweep (u : Uplink) (e : Envelope) (items : List Item) (s : State) : Host.Outcome State Fault Refusal :=
  .next (receiveCommand u e 0x20#16 items s)

def execStopSweep (u : Uplink) (e : Envelope) (items : List Item) (s : State) : Host.Outcome State Fault Refusal :=
  .next (receiveCommand u e 0x21#16 items s)

def execSlotPowerOn (u : Uplink) (e : Envelope) (items : List Item) (s : State) : Host.Outcome State Fault Refusal :=
  .next (receiveCommand u e 0x30#16 items s)

def execSlotPowerOff (u : Uplink) (e : Envelope) (items : List Item) (s : State) : Host.Outcome State Fault Refusal :=
  .next (receiveCommand u e 0x31#16 items s)

def execSlotKill (u : Uplink) (e : Envelope) (items : List Item) (s : State) : Host.Outcome State Fault Refusal :=
  .next (receiveCommand u e 0x32#16 items s)

def execSlotAdmit (u : Uplink) (e : Envelope) (items : List Item) (s : State) : Host.Outcome State Fault Refusal :=
  .next (receiveCommand u e 0x33#16 items s)

def execSlotRelease (u : Uplink) (e : Envelope) (items : List Item) (s : State) : Host.Outcome State Fault Refusal :=
  .next (receiveCommand u e 0x34#16 items s)

def execInject (u : Uplink) (e : Envelope) (items : List Item) (s : State) : Host.Outcome State Fault Refusal :=
  .next (receiveCommand u e 0x40#16 items s)

def execClearAlerts (u : Uplink) (e : Envelope) (items : List Item) (s : State) : Host.Outcome State Fault Refusal :=
  .next (receiveCommand u e 0x41#16 items s)

def execClearCounters (u : Uplink) (e : Envelope) (items : List Item) (s : State) : Host.Outcome State Fault Refusal :=
  .next (receiveCommand u e 0x42#16 items s)

def execRestart (u : Uplink) (e : Envelope) (items : List Item) (s : State) : Host.Outcome State Fault Refusal :=
  .next (receiveCommand u e 0x43#16 items s)

end Sys2Proof.Machine
end

