-- ==== Sys2Proof/Machine/Lines.lean ====
section
/-! DEFINITION. The meanings of the line events: chassis reset, presence, supply bay and power-good lines with their
filter windows (R2, R3, R34, R74, R77, R78, R81), and the uplinks' link-up senses (R129, R155). -/

namespace Sys2Proof.Machine

/-! ### CHASSIS_RESET -/

/-- A slot after chassis reset: its lines keep their levels, and a high line's filter window starts at once
(R1, R3, R74, log 1). -/
def resetSlot (fresh old : SlotRecord) : SlotRecord :=
  { fresh with
    adm := { fresh.adm with
      presenceLine := old.adm.presenceLine, window := filterWindow false old.adm.presenceLine 100 }
    rail := { fresh.rail with
      powerGoodLine := old.rail.powerGoodLine, powerGoodWindow := filterWindow false old.rail.powerGoodLine 100 } }

/-- A supply bay after chassis reset, likewise (R33, R34, log 1). -/
def resetBay (fresh old : BayRecord) : BayRecord :=
  { fresh with
    presentLine := old.presentLine, goodLine := old.goodLine,
    presentWindow := filterWindow false old.presentLine 100, goodWindow := filterWindow false old.goodLine 100 }

/-- Chassis reset with the straps sampled: every item at its reset value but the levels of the input lines, the sensed
link states and the commands that wait (R129, R133, log 1, log 2). -/
def afterReset (straps : Byte) (s : State) : State :=
  let r := State.reset
  { r with
    slots := Vector.ofFn fun i => resetSlot (r.slot i) (s.slot i)
    bays := Vector.ofFn fun b => resetBay r.bays[b] s.bays[b]
    fwd := { r.fwd with straps := straps }
    uplinkA := { r.uplinkA with linkUp := s.uplinkA.linkUp }
    uplinkB := { r.uplinkB with linkUp := s.uplinkB.linkUp }
    pending := s.pending }

def execChassisReset (straps : Byte) (s : State) : Host.Outcome State Fault Refusal := .next (afterReset straps s)

/-! ### Presence (R2) -/

/-- A line at a level; a level that it already has is no move (log 19). -/
def execPresenceLineChange (i : Slot) (level : Bool) (s : State) : Host.Outcome State Fault Refusal :=
  .next (if level = (s.slot i).adm.presenceLine then s else s.modAdm i (movePresence level s.timing.presenceFilter))

def execPresenceFilterExpiry (i : Slot) (s : State) : Host.Outcome State Fault Refusal :=
  .next (if (s.slot i).adm.window.isRunning then close s (presenceExpiry i s).state (presenceExpiry i s).cause else s)

/-! ### Supply bays (R34) -/

def execBayLineChange (b : Bay) (line : BayLine) (level : Bool) (s : State) : Host.Outcome State Fault Refusal :=
  .next (if level = s.bays[b].line line then s else s.modBay b (moveBayLine line level s.timing.bayFilter))

/-- A bay window's expiry: a filtered change recomputes the capacity and is handed on as a CHANGE trigger
(R34, R39). -/
def bayExpiry (b : Bay) (line : BayLine) (s : State) : State :=
  let s1 := s.modBay b (takeBayLine line)
  if s.bays[b].line line = s.bays[b].level line then s1 else changeTrigger (recomputeCapacity s1)

def execBayLineFilterExpiry (b : Bay) (line : BayLine) (s : State) : Host.Outcome State Fault Refusal :=
  .next (if (s.bays[b].window line).isRunning then close s (bayExpiry b line s) false else s)

/-! ### Power-good (R77, R78, R81) -/

/-- A power-good line at a level, with its filter window started or cancelled (R77). -/
def movePowerGood (level : Bool) (length : Nat) (r : RailPart) : RailPart :=
  { r with powerGoodLine := level, powerGoodWindow := filterWindow r.powerGood level length }

def execPowerGoodLineChange (i : Slot) (level : Bool) (s : State) : Host.Outcome State Fault Refusal :=
  .next (if level = (s.slot i).rail.powerGoodLine then s
    else s.modRail i (movePowerGood level s.timing.powerGoodFilter))

/-- The states in which a filtered power-good fall is a power-good loss (R77, R81). -/
def losesPower (r : SlotRecord) : Bool :=
  r.inStage .resetHold || r.adm.state == .online || r.adm.state == .capped || r.adm.state == .shuttingDown

/-- A power-good window's expiry: a rise leaves RAIL_UP, a fall under main power is a power-good loss, and any other
change is only stored (R77, R78, R81). -/
def powerGoodExpiry (i : Slot) (s : State) : Effect :=
  let r := s.slot i
  let s1 := s.modRail i fun r => { r with powerGood := r.powerGoodLine, powerGoodWindow := .stopped }
  if r.rail.powerGoodLine = r.rail.powerGood then { state := s1, cause := false }
  else if r.rail.powerGoodLine then
    { state := if r.inStage .railUp then s1.modRail i (leaveRailUp s.timing.resetHold) else s1, cause := false }
  else if losesPower r then { state := raiseSlot .fault i (mainOff i .fault s1), cause := true }
  else { state := s1, cause := false }

def execPowerGoodFilterExpiry (i : Slot) (s : State) : Host.Outcome State Fault Refusal :=
  .next (if (s.slot i).rail.powerGoodWindow.isRunning then
    close s (powerGoodExpiry i s).state (powerGoodExpiry i s).cause else s)

/-! ### Uplink link states (R129, R151, R155) -/

/-- A link fall: the link down, its transmit hold ended, its four class queues flushed (R151, R155). -/
def linkFall (u : Uplink) (s : State) : State :=
  allClasses.foldl (fun s c => linkDownClass u c s) (s.modUplink u fun r => { r with linkUp := false, hold := .stopped })

def execUplinkLinkFall (u : Uplink) (s : State) : Host.Outcome State Fault Refusal :=
  .next (if (s.uplink u).linkUp then close s (linkFall u s) false else s)

def execUplinkLinkRise (u : Uplink) (s : State) : Host.Outcome State Fault Refusal :=
  .next (if (s.uplink u).linkUp then s else close s (s.modUplink u fun r => { r with linkUp := true }) false)

end Sys2Proof.Machine
end

