-- ==== Sys2Proof/Machine/Links.lean ====
section
/-! DEFINITION. The meanings of the ends of transmissions and of transmit holds (R150 to R153, R157). -/

namespace Sys2Proof.Machine

/-- The carrier try at a completion of class 0 on the notice destination's uplink (R157). -/
def tryAfter (u : Uplink) (c : Cls) (s : State) : State :=
  match s.mgmt.destination with
  | some (_, v) => if c = 0 ∧ u = v then carrierTry s else s
  | none => s

/-- A frame's transmission on an uplink completed: its cells return, the downward test is made, and the carrier is
tried before the next transmission begins (R150, R153, R157, log 8). -/
def uplinkComplete (u : Uplink) (f : UplinkFlight) (s : State) : State :=
  let s1 := { s with freeCells := s.freeCells + f.entry.frame.cells }.modUplink u fun r => { r with flight := none }
  tryAfter u f.cls (downwardTest u f.cls s1)

def execUplinkTransmissionComplete (u : Uplink) (s : State) : Host.Outcome State Fault Refusal :=
  .next (match (s.uplink u).flight with
    | none => s
    | some f => close s (uplinkComplete u f s) false)

/-- A frame's transmission on a slot link completed: the cells of an egress frame return (R148, R152). -/
def slotComplete (i : Slot) (f : SlotFlight) (s : State) : State :=
  let s1 := s.modQue i fun q => { q with flight := none }
  if f.fromEgress then { s1 with freeCells := s1.freeCells + f.frame.cells } else s1

def execSlotTransmissionComplete (i : Slot) (s : State) : Host.Outcome State Fault Refusal :=
  .next (match (s.slot i).que.flight with
    | none => s
    | some f => close s (slotComplete i f s) false)

def execTransmitHoldEnd (u : Uplink) (s : State) : Host.Outcome State Fault Refusal :=
  .next (if (s.uplink u).hold.isRunning then close s (s.modUplink u fun r => { r with hold := .stopped }) false else s)

end Sys2Proof.Machine
end

