-- ==== Sys2Proof/Machine/Timers.lean ====
section
/-! DEFINITION. The meanings of the timer events of the slots and of the sweep engine (R6, R67, R79, R80, R86, R93, R96,
R98, R101, R154). An expiry of a timer that is stopped changes nothing; one that finds its slot outside the states that
it leads from stops the timer alone (R14, log 16). -/

namespace Sys2Proof.Machine

/-! ### Slot timers -/

/-- The announce window's expiry (R6). -/
def announceExpiry (i : Slot) (s : State) : State :=
  let s1 := s.modAdm i fun a => { a with announceWindow := .stopped }
  if s.slotState i = .announceWait then raiseSlot .attention i (moveTo i .unidentified s1) else s1

def execAnnounceWindowExpiry (i : Slot) (s : State) : Host.Outcome State Fault Refusal :=
  .next (if (s.slot i).adm.announceWindow.isRunning then close s (announceExpiry i s) false else s)

/-- The cap-ack timer's expiry: the power-off of R61 with CAP_TIMEOUT in place of SHED (R67). -/
def capAckExpiry (i : Slot) (s : State) : Effect :=
  if s.slotState i = .capped ∨ (s.slotState i = .shuttingDown ∧ (s.slot i).bud.capped = true) then
    { state := raiseSlot .capTimeout i (mainOff i .powerWait s), cause := true }
  else { state := s.modBud i fun b => { b with capAck := .stopped }, cause := true }

def execCapAckTimerExpiry (i : Slot) (s : State) : Host.Outcome State Fault Refusal :=
  .next (if (s.slot i).bud.capAck.isRunning then close s (capAckExpiry i s).state (capAckExpiry i s).cause else s)

/-- The power-good timer's expiry in RAIL_UP: a main-off to FAULT (R80). -/
def powerGoodTimeout (i : Slot) (s : State) : Effect :=
  if (s.slot i).inStage .railUp then { state := raiseSlot .fault i (mainOff i .fault s), cause := true }
  else { state := s.modRail i fun r => { r with powerGoodTimer := .stopped }, cause := false }

def execPowerGoodTimerExpiry (i : Slot) (s : State) : Host.Outcome State Fault Refusal :=
  .next (if (s.slot i).rail.powerGoodTimer.isRunning then
    close s (powerGoodTimeout i s).state (powerGoodTimeout i s).cause else s)

/-- The reset-hold timer's expiry in RESET_HOLD: reset released, ONLINE, the lane freed (R79). -/
def resetHoldEnd (i : Slot) (s : State) : Effect :=
  if (s.slot i).inStage .resetHold then
    { state := (moveTo i .online (freeLane i s)).modRail i fun r =>
        { r with resetAsserted := false, stage := .none, resetHold := .stopped }
      cause := true }
  else { state := s.modRail i fun r => { r with resetHold := .stopped }, cause := false }

def execResetHoldExpiry (i : Slot) (s : State) : Host.Outcome State Fault Refusal :=
  .next (if (s.slot i).rail.resetHold.isRunning then
    close s (resetHoldEnd i s).state (resetHoldEnd i s).cause else s)

/-- The shutdown timer's expiry in SHUTTING_DOWN: a main-off to STANDBY with SHUTDOWN_TIMEOUT (R86). -/
def shutdownExpiry (i : Slot) (s : State) : Effect :=
  if s.slotState i = .shuttingDown then
    { state := raiseSlot .shutdownTimeout i (mainOff i .standby s), cause := true }
  else { state := s.modRail i fun r => { r with shutdown := .stopped }, cause := false }

def execShutdownTimerExpiry (i : Slot) (s : State) : Host.Outcome State Fault Refusal :=
  .next (if (s.slot i).rail.shutdown.isRunning then
    close s (shutdownExpiry i s).state (shutdownExpiry i s).cause else s)

/-- The stale timer's expiry: the flag set and the zone recomputed (R93). -/
def staleExpiry (i : Slot) (s : State) : State :=
  rezoneSlot i (s.modTel i fun t => { t with stale := true, staleTimer := .stopped })

def execStaleTimerExpiry (i : Slot) (s : State) : Host.Outcome State Fault Refusal :=
  .next (if (s.slot i).tel.staleTimer.isRunning then close s (staleExpiry i s) false else s)

/-- The pause refresh timer's expiry while the slot is flagged: a pause with the quanta in force becomes pending and
the timer starts again (R154). -/
def refreshPause (quanta : Nat) (q : QueuePart) : QueuePart :=
  if q.backpressure then { q with pendingPause := some quanta, refresh := .running (refreshLength quanta) }
  else { q with refresh := .stopped }

def execPauseRefreshExpiry (i : Slot) (s : State) : Host.Outcome State Fault Refusal :=
  .next (if (s.slot i).que.refresh.isRunning then
    close s (s.modQue i (refreshPause (s.slot i).adm.quanta)) false else s)

/-! ### The sweep engine -/

def execPeriodTimerExpiry (s : State) : Host.Outcome State Fault Refusal :=
  .next (if s.sweep.periodTimer.isRunning then { s with sweep := periodExpiry s.sweep } else s)

/-- The end of STARTING (R96). -/
def execStartDelayEnd (s : State) : Host.Outcome State Fault Refusal :=
  .next (match s.sweep.engine with
    | .starting => { s with sweep := advanceEngine s.sweep 0 }
    | .idle | .converting _ => s)

/-- The result that a conversion code stands for: a temperature on channels 0 to 3, where the code of -128 gives no
result (log 12), and the code itself on channels 4 to 7 (R95). -/
def conversionResult (c : Channel) (code : Byte) : Option Int :=
  if c.val < 4 then (if code.toInt = -128 then none else some code.toInt) else some (code.toNat : Int)

/-- A result above the high limit, or at or below the low limit, raises LOCAL_LIMIT (R101). -/
def checkLimits (c : Channel) (result : Int) (s : State) : State :=
  if s.channels[c].high < result ∨ result ≤ s.channels[c].low then raise { kind := .localLimit, index := c.val } s else s

/-- A channel 4 result is handed to the Supply Monitor (R43, R96). -/
def handBrownout (c : Channel) (result : Int) (s : State) : State := if c = 4 then applyBrownout result s else s

/-- The zone that a channel is mapped to is recomputed (R96, R104). -/
def rezoneChannel (c : Channel) (s : State) : State :=
  match s.channels[c].zone with
  | none => s
  | some z => rezone [z] s

/-- A conversion's completion on a channel (R96): the result stored, checked and handed on, then the next channel. The
end of a brownout asks for an evaluation (R43). -/
def completeConversion (c : Channel) (code : Byte) (s : State) : Effect :=
  let s1 :=
    match conversionResult c code with
    | none => s
    | some v => handBrownout c v (checkLimits c v (s.modChannel c fun r => { r with result := some v }))
  let s2 := rezoneChannel c s1
  { state := { s2 with sweep := advanceEngine s2.sweep (c.val + 1) }
    cause := s.supply.brownout && !s2.supply.brownout }

def execConversionComplete (code : Byte) (s : State) : Host.Outcome State Fault Refusal :=
  .next (match s.sweep.engine with
    | .converting c => close s (completeConversion c code s).state (completeConversion c code s).cause
    | .idle | .starting => s)

end Sys2Proof.Machine
end

