-- ==== Sys2Proof/Machine/Dispatch.lean ====
section
/-! DEFINITION. The effect of each command on everything but the queue of waiting commands: one arm per row of
spec/opcode_table.json, one meaning per arm. -/

namespace Sys2Proof.Machine

def exec (i : Instr) (s : State) : Host.Outcome State Fault Refusal :=
  match i with
  | .chassisReset straps => Sys2Proof.Machine.execChassisReset straps s
  | .presenceLineChange k level => Sys2Proof.Machine.execPresenceLineChange k level s
  | .presenceFilterExpiry k => Sys2Proof.Machine.execPresenceFilterExpiry k s
  | .announceWindowExpiry k => Sys2Proof.Machine.execAnnounceWindowExpiry k s
  | .announce k e body => Sys2Proof.Machine.execAnnounce k e body s
  | .telemetry k e readings => Sys2Proof.Machine.execTelemetry k e readings s
  | .capAck k e => Sys2Proof.Machine.execCapAck k e s
  | .shutdownAck k e => Sys2Proof.Machine.execShutdownAck k e s
  | .flowControlFrame p f => Sys2Proof.Machine.execFlowControlFrame p f s
  | .upstreamFrame k rx => Sys2Proof.Machine.execUpstreamFrame k rx s
  | .downstreamFrame u rx => Sys2Proof.Machine.execDownstreamFrame u rx s
  | .uplinkTransmissionComplete u => Sys2Proof.Machine.execUplinkTransmissionComplete u s
  | .slotTransmissionComplete k => Sys2Proof.Machine.execSlotTransmissionComplete k s
  | .transmitHoldEnd u => Sys2Proof.Machine.execTransmitHoldEnd u s
  | .pauseRefreshExpiry k => Sys2Proof.Machine.execPauseRefreshExpiry k s
  | .uplinkLinkFall u => Sys2Proof.Machine.execUplinkLinkFall u s
  | .uplinkLinkRise u => Sys2Proof.Machine.execUplinkLinkRise u s
  | .bayLineChange b line level => Sys2Proof.Machine.execBayLineChange b line level s
  | .bayLineFilterExpiry b line => Sys2Proof.Machine.execBayLineFilterExpiry b line s
  | .capAckTimerExpiry k => Sys2Proof.Machine.execCapAckTimerExpiry k s
  | .powerGoodLineChange k level => Sys2Proof.Machine.execPowerGoodLineChange k level s
  | .powerGoodFilterExpiry k => Sys2Proof.Machine.execPowerGoodFilterExpiry k s
  | .powerGoodTimerExpiry k => Sys2Proof.Machine.execPowerGoodTimerExpiry k s
  | .resetHoldExpiry k => Sys2Proof.Machine.execResetHoldExpiry k s
  | .shutdownTimerExpiry k => Sys2Proof.Machine.execShutdownTimerExpiry k s
  | .staleTimerExpiry k => Sys2Proof.Machine.execStaleTimerExpiry k s
  | .periodTimerExpiry => Sys2Proof.Machine.execPeriodTimerExpiry s
  | .startDelayEnd => Sys2Proof.Machine.execStartDelayEnd s
  | .conversionComplete code => Sys2Proof.Machine.execConversionComplete code s
  | .rampExpiry f => Sys2Proof.Machine.execRampExpiry f s
  | .spinUpExpiry f => Sys2Proof.Machine.execSpinUpExpiry f s
  | .tachPulse f => Sys2Proof.Machine.execTachPulse f s
  | .tachGateExpiry => Sys2Proof.Machine.execTachGateExpiry s
  | .unknownCommand u e code items => Sys2Proof.Machine.execUnknownCommand u e code items s
  | .readSlot u e items => Sys2Proof.Machine.execReadSlot u e items s
  | .readInventory u e items => Sys2Proof.Machine.execReadInventory u e items s
  | .readPower u e items => Sys2Proof.Machine.execReadPower u e items s
  | .readThermal u e items => Sys2Proof.Machine.execReadThermal u e items s
  | .readFans u e items => Sys2Proof.Machine.execReadFans u e items s
  | .readQueues u e items => Sys2Proof.Machine.execReadQueues u e items s
  | .readCounters u e items => Sys2Proof.Machine.execReadCounters u e items s
  | .readAlerts u e items => Sys2Proof.Machine.execReadAlerts u e items s
  | .readTable u e items => Sys2Proof.Machine.execReadTable u e items s
  | .setSlot u e items => Sys2Proof.Machine.execSetSlot u e items s
  | .setSupply u e items => Sys2Proof.Machine.execSetSupply u e items s
  | .setTiming u e items => Sys2Proof.Machine.execSetTiming u e items s
  | .setZone u e items => Sys2Proof.Machine.execSetZone u e items s
  | .setFan u e items => Sys2Proof.Machine.execSetFan u e items s
  | .setFanCurve u e items => Sys2Proof.Machine.execSetFanCurve u e items s
  | .setFanDuty u e items => Sys2Proof.Machine.execSetFanDuty u e items s
  | .setChannel u e items => Sys2Proof.Machine.execSetChannel u e items s
  | .setSweep u e items => Sys2Proof.Machine.execSetSweep u e items s
  | .setUplink u e items => Sys2Proof.Machine.execSetUplink u e items s
  | .setQueue u e items => Sys2Proof.Machine.execSetQueue u e items s
  | .setClassMap u e items => Sys2Proof.Machine.execSetClassMap u e items s
  | .loadSegment u e items => Sys2Proof.Machine.execLoadSegment u e items s
  | .deleteSegment u e items => Sys2Proof.Machine.execDeleteSegment u e items s
  | .loadAdmission u e items => Sys2Proof.Machine.execLoadAdmission u e items s
  | .deleteAdmission u e items => Sys2Proof.Machine.execDeleteAdmission u e items s
  | .startSweep u e items => Sys2Proof.Machine.execStartSweep u e items s
  | .stopSweep u e items => Sys2Proof.Machine.execStopSweep u e items s
  | .slotPowerOn u e items => Sys2Proof.Machine.execSlotPowerOn u e items s
  | .slotPowerOff u e items => Sys2Proof.Machine.execSlotPowerOff u e items s
  | .slotKill u e items => Sys2Proof.Machine.execSlotKill u e items s
  | .slotAdmit u e items => Sys2Proof.Machine.execSlotAdmit u e items s
  | .slotRelease u e items => Sys2Proof.Machine.execSlotRelease u e items s
  | .inject u e items => Sys2Proof.Machine.execInject u e items s
  | .clearAlerts u e items => Sys2Proof.Machine.execClearAlerts u e items s
  | .clearCounters u e items => Sys2Proof.Machine.execClearCounters u e items s
  | .restart u e items => Sys2Proof.Machine.execRestart u e items s
  | .malformedControlFrame p rx => Sys2Proof.Machine.execMalformedControlFrame p rx s

end Sys2Proof.Machine
end

