-- ==== Sys2Proof/WellFormed.lean ====
section
/-! DEFINITION. Which commands have a frame that octets can carry: counts and lengths fit their fields (R176, R178,
R180), and UNKNOWN_COMMAND carries a code that is none of the command table's (R166, R181). The machine gives every
command a meaning, well-formed or not: a frame whose counts do not fit is read as its octets say. -/

namespace Sys2Proof

/-- The command codes of R181. -/
def knownCodes : List Nat :=
  [0x01, 0x02, 0x03, 0x04, 0x05, 0x06, 0x07, 0x08, 0x09, 0x10, 0x11, 0x12, 0x13, 0x14, 0x15, 0x16, 0x17, 0x18, 0x19,
    0x1A, 0x1B, 0x1C, 0x1D, 0x1E, 0x1F, 0x20, 0x21, 0x30, 0x31, 0x32, 0x33, 0x34, 0x40, 0x41, 0x42, 0x43]

/-- The octets that a list of field items takes in a body (R180). -/
def itemsLength : List Item → Nat
  | [] => 0
  | it :: rest => 3 + it.value.length + itemsLength rest

/-- A COMMAND body whose control length fits its two octets; every item's length then fits too (R176, R180). -/
def itemsWellFormed (items : List Item) : Bool := decide (2 + itemsLength items < 65536)

def Instr.wellFormed : Instr → Bool
  | .announce _ _ body => decide (body.addresses.length < 256)
  | .telemetry _ _ readings => decide (readings.length < 256)
  | .unknownCommand _ _ code items => !knownCodes.contains code.toNat && itemsWellFormed items
  | .readSlot _ _ items | .readInventory _ _ items | .readPower _ _ items | .readThermal _ _ items
  | .readFans _ _ items | .readQueues _ _ items | .readCounters _ _ items | .readAlerts _ _ items
  | .readTable _ _ items | .setSlot _ _ items | .setSupply _ _ items | .setTiming _ _ items
  | .setZone _ _ items | .setFan _ _ items | .setFanCurve _ _ items | .setFanDuty _ _ items
  | .setChannel _ _ items | .setSweep _ _ items | .setUplink _ _ items | .setQueue _ _ items
  | .setClassMap _ _ items | .loadSegment _ _ items | .deleteSegment _ _ items | .loadAdmission _ _ items
  | .deleteAdmission _ _ items | .startSweep _ _ items | .stopSweep _ _ items | .slotPowerOn _ _ items
  | .slotPowerOff _ _ items | .slotKill _ _ items | .slotAdmit _ _ items | .slotRelease _ _ items
  | .inject _ _ items | .clearAlerts _ _ items | .clearCounters _ _ items | .restart _ _ items =>
    itemsWellFormed items
  | .chassisReset _ | .presenceLineChange _ _ | .presenceFilterExpiry _ | .announceWindowExpiry _ | .capAck _ _
  | .shutdownAck _ _ | .flowControlFrame _ _ | .upstreamFrame _ _ | .downstreamFrame _ _
  | .uplinkTransmissionComplete _ | .slotTransmissionComplete _ | .transmitHoldEnd _ | .pauseRefreshExpiry _
  | .uplinkLinkFall _ | .uplinkLinkRise _ | .bayLineChange _ _ _ | .bayLineFilterExpiry _ _ | .capAckTimerExpiry _
  | .powerGoodLineChange _ _ | .powerGoodFilterExpiry _ | .powerGoodTimerExpiry _ | .resetHoldExpiry _
  | .shutdownTimerExpiry _ | .staleTimerExpiry _ | .periodTimerExpiry | .startDelayEnd | .conversionComplete _
  | .rampExpiry _ | .spinUpExpiry _ | .tachPulse _ | .tachGateExpiry | .malformedControlFrame _ _ => true

end Sys2Proof
end

