-- ==== Sys2Proof/Safety.lean ====
section
/-! DEFINITION. What the spec says of every state between events: the invariants in whose terms the claims speak. Each
names the rule that it formalises. -/

namespace Sys2Proof.Machine

/-! ### The cell pool (R148) -/

def uplinkCells (r : UplinkRecord) : Nat := (allClasses.map fun c => r.occupancy c).sum

def slotCells (s : State) : Nat := (allSlots.map fun i => (s.slot i).que.occupancy).sum

/-- The cells held by all frames in the uplink queues, egress queues and trap queue. -/
def heldCells (s : State) : Nat := uplinkCells s.uplinkA + uplinkCells s.uplinkB + slotCells s + trapCells s.trapQueue

/-- The free cells plus the cells held always equal 512 (R148). -/
def PoolBalance (s : State) : Prop := s.freeCells + heldCells s = Config.poolCells

/-! ### The grant queue and the lanes (R14, R51, R57) -/

/-- The request that a slot in a state has in the grant queue. -/
def requestOf : SlotState → Option RequestKind
  | .standbyWait => some .standby
  | .powerWait => some .main
  | .empty | .announceWait | .unidentified | .denied | .standby | .powering | .online | .capped | .shuttingDown
  | .fault => none

/-- The queue holds exactly the slots in STANDBY_WAIT and POWER_WAIT, each once, with its kind (R14). -/
def QueueMatches (s : State) : Prop :=
  (s.budget.queue.map (·.slot)).Nodup ∧ (∀ e ∈ s.budget.queue, requestOf (s.slotState e.slot) = some e.kind) ∧
    ∀ i : Slot, requestOf (s.slotState i) ≠ none → i ∈ s.budget.queue.map (·.slot)

/-- An entry may stand before another: standby before main, main by priority (R51). -/
def standsBefore (s : State) (a b : Request) : Prop :=
  a.kind = .standby ∨ (b.kind = .main ∧ s.priorityOf a.slot ≤ s.priorityOf b.slot)

def QueueOrdered (s : State) : Prop := s.budget.queue.Pairwise (standsBefore s)

def poweringCount (s : State) : Nat := (allSlots.filter fun i => isPowering (s.slot i)).length

/-- Lanes in use are the slots in POWERING (R57). -/
def LanesMatch (s : State) : Prop := s.budget.lanesInUse = poweringCount s

/-- Lanes in use are at most the lane count (R47, R57). -/
def LanesBounded (s : State) : Prop := s.budget.lanesInUse ≤ s.budget.laneCount

/-! ### Slots (R2, R4, R47, R74, R75) -/

/-- The states with reset released (R75). -/
def SlotState.released : SlotState → Bool
  | .online | .capped | .shuttingDown => true
  | .empty | .standbyWait | .announceWait | .unidentified | .denied | .standby | .powerWait | .powering | .fault => false

/-- The outputs, the sub-stage and the shutdown reason follow the state (R74, R75). -/
def OutputsFollow (r : SlotRecord) : Prop :=
  r.rail.standbyRail = r.adm.state.standbyHeld ∧ r.rail.mainRail = r.adm.state.mainPowered ∧
    r.rail.resetAsserted = !r.adm.state.released ∧ (r.rail.stage ≠ .none ↔ r.adm.state = .powering) ∧
    (r.rail.reason ≠ none ↔ r.adm.state = .shuttingDown)

/-- What a slot holds follows its state: standby W exactly with the standby rail (R75), main W and grant W only while
main-powered, the capped flag in CAPPED and at most in SHUTTING_DOWN beside it, the cap-ack timer only with the flag
(R48, R67). -/
def BudgetFollows (r : SlotRecord) : Prop :=
  (r.bud.standbyW ≠ 0 ↔ r.adm.state.standbyHeld = true) ∧
    (r.adm.state.mainPowered = false → r.bud.mainW = 0 ∧ r.bud.grantW = 0) ∧
    (r.adm.state = .capped → r.bud.capped = true) ∧
    (r.bud.capped = true → r.adm.state = .capped ∨ r.adm.state = .shuttingDown) ∧
    (r.bud.capAck.isRunning = true → r.bud.capped = true)

/-- The filtered presence level is low exactly in EMPTY (R4), the present flag follows it (R22), and each filter window
runs exactly while its line is at the other level (R2, R77). -/
def FiltersFollow (r : SlotRecord) : Prop :=
  (r.adm.filtered = true ↔ r.adm.state ≠ .empty) ∧ r.inv.present = r.adm.filtered ∧
    (r.adm.window.isRunning = true ↔ r.adm.presenceLine ≠ r.adm.filtered) ∧
    (r.rail.powerGoodWindow.isRunning = true ↔ r.rail.powerGoodLine ≠ r.rail.powerGood)

def SlotsConsistent (s : State) : Prop :=
  ∀ i : Slot, OutputsFollow (s.slot i) ∧ BudgetFollows (s.slot i) ∧ FiltersFollow (s.slot i)

/-- The states in which a slot holds power, its request in the queue, the lanes and the record of each slot agree. -/
def PowerConsistent (s : State) : Prop := QueueMatches s ∧ LanesMatch s ∧ SlotsConsistent s

/-! ### The budget (R63, R72) -/

/-- H is not below 0 while any slot holds a commitment (R72). -/
def BudgetSafe (s : State) : Prop := 0 ≤ headroom s ∨ ∀ i : Slot, commitment (s.slot i) = 0

/-! ### The station table (R25, R26) -/

def enteredAddresses (r : SlotRecord) : List Station :=
  (r.inv.addresses.filter fun a => a.status == .entered).map (·.address)

/-- The table holds the addresses with status ENTERED of each slot, slot by slot in ascending order, at most four for a
slot, none twice and none that cannot name a station (R25, R26). -/
def StationsConsistent (s : State) : Prop :=
  s.stations = allSlots.flatMap (fun i => (enteredAddresses (s.slot i)).map fun a => { address := a, owner := i }) ∧
    (s.stations.map (·.address)).Nodup ∧ (∀ i : Slot, (enteredAddresses (s.slot i)).length ≤ 4) ∧
    ∀ e ∈ s.stations, invalidStation s e.address = false

/-- No entry of the table belongs to a slot in EMPTY, STANDBY_WAIT or ANNOUNCE_WAIT (R25), nor to one in UNIDENTIFIED,
which a slot enters from ANNOUNCE_WAIT alone (R6, R14). -/
def StationOwners (s : State) : Prop :=
  ∀ e ∈ s.stations, s.slotState e.owner ∉ [.empty, .standbyWait, .announceWait, .unidentified]

/-! ### Zones and fans (R104, R105, R112, R119, R125) -/

/-- Every zone temperature is the one that R104 gives. -/
def ZonesCurrent (s : State) : Prop := ∀ z : Zone, s.zones[z].temp = zoneTemp s z

/-- The override stands as its last evaluation leaves it (R105). -/
def OverrideConsistent (s : State) : Prop :=
  0 ≤ s.thermal.hysteresis ∧ (s.thermal.overrideOn = true → belowLimit s = false) ∧
    (s.thermal.overrideOn = false → overLimit s = false)

/-- Every target is the one that R112 gives. -/
def TargetsCurrent (s : State) : Prop := ∀ f : Fan, s.fans[f].target = targetOf s.zones s.fans[f]

/-- Every P_f is the one that R125 gives, and F is their sum (R125, R127). -/
def PowersCurrent (s : State) : Prop :=
  (∀ f : Fan, s.fans[f].power = fanPower s.thermal.overrideOn s.fans[f]) ∧ s.fanReservation = powerSum s.fans

/-- A fan in OFF stands at 0 with nothing running; under the override every other fan stands at 255 with nothing
running; a fan in spin-up stands at 255 with its ramp timer stopped (R115, R117, R119). -/
def FanHeld (overrideOn : Bool) (f : FanRecord) : Prop :=
  (f.mode = .off → f.actual = 0 ∧ f.spin = .stopped ∧ f.ramp = .stopped) ∧
    (overrideOn = true → f.mode ≠ .off → f.actual = 255 ∧ f.spin = .stopped ∧ f.ramp = .stopped) ∧
    (f.spin.isRunning = true → f.actual = 255 ∧ f.ramp = .stopped)

def FansHeld (s : State) : Prop := ∀ f : Fan, FanHeld s.thermal.overrideOn s.fans[f]

/-! ### What a change of the zones hands on (R104, R105, R112, R119, R120, R125) -/

/-- The settings of a fan, with its tach. -/
def fanFixed (f : FanRecord) : FanRecord :=
  { f with target := 0, actual := 0, spin := .stopped, ramp := .stopped, power := 0 }

/-- The zones of `m` are those of `s`, each zone of a set with its temperature recomputed on `m` (R104). -/
def ZonesRecomputed (s m : State) (moved : Zone → Prop) : Prop :=
  ∀ z : Zone, (moved z → m.zones[z] = { s.zones[z] with temp := zoneTemp m z }) ∧ (¬moved z → m.zones[z] = s.zones[z])

/-- Whether T, T_low or R of a zone that a fan follows differs between two states (R112). -/
def FollowedZoneMoved (s m : State) (f : FanRecord) : Prop :=
  ∃ z : Zone, follows f z = true ∧ (m.zones[z].temp ≠ s.zones[z].temp ∨ m.zones[z].low ≠ s.zones[z].low ∨
    m.zones[z].range ≠ s.zones[z].range)

/-- What the zones of `m`, changed from those of `s`, hand on within the event: the override evaluated once where a
temperature, a limit or the hysteresis changed (R105); each fan that follows a changed zone retargeted and settled
(R112, R115), every fan settled where the override began or ended (R119, R120); F as the sum of the fan powers (R125).
That the fans are settled before the override is evaluated is the model's choice (log 13). -/
structure ThermalHandedOn (s m : State) : Prop where
  kept : (∀ z : Zone, m.zones[z].temp = s.zones[z].temp ∧ m.zones[z].limit = s.zones[z].limit) →
    m.thermal.hysteresis = s.thermal.hysteresis → m.thermal.overrideOn = s.thermal.overrideOn
  ends : ¬((∀ z : Zone, m.zones[z].temp = s.zones[z].temp ∧ m.zones[z].limit = s.zones[z].limit) ∧
      m.thermal.hysteresis = s.thermal.hysteresis) → s.thermal.overrideOn = true →
    (m.thermal.overrideOn = false ↔
      ∀ z : Zone, m.zones[z].limit = -128 ∨ m.zones[z].temp ≤ m.zones[z].limit - m.thermal.hysteresis)
  begins : ¬((∀ z : Zone, m.zones[z].temp = s.zones[z].temp ∧ m.zones[z].limit = s.zones[z].limit) ∧
      m.thermal.hysteresis = s.thermal.hysteresis) → s.thermal.overrideOn = false →
    (m.thermal.overrideOn = true ↔ ∃ z : Zone, m.zones[z].limit ≠ -128 ∧ m.zones[z].limit < m.zones[z].temp)
  fans : ∀ f : Fan, ∃ g h : FanRecord,
    h = settle s.thermal.overrideOn { s.fans[f] with target := targetOf m.zones s.fans[f] } ∧
    (FollowedZoneMoved s m s.fans[f] ∧ targetOf m.zones s.fans[f] ≠ s.fans[f].target →
      g = { h with power := fanPower s.thermal.overrideOn h }) ∧
    (¬(FollowedZoneMoved s m s.fans[f] ∧ targetOf m.zones s.fans[f] ≠ s.fans[f].target) → g = s.fans[f]) ∧
    (m.thermal.overrideOn = s.thermal.overrideOn → m.fans[f] = g) ∧
    (m.thermal.overrideOn ≠ s.thermal.overrideOn → m.fans[f] =
      { settle m.thermal.overrideOn g with power := fanPower m.thermal.overrideOn (settle m.thermal.overrideOn g) })
  reservation : m.fanReservation =
    if m.zones = s.zones ∧ m.thermal.hysteresis = s.thermal.hysteresis then s.fanReservation else powerSum m.fans

/-- The alert set of `m` is that of `s` with the event's own alerts, and with OVERRIDE where the override began
(R105, R168). -/
def AlertsGain (s m : State) (own : Alert → Prop) : Prop :=
  ∀ a : Alert, a ∈ m.mgmt.alerts ↔ own a ∨ a ∈ s.mgmt.alerts ∨
    (a = { kind := .override, index := 0 } ∧ s.thermal.overrideOn = false ∧ m.thermal.overrideOn = true)

/-- The period timer runs only under PERIOD (R98). -/
def PeriodArmed (w : Sweep) : Prop := w.periodTimer.isRunning = true → w.current.select = .period

/-! ### Congestion and backpressure (R153, R154) -/

/-- Watermarks in their order; staged watermarks and a held set only in a congested queue; a congested queue above its
low watermark (R153, R155, R160). -/
def QueueCongestion (r : UplinkRecord) (c : Cls) : Prop :=
  r.queues[c].marks.low < r.queues[c].marks.high ∧
    (∀ w, r.queues[c].staged = some w → r.queues[c].congested = true ∧ w.low < w.high) ∧
    (r.queues[c].congested = false → r.queues[c].held = 0) ∧
    (r.queues[c].congested = true → r.queues[c].marks.low < r.occupancy c)

def CongestionConsistent (s : State) : Prop := ∀ u : Uplink, ∀ c : Cls, QueueCongestion (s.uplink u) c

/-- A slot is flagged only while it is in a held set, and its refresh timer runs exactly while it is flagged
(R153, R154). -/
def BackpressureConsistent (s : State) : Prop :=
  ∀ i : Slot, ((s.slot i).que.backpressure = true → heldAnywhere s i = true) ∧
    ((s.slot i).que.refresh.isRunning = (s.slot i).que.backpressure)

/-- At most one frame of each kind waits on a control list (R158). -/
def ControlLists (s : State) : Prop := ∀ i : Slot, ((s.slot i).que.control.map (·.kind)).Nodup

/-! ### Tables and the alert set (R9, R142, R163, R168) -/

/-- The alert set in the order of R168, no pair twice, every index in its kind's range (R163, R168). -/
def AlertsOrdered (s : State) : Prop :=
  s.mgmt.alerts.Pairwise (fun a b => a.rank < b.rank) ∧
    ∀ a ∈ s.mgmt.alerts, a.kind.admitsIndex a.index = true

/-- The segment table in ascending order of tag ID, at most 32 entries, IDs from 1 to 4094 (R142). -/
def SegmentsOrdered (s : State) : Prop :=
  s.fwd.segments.Pairwise (fun a b => a.tagId < b.tagId) ∧ s.fwd.segments.length ≤ 32 ∧
    ∀ g ∈ s.fwd.segments, 1 ≤ g.tagId ∧ g.tagId ≤ 4094

/-- The admission table in ascending order of blade type, at most 16 entries (R9). -/
def AdmissionOrdered (s : State) : Prop :=
  s.admissionTable.Pairwise (fun a b => a.bladeType.toNat < b.bladeType.toNat) ∧ s.admissionTable.length ≤ 16

/-! ### Setting values (R3, R35, R83, R99) -/

/-- A setting in 10 ms steps as the rules word it: below 10 ms stored as 10 ms, above `hi` as `hi`, and otherwise rounded
down to a whole step. -/
def settingSteps (hi v : Nat) : Nat := if v < 10 then 10 else if hi < v then hi else v - v % 10

/-- The values of a repeatable field, in the order of the items (R180, R181). -/
def valuesOf (n : Nat) (items : List Item) : List Octets :=
  (items.filter fun it => decide (it.field.toNat = n)).map (·.value)

/-- The code of a flag (R181). -/
def flagValue (b : Bool) : Nat := if b = true then 1 else 0

/-! ### Control frames that are taken (R130 to R133, R177) -/

/-- The length of a received control frame with a body of n octets, CRC included. -/
def envelopeLength (e : Envelope) (n : Nat) : Nat := 14 + (tagOctets e.tag).length + 6 + n + e.padding.length + 4

/-- A control frame with a body of n octets that passes the CRC and length checks, is addressed to the part, has the
control type in force and carries no tag or one of the tag type in force. -/
structure ControlArrives (s : State) (e : Envelope) (n : Nat) : Prop where
  crc : e.crcMatches = true
  least : 64 ≤ envelopeLength e n
  most : envelopeLength e n ≤ s.fwd.maxLength
  addressed : e.destination = s.station ∨ e.destination = Config.groupAddress
  typed : e.frameType = s.fwd.controlType
  outer : match e.tag with
    | none => s.fwd.controlType ≠ s.fwd.tagType ∧ s.fwd.controlType ≠ Config.flowControlType
    | some t => t.tagType = s.fwd.tagType ∧ s.fwd.tagType ≠ Config.flowControlType
  counted : n < 65536

/-- A COMMAND frame that is handed to the Command Processor: a control frame on an uplink whose management flag is
set (R133). -/
def CommandArrives (s : State) (u : Uplink) (e : Envelope) (items : List Item) : Prop :=
  ControlArrives s e (2 + itemsLength items) ∧ (s.uplink u).management = true

/-- The state on which a COMMAND is executed: its reception counted (R130) and the notice destination set (R164). -/
def commandState (s : State) (u : Uplink) (e : Envelope) : State :=
  setDestination e.source u (countReceived (.uplink u) s)

/-- The state after a COMMAND that was answered with `a`: the evaluation where one is due, one NOTICE where an alert was
added, the RESPONSE, the links (R50, R164, R165, R168). -/
def commandDone (s : State) (u : Uplink) (e : Envelope) (code : Word16) (a : Answer) : State :=
  finish { uplink := u, source := e.source, sequence := e.sequence, code := code } (commandState s u e) a

/-! ### What the end of an event keeps (R50, R150, R152, R168) -/

/-- What no evaluation, NOTICE or transmission changes in a slot record: its settings, its lines with their filters, its
inventory but for the statuses of its addresses, and its egress limit. -/
structure SlotKeeps (r t : SlotRecord) : Prop where
  presenceLine : t.adm.presenceLine = r.adm.presenceLine
  filtered : t.adm.filtered = r.adm.filtered
  window : t.adm.window = r.adm.window
  policy : t.adm.policy = r.adm.policy
  priority : t.adm.priority = r.adm.priority
  zone : t.adm.zone = r.adm.zone
  segment : t.adm.segment = r.adm.segment
  cls : t.adm.cls = r.adm.cls
  quanta : t.adm.quanta = r.adm.quanta
  inventory : { t.inv with addresses := [] } = { r.inv with addresses := [] }
  addresses : t.inv.addresses.map (·.address) = r.inv.addresses.map (·.address)
  powerGoodLine : t.rail.powerGoodLine = r.rail.powerGoodLine
  powerGood : t.rail.powerGood = r.rail.powerGood
  powerGoodWindow : t.rail.powerGoodWindow = r.rail.powerGoodWindow
  egressLimit : t.que.egressLimit = r.que.egressLimit

/-- The settings of a zone. -/
def zoneSettings (z : ZoneRecord) : ZoneRecord := { z with temp := 0 }

/-- What no evaluation, NOTICE, RESPONSE or transmission changes in an uplink: its management flag, default segment, link
state and hold, and the limit and the watermarks of each class queue, in force and staged. -/
structure UplinkKeeps (r t : UplinkRecord) : Prop where
  management : t.management = r.management
  segment : t.segment = r.segment
  linkUp : t.linkUp = r.linkUp
  hold : t.hold = r.hold
  limit : ∀ c : Cls, t.queues[c].limit = r.queues[c].limit
  marks : ∀ c : Cls, t.queues[c].marks = r.queues[c].marks
  staged : ∀ c : Cls, t.queues[c].staged = r.queues[c].staged

/-- What no evaluation, NOTICE or transmission changes: the settings, the tables but the station table, supply, sweep,
channels, uplinks but for their frames and congestion, counters and the trap queue. -/
structure EventKeeps (s t : State) : Prop where
  slots : ∀ i, SlotKeeps (s.slot i) (t.slot i)
  timing : t.timing = s.timing
  admissionTable : t.admissionTable = s.admissionTable
  admissionDefault : t.admissionDefault = s.admissionDefault
  bays : t.bays = s.bays
  supply : t.supply = s.supply
  laneCount : t.budget.laneCount = s.budget.laneCount
  allowance : t.budget.allowance = s.budget.allowance
  margin : t.budget.margin = s.budget.margin
  sweep : t.sweep = s.sweep
  channels : t.channels = s.channels
  zones : ∀ z : Zone, zoneSettings t.zones[z] = zoneSettings s.zones[z]
  hysteresis : t.thermal.hysteresis = s.thermal.hysteresis
  fans : ∀ f : Fan, fanFixed t.fans[f] = fanFixed s.fans[f]
  tachGate : t.tachGate = s.tachGate
  fwd : t.fwd = s.fwd
  uplinks : ∀ u : Uplink, UplinkKeeps (s.uplink u) (t.uplink u)
  counters : t.counters = s.counters
  trapQueue : t.trapQueue = s.trapQueue
  destination : t.mgmt.destination = s.mgmt.destination
  pending : t.pending = s.pending

/-! ### Links at work (R150, R152) -/

/-- An uplink without a frame in flight is down, held, or has nothing waiting (R150). -/
def UplinkBusy (r : UplinkRecord) : Prop :=
  r.flight = none → r.linkUp = true → r.hold = .stopped → ∀ c : Cls, r.queues[c].entries = []

/-- A slot link without a frame in flight has nothing waiting (R152). -/
def SlotLinkBusy (q : QueuePart) : Prop := q.flight = none → q.pendingPause = none ∧ q.control = [] ∧ q.egress = []

/-- No link idles while it may send (R150, R152). -/
def LinksBusy (s : State) : Prop :=
  (∀ u : Uplink, UplinkBusy (s.uplink u)) ∧ ∀ i : Slot, SlotLinkBusy (s.slot i).que

end Sys2Proof.Machine
end

