-- ==== Sys2Proof/Certificates/Slice0/Obligations.lean ====
section
/-! DEFINITION. The statements for the provers. An event's own changes are named `m`, written against the state before
them; `close` and `commandDone` are the end that every event has: the evaluation where one is due, one NOTICE where an
alert was added, a command's RESPONSE, and the transmissions that begin. What that end keeps is a statement of its own. -/

section

open Sys2Proof Sys2Proof.Machine

/-! ### The step and reset -/

/-- A command waits in the queue until it is at the front; then it runs on the state with the queue's rest (log 4). -/
def Obligations.StepRunsTheFrontCommand : Prop :=
  ∀ (c : Instr) (rest : List Instr) (s : State), s.pending = c :: rest → step s = exec c { s with pending := rest }

/-- With nothing waiting the block idles: the model's choice of log 4. -/
def Obligations.EmptyQueueIdles : Prop := ∀ s : State, s.pending = [] → step s = .next s

/-- The values that the reset columns give. The levels of the input lines, the sensed links and the straps are the
model's choice (logs 1 and 2) and are not stated here. -/
def Obligations.ResetLeavesTheSpecValues : Prop :=
  (∀ i : Slot,
    (State.reset.slot i).adm.state = .empty ∧ (State.reset.slot i).adm.filtered = false ∧
    (State.reset.slot i).adm.window = .stopped ∧ (State.reset.slot i).adm.announceWindow = .stopped ∧
    (State.reset.slot i).adm.policy = .auto ∧ (State.reset.slot i).adm.priority = 2 ∧
    (State.reset.slot i).adm.zone.val = i.val / 4 ∧ (State.reset.slot i).adm.segment = none ∧
    (State.reset.slot i).adm.cls = 3 ∧ (State.reset.slot i).adm.quanta = 4096 ∧
    (State.reset.slot i).inv = InventoryRecord.mk false false none none none false [] false 0 .none ∧
    (State.reset.slot i).bud = BudgetPart.mk 0 0 0 false 0 .stopped ∧
    (State.reset.slot i).rail.standbyRail = false ∧ (State.reset.slot i).rail.mainRail = false ∧
    (State.reset.slot i).rail.resetAsserted = true ∧ (State.reset.slot i).rail.stage = .none ∧
    (State.reset.slot i).rail.powerGood = false ∧ (State.reset.slot i).rail.powerGoodWindow = .stopped ∧
    (State.reset.slot i).rail.powerGoodTimer = .stopped ∧ (State.reset.slot i).rail.resetHold = .stopped ∧
    (State.reset.slot i).rail.shutdown = .stopped ∧ (State.reset.slot i).rail.reason = none ∧
    (State.reset.slot i).tel = TelemetryPart.mk (Vector.replicate 8 none) false .stopped ∧
    (State.reset.slot i).que = QueuePart.mk [] 32 [] none false .stopped none none) ∧
  State.reset.timing = Timing.mk 100 30 100 5 100 500 200 120 10 ∧ State.reset.admissionTable = [] ∧
  State.reset.admissionDefault = AdmissionRule.mk .allow 0 none ∧ State.reset.stations = [] ∧
  (∀ b : Bay, State.reset.bays[b].present = false ∧ State.reset.bays[b].good = false ∧
    State.reset.bays[b].presentWindow = .stopped ∧ State.reset.bays[b].goodWindow = .stopped ∧
    State.reset.bays[b].rating = 1000) ∧
  State.reset.supply = Supply.mk .n1 60000 0 0 false ∧ State.reset.budget = Budget.mk [] 1 0 20 100 ∧
  State.reset.sweep = Sweep.mk .idle (SweepSettings.mk .repeating 0xFF#8 .period 1000) none (.running 1000) 0 ∧
  (∀ c : Channel, State.reset.channels[c].result = none ∧
    (c.val < 4 → State.reset.channels[c].high = 127 ∧ State.reset.channels[c].low = -128 ∧
      State.reset.channels[c].zone.map Fin.val = some c.val) ∧
    (4 ≤ c.val → State.reset.channels[c].high = 255 ∧ State.reset.channels[c].low = 0 ∧
      State.reset.channels[c].zone = none)) ∧
  (∀ z : Zone, State.reset.zones[z] = ZoneRecord.mk 80 35 20 70 80) ∧ State.reset.thermal = Thermal.mk true 5 ∧
  (∀ f : Fan, State.reset.fans[f] =
    FanRecord.mk .full 0 0xF#4 0 .min 76 true 9 true 20 600 2 (Curve.mk 0 3 9 20 36) 255 255 .stopped .stopped 0
      none 36) ∧
  State.reset.fanReservation = 216 ∧ State.reset.tachGate = .running 500 ∧ State.reset.fwd.segments = [] ∧
  State.reset.fwd.classMap = #v[3, 3, 2, 2, 1, 1, 0, 0] ∧ State.reset.fwd.maxLength = 1522 ∧
  State.reset.fwd.tagType = 0x8100#16 ∧ State.reset.fwd.controlType = 0x88B6#16 ∧
  (∀ p : Port, State.reset.counters[portIndex p] = PortCounters.reset) ∧
  State.reset.uplinkA.management = true ∧ State.reset.uplinkB.management = false ∧
  (∀ u : Uplink, (State.reset.uplink u).segment = none ∧ (State.reset.uplink u).hold = .stopped ∧
    (State.reset.uplink u).flight = none) ∧
  (∀ (u : Uplink) (c : Cls),
    (State.reset.uplink u).queues[c] = ClassQueue.mk [] 128 (Watermarks.mk 64 32) none false 0) ∧
  State.reset.freeCells = 512 ∧ State.reset.trapQueue = [] ∧ State.reset.mgmt.destination = none ∧
  State.reset.mgmt.notice = 0 ∧ State.reset.mgmt.alerts = [Alert.mk .override 0]

/-- Every invariant that the statements below speak of holds after reset. -/
def Obligations.ResetMeetsTheInvariants : Prop :=
  PoolBalance State.reset ∧ PowerConsistent State.reset ∧ QueueOrdered State.reset ∧ BudgetSafe State.reset ∧
    StationsConsistent State.reset ∧ ZonesCurrent State.reset ∧ OverrideConsistent State.reset ∧
    TargetsCurrent State.reset ∧ PowersCurrent State.reset ∧ FansHeld State.reset ∧ PeriodArmed State.reset.sweep ∧
    CongestionConsistent State.reset ∧ BackpressureConsistent State.reset ∧ ControlLists State.reset ∧
    AlertsOrdered State.reset ∧ SegmentsOrdered State.reset ∧ AdmissionOrdered State.reset ∧ LinksBusy State.reset ∧
    LanesBounded State.reset ∧ StationOwners State.reset

/-- CHASSIS_RESET: every slot loses its rails and is held in reset, and every item takes its reset value. The lines'
levels, the sensed links and the waiting commands stay (log 1); a high line's filter window starts at once. -/
def Obligations.ChassisResetReturnsEveryItem : Prop :=
  ∀ (straps : Byte) (s : State), ∃ t : State, exec (.chassisReset straps) s = .next t ∧
    (∀ i : Slot, (t.slot i).rail.standbyRail = false ∧ (t.slot i).rail.mainRail = false ∧
      (t.slot i).rail.resetAsserted = true ∧
      t.slot i =
        { State.reset.slot i with
          adm := { (State.reset.slot i).adm with
            presenceLine := (s.slot i).adm.presenceLine
            window := if (s.slot i).adm.presenceLine = true then .running 100 else .stopped }
          rail := { (State.reset.slot i).rail with
            powerGoodLine := (s.slot i).rail.powerGoodLine
            powerGoodWindow := if (s.slot i).rail.powerGoodLine = true then .running 100 else .stopped } }) ∧
    (∀ b : Bay, t.bays[b] =
      { State.reset.bays[b] with
        presentLine := s.bays[b].presentLine
        goodLine := s.bays[b].goodLine
        presentWindow := if s.bays[b].presentLine = true then .running 100 else .stopped
        goodWindow := if s.bays[b].goodLine = true then .running 100 else .stopped }) ∧
    t = { State.reset with
      slots := t.slots, bays := t.bays
      fwd := { State.reset.fwd with straps := straps }
      uplinkA := { State.reset.uplinkA with linkUp := s.uplinkA.linkUp }
      uplinkB := { State.reset.uplinkB with linkUp := s.uplinkB.linkUp }
      pending := s.pending }

/-! ### Lines and their filters -/

/-- A line that moves starts its filter window with the full length in force, or cancels it on the return to the
filtered level; nothing else changes. A line set to the level it has is no move (log 19). -/
def Obligations.LineMovesRunTheFilters : Prop :=
  ∀ (s : State) (level : Bool),
    (∀ i : Slot, exec (.presenceLineChange i level) s =
      .next (if level = (s.slot i).adm.presenceLine then s
        else s.modAdm i fun a => { a with
          presenceLine := level
          window := if level = a.filtered then .stopped else .running s.timing.presenceFilter })) ∧
    (∀ i : Slot, exec (.powerGoodLineChange i level) s =
      .next (if level = (s.slot i).rail.powerGoodLine then s
        else s.modRail i fun r => { r with
          powerGoodLine := level
          powerGoodWindow := if level = r.powerGood then .stopped else .running s.timing.powerGoodFilter })) ∧
    (∀ b : Bay, exec (.bayLineChange b .present level) s =
      .next (if level = s.bays[b].presentLine then s
        else s.modBay b fun r => { r with
          presentLine := level
          presentWindow := if level = r.present then .stopped else .running s.timing.bayFilter })) ∧
    (∀ b : Bay, exec (.bayLineChange b .outputGood level) s =
      .next (if level = s.bays[b].goodLine then s
        else s.modBay b fun r => { r with
          goodLine := level
          goodWindow := if level = r.good then .stopped else .running s.timing.bayFilter }))

/-- A filtered presence rise in EMPTY: STANDBY_WAIT, a standby request at the tail of the standby requests, the present
flag set, the insertion counted, INSERT raised, and a CHANGE trigger; then an evaluation. -/
def Obligations.PresenceRiseInserts : Prop :=
  ∀ (i : Slot) (s : State), (s.slot i).adm.window.isRunning = true → (s.slot i).adm.presenceLine = true →
    (s.slot i).adm.filtered = false → (s.slot i).adm.state = .empty →
    ∃ m : State, exec (.presenceFilterExpiry i) s = .next (close s (changeTrigger m) true) ∧
      m.slot i =
        { s.slot i with
          adm := { (s.slot i).adm with state := .standbyWait, filtered := true, window := .stopped }
          inv := { (s.slot i).inv with
            present := true, announced := false, insertions := min ((s.slot i).inv.insertions + 1) 65535 } } ∧
      (∀ j : Slot, j ≠ i → m.slot j = s.slot j) ∧
      m.budget.queue =
        insertStandby { slot := i, kind := .standby, short := false }
          (s.budget.queue.filter fun e => decide (e.slot ≠ i)) ∧
      (∀ b : Alert, b ∈ m.mgmt.alerts ↔ b = { kind := .insert, index := i.val + 1 } ∨ b ∈ s.mgmt.alerts) ∧
      m = { s with
        slots := m.slots, budget := { s.budget with queue := m.budget.queue }
        mgmt := { s.mgmt with alerts := m.mgmt.alerts } }

/-- A filtered presence fall outside EMPTY: the teardown of R16 in every block, REMOVE raised, and a CHANGE trigger;
then one evaluation. That the fans are settled before the override is evaluated is the model's choice (log 13). -/
def Obligations.PresenceFallRemoves : Prop :=
  ∀ (i : Slot) (s : State), (s.slot i).adm.window.isRunning = true → (s.slot i).adm.presenceLine = false →
    (s.slot i).adm.filtered = true → (s.slot i).adm.state ≠ .empty →
    ∃ m : State, exec (.presenceFilterExpiry i) s = .next (close s (changeTrigger m) true) ∧
      m.slot i =
        { adm := { (s.slot i).adm with
            state := .empty, filtered := false, window := .stopped, announceWindow := .stopped }
          inv := { (s.slot i).inv with
            present := false, addresses := (s.slot i).inv.addresses.map fun a =>
              { a with status := if a.status = .entered then .released else a.status } }
          bud := { (s.slot i).bud with
            standbyW := 0, mainW := 0, grantW := 0, capped := false, capAck := .stopped }
          rail := { (s.slot i).rail with
            standbyRail := false, mainRail := false, resetAsserted := true, stage := .none,
            powerGoodTimer := .stopped, resetHold := .stopped, shutdown := .stopped, reason := none }
          tel := { readings := Vector.replicate 8 none, stale := false, staleTimer := .stopped }
          que := { (s.slot i).que with
            egress := [], control := [], backpressure := false, refresh := .stopped, pendingPause := none,
            marker := none } } ∧
      (∀ j : Slot, j ≠ i → m.slot j = s.slot j) ∧
      m.stations = s.stations.filter (fun e => decide (e.owner ≠ i)) ∧
      m.budget.queue = s.budget.queue.filter (fun e => decide (e.slot ≠ i)) ∧
      m.budget.lanesInUse =
        (if s.slotState i = .powering then s.budget.lanesInUse - 1 else s.budget.lanesInUse) ∧
      m.freeCells = s.freeCells + frameCells (s.slot i).que.egress ∧
      ZonesRecomputed s m (fun z => z = (s.slot i).adm.zone) ∧ ThermalHandedOn s m ∧
      AlertsGain s m (fun a => a = { kind := .remove, index := i.val + 1 }) ∧
      m = { s with
        slots := m.slots, stations := m.stations
        budget := { s.budget with queue := m.budget.queue, lanesInUse := m.budget.lanesInUse }
        zones := m.zones, thermal := { s.thermal with overrideOn := m.thermal.overrideOn }, fans := m.fans
        fanReservation := m.fanReservation, freeCells := m.freeCells
        mgmt := { s.mgmt with alerts := m.mgmt.alerts } }

/-- A filtered bay line change: the filtered level taken, the raw figure and the capacity recomputed and stored,
SUPPLY_CHANGE raised where the capacity moves, and a CHANGE trigger. A capacity that moved starts the evaluation. -/
def Obligations.BayExpiryRecomputesCapacity : Prop :=
  ∀ (b : Bay) (line : BayLine) (s : State), (s.bays[b].window line).isRunning = true →
    s.bays[b].line line ≠ s.bays[b].level line →
    ∃ m : State, exec (.bayLineFilterExpiry b line) s = .next (close s (changeTrigger m) false) ∧
      m.bays[b] =
        (match line with
          | .present => { s.bays[b] with present := s.bays[b].presentLine, presentWindow := .stopped }
          | .outputGood => { s.bays[b] with good := s.bays[b].goodLine, goodWindow := .stopped }) ∧
      (∀ d : Bay, d ≠ b → m.bays[d] = s.bays[d]) ∧
      m.supply = { s.supply with
        raw := rawFigure s.supply.policy m.bays
        capacity := min (rawFigure s.supply.policy m.bays) s.supply.ceiling } ∧
      (∀ a : Alert, a ∈ m.mgmt.alerts ↔
        (a = { kind := .supplyChange, index := 0 } ∧ m.supply.capacity ≠ s.supply.capacity) ∨ a ∈ s.mgmt.alerts) ∧
      m = { s with bays := m.bays, supply := m.supply, mgmt := { s.mgmt with alerts := m.mgmt.alerts } }

/-- The bay statuses and which bays contribute (R36), the sums over the contributing bays of each grid and the largest
rating among them (R37, R38), the raw figure by policy (R38), and its bound. -/
def Obligations.SupplyFiguresFollowTheBays : Prop :=
  (∀ b : BayRecord, b.status =
      (if b.present = true then (if b.good = true then .delivering else .failed)
        else (if b.good = true then .unseated else .vacant)) ∧
    (b.contributes = true ↔ b.status = .delivering)) ∧
  ∀ (bays : Vector BayRecord 6) (w : Bay → Nat),
    (∀ b : Bay, w b = if bays[b].contributes = true then bays[b].rating else 0) →
    gridSum bays true = w 0 + w 1 + w 2 ∧ gridSum bays false = w 3 + w 4 + w 5 ∧
    totalSum bays = w 0 + w 1 + w 2 + w 3 + w 4 + w 5 ∧
    (∀ b : Bay, w b ≤ largestRating bays) ∧
    ((∃ b : Bay, bays[b].contributes = true) →
      ∃ b : Bay, bays[b].contributes = true ∧ bays[b].rating = largestRating bays) ∧
    ((∀ b : Bay, bays[b].contributes = false) → largestRating bays = 0) ∧
    rawFigure .none bays = totalSum bays ∧ rawFigure .n1 bays = totalSum bays - largestRating bays ∧
    rawFigure .grid bays = min (gridSum bays true) (gridSum bays false) ∧
    ((∀ b : Bay, bays[b].contributes = false) → ∀ p : Redundancy, rawFigure p bays = 0) ∧
    ((∀ b : Bay, bays[b].rating ≤ 4000) → ∀ p : Redundancy, rawFigure p bays ≤ 24000)

/-- A filtered power-good change: a rise in RAIL_UP starts the reset hold and no evaluation; a fall under main power
is a main-off to FAULT with the alert and an evaluation; any other change is only stored. Main power is RESET_HOLD,
ONLINE, CAPPED and SHUTTING_DOWN (R77, R81). -/
def Obligations.PowerGoodExpiryBySlotState : Prop :=
  (∀ r : SlotRecord, losesPower r = true ↔
    (r.adm.state = .powering ∧ r.rail.stage = .resetHold) ∨ r.adm.state ∈ [.online, .capped, .shuttingDown]) ∧
  ∀ (i : Slot) (s : State), (s.slot i).rail.powerGoodWindow.isRunning = true →
    (s.slot i).rail.powerGoodLine ≠ (s.slot i).rail.powerGood →
    ((s.slot i).rail.powerGoodLine = true → (s.slot i).adm.state = .powering → (s.slot i).rail.stage = .railUp →
      exec (.powerGoodFilterExpiry i) s = .next (close s (s.modRail i fun r => { r with
        powerGood := true, powerGoodWindow := .stopped, powerGoodTimer := .stopped, stage := .resetHold
        resetHold := .running s.timing.resetHold }) false)) ∧
    ((s.slot i).rail.powerGoodLine = true →
      ¬((s.slot i).adm.state = .powering ∧ (s.slot i).rail.stage = .railUp) →
      exec (.powerGoodFilterExpiry i) s =
        .next (close s (s.modRail i fun r => { r with powerGood := true, powerGoodWindow := .stopped }) false)) ∧
    ((s.slot i).rail.powerGoodLine = false → losesPower (s.slot i) = true →
      exec (.powerGoodFilterExpiry i) s = .next (close s (raiseSlot .fault i (mainOff i .fault
        (s.modRail i fun r => { r with powerGood := false, powerGoodWindow := .stopped }))) true)) ∧
    ((s.slot i).rail.powerGoodLine = false → losesPower (s.slot i) = false →
      exec (.powerGoodFilterExpiry i) s =
        .next (close s (s.modRail i fun r => { r with powerGood := false, powerGoodWindow := .stopped }) false))

/-- The main-off of R76, whatever causes it: rails, reset, sub-stage, timers and reason; the main release; the lane;
the waiting CAP, UNCAP and SHUTDOWN_REQ discarded and an ADMIT_RESULT kept; the state its cause names. With what a
change of state does to the grant queue (R14). That the fans are settled before the override is evaluated is the
model's choice (log 13). -/
def Obligations.MainOffEndsMainPower : Prop :=
  (∀ (i : Slot) (st : SlotState) (s : State) (left : List Request),
    left = s.budget.queue.filter (fun q => decide (q.slot ≠ i)) →
    moveTo i st s = { s.modAdm i fun a => { a with state := st } with
      budget := { s.budget with
        queue :=
          if st = .standbyWait then insertStandby { slot := i, kind := .standby, short := false } left
          else if st = .powerWait then insertMain s.priorityOf { slot := i, kind := .main, short := false } left
          else left } }) ∧
  ∀ (i : Slot) (st : SlotState) (s : State),
    (mainOff i st s).slot i =
      { s.slot i with
        adm := { (s.slot i).adm with state := st }
        rail := { (s.slot i).rail with
          mainRail := false, resetAsserted := true, stage := .none, powerGoodTimer := .stopped,
          resetHold := .stopped, shutdown := .stopped, reason := none }
        bud := { (s.slot i).bud with mainW := 0, grantW := 0, capped := false, capAck := .stopped }
        que := { (s.slot i).que with
          control := (s.slot i).que.control.filter fun f => f.kind == .admitResult, marker := none } } ∧
    (∀ j : Slot, j ≠ i → (mainOff i st s).slot j = s.slot j) ∧
    (mainOff i st s).budget =
      { s.budget with
        queue := (moveTo i st s).budget.queue
        lanesInUse := if s.slotState i = .powering then s.budget.lanesInUse - 1 else s.budget.lanesInUse } ∧
    ZonesRecomputed s (mainOff i st s) (fun z => z = (s.slot i).adm.zone) ∧
    ThermalHandedOn s (mainOff i st s) ∧ AlertsGain s (mainOff i st s) (fun _ => False) ∧
    mainOff i st s =
      { s with
        slots := (mainOff i st s).slots, budget := (mainOff i st s).budget, zones := (mainOff i st s).zones
        thermal := { s.thermal with overrideOn := (mainOff i st s).thermal.overrideOn }
        fans := (mainOff i st s).fans, fanReservation := (mainOff i st s).fanReservation
        mgmt := { s.mgmt with alerts := (mainOff i st s).mgmt.alerts } }

/-! ### Slot timers -/

/-- The announce window's expiry in ANNOUNCE_WAIT: UNIDENTIFIED with ATTENTION; rails and commitment stay. -/
def Obligations.AnnounceWindowExpiryUnidentifies : Prop :=
  ∀ (i : Slot) (s : State), (s.slot i).adm.announceWindow.isRunning = true → s.slotState i = .announceWait →
    ∃ m : State, exec (.announceWindowExpiry i) s = .next (close s m false) ∧
      m.slot i =
        { s.slot i with adm := { (s.slot i).adm with state := .unidentified, announceWindow := .stopped } } ∧
      (∀ j : Slot, j ≠ i → m.slot j = s.slot j) ∧
      m.budget = { s.budget with queue := s.budget.queue.filter fun e => decide (e.slot ≠ i) } ∧
      (∀ b : Alert, b ∈ m.mgmt.alerts ↔ b = { kind := .attention, index := i.val + 1 } ∨ b ∈ s.mgmt.alerts) ∧
      m = { s with slots := m.slots, budget := m.budget, mgmt := { s.mgmt with alerts := m.mgmt.alerts } }

/-- The timers that end main power: the cap-ack timer to POWER_WAIT with CAP_TIMEOUT, the power-good timer to FAULT
with FAULT, the shutdown timer to STANDBY with SHUTDOWN_TIMEOUT, each with an evaluation. -/
def Obligations.PowerTimersMakeTheirMainOff : Prop :=
  ∀ (i : Slot) (s : State),
    ((s.slot i).bud.capAck.isRunning = true →
      (s.slotState i = .capped ∨ (s.slotState i = .shuttingDown ∧ (s.slot i).bud.capped = true)) →
      exec (.capAckTimerExpiry i) s = .next (close s (raiseSlot .capTimeout i (mainOff i .powerWait s)) true)) ∧
    ((s.slot i).rail.powerGoodTimer.isRunning = true → s.slotState i = .powering →
      (s.slot i).rail.stage = .railUp →
      exec (.powerGoodTimerExpiry i) s = .next (close s (raiseSlot .fault i (mainOff i .fault s)) true)) ∧
    ((s.slot i).rail.shutdown.isRunning = true → s.slotState i = .shuttingDown →
      exec (.shutdownTimerExpiry i) s =
        .next (close s (raiseSlot .shutdownTimeout i (mainOff i .standby s)) true))

/-- R79: the reset-hold timer's expiry in RESET_HOLD. The commitment stays, and from then on the slot is a cap candidate
by its floor (R58) and its power-good level is supervised (R81). -/
def Obligations.ResetHoldExpiryGoesOnline : Prop :=
  ∀ (i : Slot) (s : State), (s.slot i).rail.resetHold.isRunning = true → s.slotState i = .powering →
    (s.slot i).rail.stage = .resetHold →
    ∃ m : State, exec (.resetHoldExpiry i) s = .next (close s m true) ∧
      m.slot i =
        { s.slot i with
          adm := { (s.slot i).adm with state := .online }
          rail := { (s.slot i).rail with resetAsserted := false, stage := .none, resetHold := .stopped } } ∧
      (∀ j : Slot, j ≠ i → m.slot j = s.slot j) ∧ commitment (m.slot i) = commitment (s.slot i) ∧
      (capCandidate (m.slot i) = true ↔ effectiveFloor (s.slot i) < (s.slot i).bud.mainW) ∧
      losesPower (m.slot i) = true ∧
      m = { s with
        slots := m.slots
        budget := { s.budget with
          queue := s.budget.queue.filter fun e => decide (e.slot ≠ i), lanesInUse := s.budget.lanesInUse - 1 } }

/-- R93: the stale timer's expiry sets the flag and recomputes the zone, the readings kept; a slot whose flag is set
contributes its zone's substitute while its main rail is on, whatever its readings. An accepted TELEMETRY that clears
the flag is stated with TELEMETRY. With the contribution of a slot and of a channel (R103), and T(z) as the largest
contribution, or the substitute where there is none (R104). That the fans are settled before the override is evaluated
is the model's choice (log 13). -/
def Obligations.StaleExpirySubstitutes : Prop :=
  (∀ (i : Slot) (s : State), (s.slot i).tel.staleTimer.isRunning = true →
    ∃ m : State, exec (.staleTimerExpiry i) s = .next (close s m false) ∧
      m.slot i =
        { s.slot i with
          tel := { readings := (s.slot i).tel.readings, stale := true, staleTimer := .stopped } } ∧
      (∀ j : Slot, j ≠ i → m.slot j = s.slot j) ∧
      ZonesRecomputed s m (fun z => z = (s.slot i).adm.zone) ∧ ThermalHandedOn s m ∧
      AlertsGain s m (fun _ => False) ∧
      m = { s with
        slots := m.slots, zones := m.zones, thermal := { s.thermal with overrideOn := m.thermal.overrideOn }
        fans := m.fans, fanReservation := m.fanReservation, mgmt := { s.mgmt with alerts := m.mgmt.alerts } }) ∧
  (∀ (r : SlotRecord) (substitute : Int),
    (r.rail.mainRail = false → slotContribution r substitute = none) ∧
    (r.rail.mainRail = true → (r.tel.stale = true ∨ ∀ k : Channel, r.tel.readings[k] = none) →
      slotContribution r substitute = some substitute) ∧
    (r.rail.mainRail = true → r.tel.stale = false → (∃ k : Channel, r.tel.readings[k] ≠ none) →
      ∀ t : Int, slotContribution r substitute = some t ↔
        (∃ k : Channel, r.tel.readings[k] = some t) ∧ ∀ (k : Channel) (v : Int), r.tel.readings[k] = some v → v ≤ t)) ∧
  ∀ (s : State) (z : Zone),
    (∀ t : Int, t ∈ contributions s z ↔
      (∃ i : Slot, (s.slot i).adm.zone = z ∧ slotContribution (s.slot i) s.zones[z].substitute = some t) ∨
        ∃ c : Channel, s.channels[c].zone = some z ∧ s.channels[c].result = some t) ∧
    (contributions s z ≠ [] →
      zoneTemp s z ∈ contributions s z ∧ ∀ t ∈ contributions s z, t ≤ zoneTemp s z) ∧
    (contributions s z = [] → zoneTemp s z = s.zones[z].substitute)

/-- The refresh expiry while the slot is flagged: a pause with the quanta in force becomes pending and the timer starts
again with half the pause time, at least 1 ms (R154). -/
def Obligations.RefreshExpiryPausesAgain : Prop :=
  (∀ (i : Slot) (s : State), (s.slot i).que.refresh.isRunning = true → (s.slot i).que.backpressure = true →
    exec (.pauseRefreshExpiry i) s = .next (close s (s.modQue i fun q => { q with
      pendingPause := some (s.slot i).adm.quanta
      refresh := .running (max 1 ((s.slot i).adm.quanta * 256 / 1000000)) }) false)) ∧
  (∀ q : Nat, refreshLength q = max 1 (q * 256 / 1000000)) ∧ refreshLength 4096 = 1 ∧ refreshLength 65535 = 16 ∧
  ∀ q, q < 3907 → refreshLength q = 1

/-! ### The sweep engine -/

/-- The period timer's expiry under PERIOD: a trigger, which starts a sweep in IDLE (with staged settings made current
and the timer armed, log 14) and is counted as missed in a sweep; then REPEAT starts the timer again and SINGLE does not.
A filtered line change is such a trigger under CHANGE alone. The end of STARTING: the lowest enabled channel, or IDLE
under an empty mask. -/
def Obligations.SweepTimersDriveTheEngine : Prop :=
  (∀ s : State,
    (s.sweep.periodTimer.isRunning = true → s.sweep.current.select = .period →
      (s.sweep.engine = .idle → s.sweep.staged = none →
        exec .periodTimerExpiry s = .next { s with sweep := { s.sweep with
          engine := .starting
          periodTimer :=
            if s.sweep.current.mode = .repeating then .running s.sweep.current.period else .stopped } }) ∧
      (∀ w : SweepSettings, s.sweep.engine = .idle → s.sweep.staged = some w →
        exec .periodTimerExpiry s = .next { s with sweep := { s.sweep with
          engine := .starting, current := w, staged := none
          periodTimer := if w.select = .period then .running w.period else .stopped } }) ∧
      (s.sweep.engine ≠ .idle →
        exec .periodTimerExpiry s = .next { s with sweep := { s.sweep with
          missed := s.sweep.missed + 1
          periodTimer :=
            if s.sweep.current.mode = .repeating then .running s.sweep.current.period else .stopped } })) ∧
    (s.sweep.engine = .starting →
      ∃ g : Engine, exec .startDelayEnd s = .next { s with sweep := { s.sweep with engine := g } } ∧
        (∀ c : Channel, g = .converting c ↔ s.sweep.current.mask.getLsbD c.val = true ∧
          ∀ d : Channel, d < c → s.sweep.current.mask.getLsbD d.val = false) ∧
        (g = .idle ↔ s.sweep.current.mask = 0))) ∧
  ∀ s : State,
    (s.sweep.current.select ≠ .change → changeTrigger s = s) ∧
    (s.sweep.current.select = .change →
      (s.sweep.engine = .idle → s.sweep.staged = none →
        changeTrigger s = { s with sweep := { s.sweep with engine := .starting } }) ∧
      (∀ w : SweepSettings, s.sweep.engine = .idle → s.sweep.staged = some w →
        changeTrigger s = { s with sweep := { s.sweep with
          engine := .starting, current := w, staged := none
          periodTimer := if w.select = .period then .running w.period else .stopped } }) ∧
      (s.sweep.engine ≠ .idle →
        changeTrigger s = { s with sweep := { s.sweep with missed := s.sweep.missed + 1 } }))

/-- A conversion's completion: the result stored and checked against its limits, a channel 4 result judged for brownout,
the mapped zone recomputed, the engine at the next enabled channel or in IDLE; an evaluation where a brownout ends. A
temperature code of -128 stores no result (log 12). That the fans are settled before the override is evaluated is the
model's choice (log 13). -/
def Obligations.ConversionStoresChecksAndGoesOn : Prop :=
  ∀ (c : Channel) (code : Byte) (s : State), s.sweep.engine = .converting c →
    ∃ m : State,
      exec (.conversionComplete code) s = .next (close s m (s.supply.brownout && !m.supply.brownout)) ∧
      (∀ v : Int, ¬(c.val < 4 ∧ code = 0x80#8) → v = (if c.val < 4 then code.toInt else (code.toNat : Int)) →
        m.channels[c] = { s.channels[c] with result := some v } ∧
        m.supply.brownout =
          (if c = 4 then
            decide (v ≤ s.channels[c].low) || (s.supply.brownout && decide (v ≤ s.channels[c].low + 4))
          else s.supply.brownout) ∧
        AlertsGain s m (fun a =>
          (a = { kind := .localLimit, index := c.val } ∧ (s.channels[c].high < v ∨ v ≤ s.channels[c].low)) ∨
          (a = { kind := .brownout, index := 0 } ∧ c = 4 ∧ v ≤ s.channels[c].low))) ∧
      (c.val < 4 → code = 0x80#8 →
        m.channels = s.channels ∧ m.supply = s.supply ∧ AlertsGain s m (fun _ => False)) ∧
      (∀ d : Channel, d ≠ c → m.channels[d] = s.channels[d]) ∧
      ZonesRecomputed s m (fun z => s.channels[c].zone = some z) ∧ ThermalHandedOn s m ∧
      (∀ d : Channel, m.sweep.engine = .converting d ↔ c < d ∧ s.sweep.current.mask.getLsbD d.val = true ∧
        ∀ k : Channel, c < k → k < d → s.sweep.current.mask.getLsbD k.val = false) ∧
      (m.sweep.engine = .idle ↔ ∀ k : Channel, c < k → s.sweep.current.mask.getLsbD k.val = false) ∧
      m = { s with
        channels := m.channels, supply := { s.supply with brownout := m.supply.brownout }
        sweep := { s.sweep with engine := m.sweep.engine }, zones := m.zones
        thermal := { s.thermal with overrideOn := m.thermal.overrideOn }, fans := m.fans
        fanReservation := m.fanReservation, mgmt := { s.mgmt with alerts := m.mgmt.alerts } }

/-! ### Fans -/

/-- A ramp expiry moves the actual duty one step and starts the timer again away from the target; a spin-up expiry
gives the target at once and stops both timers. The fan's power and F follow. With the power P_f of a fan (R125). -/
def Obligations.FanTimersMoveTheDuty : Prop :=
  (∀ (overrideOn : Bool) (r : FanRecord),
    (r.mode = .off → fanPower overrideOn r = 0) ∧
    (r.mode ≠ .off → (r.spin.isRunning = true ∨ overrideOn = true) → fanPower overrideOn r = curveAt r.curve 255) ∧
    (r.mode ≠ .off → r.spin.isRunning = false → overrideOn = false →
      fanPower overrideOn r = curveAt r.curve (max r.target r.actual))) ∧
  ∀ (f : Fan) (s : State),
    (s.fans[f].ramp.isRunning = true → ∃ (m : State) (d : Nat),
      exec (.rampExpiry f) s = .next (close s m false) ∧
      d = (if s.fans[f].actual < s.fans[f].target then s.fans[f].actual + 1
        else if s.fans[f].actual = s.fans[f].target then s.fans[f].actual
        else if s.fans[f].target = 0 ∧ s.fans[f].actual ≤ s.fans[f].minDuty then 0
        else s.fans[f].actual - 1) ∧
      m.fans[f] =
        { s.fans[f] with
          actual := d
          ramp := if d = s.fans[f].target then .stopped else .running ((s.fans[f].rampN + 1) * 10)
          power := fanPower s.thermal.overrideOn { s.fans[f] with actual := d } } ∧
      (∀ g : Fan, g ≠ f → m.fans[g] = s.fans[g]) ∧
      m = { s with fans := m.fans, fanReservation := (allFans.map fun g => m.fans[g].power).sum }) ∧
    (s.fans[f].spin.isRunning = true → ∃ m : State,
      exec (.spinUpExpiry f) s = .next (close s m false) ∧
      m.fans[f] =
        { s.fans[f] with
          actual := s.fans[f].target, spin := .stopped, ramp := .stopped
          power :=
            if s.fans[f].mode = .off then 0
            else if s.thermal.overrideOn = true then curveAt s.fans[f].curve 255
            else curveAt s.fans[f].curve s.fans[f].target } ∧
      (∀ g : Fan, g ≠ f → m.fans[g] = s.fans[g]) ∧
      m = { s with fans := m.fans, fanReservation := (allFans.map fun g => m.fans[g].power).sum })

/-- A tach pulse counts up to 1023. At the gate's expiry every fan gets its speed, a count of 0 and the early end of a
spin-up, STALL is raised for the fans found stalled, F follows, and the gate starts again. -/
def Obligations.TachGateMeasuresEveryFan : Prop :=
  (∀ (f : Fan) (s : State), ∃ t : State, exec (.tachPulse f) s = .next t ∧
    t.fans[f] = { s.fans[f] with pulses := if s.fans[f].pulses < 1023 then s.fans[f].pulses + 1 else 1023 } ∧
    (∀ g : Fan, g ≠ f → t.fans[g] = s.fans[g]) ∧ t = { s with fans := t.fans }) ∧
  ∀ s : State, s.tachGate.isRunning = true →
    ∃ m : State, exec .tachGateExpiry s = .next (close s m false) ∧ m.tachGate = .running 500 ∧
      (∀ (f : Fan) (v : Nat), v = s.fans[f].pulses * 120 / s.fans[f].pulsesPerRev →
        (s.fans[f].spin.isRunning = true ∧ 0 < s.fans[f].minSpeed ∧ s.fans[f].minSpeed ≤ v →
          m.fans[f] =
            { s.fans[f] with
              speed := some v, pulses := 0, actual := s.fans[f].target, spin := .stopped, ramp := .stopped
              power := m.fans[f].power }) ∧
        (¬(s.fans[f].spin.isRunning = true ∧ 0 < s.fans[f].minSpeed ∧ s.fans[f].minSpeed ≤ v) →
          m.fans[f] = { s.fans[f] with speed := some v, pulses := 0, power := m.fans[f].power }) ∧
        ({ kind := .stall, index := f.val + 1 } ∈ m.mgmt.alerts ↔
          { kind := .stall, index := f.val + 1 } ∈ s.mgmt.alerts ∨
            (v < s.fans[f].minSpeed ∧ 0 < s.fans[f].actual ∧ s.fans[f].spin.isRunning = false ∧
              s.fans[f].mode ≠ .off))) ∧
      (∀ f : Fan, m.fans[f].power = fanPower s.thermal.overrideOn m.fans[f]) ∧
      (∀ a : Alert, a.kind ≠ .stall → (a ∈ m.mgmt.alerts ↔ a ∈ s.mgmt.alerts)) ∧
      m = { s with
        fans := m.fans, fanReservation := (allFans.map fun g => m.fans[g].power).sum, tachGate := .running 500
        mgmt := { s.mgmt with alerts := m.mgmt.alerts } }

/-- R111: the demand by the zone's temperature; a hotter zone never demands less, and no demand is above 255. With the
target of every mode and the zones that a fan follows (R112). -/
def Obligations.DemandFollowsTheZone : Prop :=
  (∀ (z : ZoneRecord) (f : FanRecord),
    (z.temp < z.low → demand z f = if f.below = .stop then 0 else f.minDuty) ∧
    (z.low ≤ z.temp → z.temp < z.low + z.range →
      demand z f = f.minDuty + (255 - f.minDuty) * (z.temp - z.low).toNat / z.range.toNat) ∧
    (z.low ≤ z.temp → z.low + z.range ≤ z.temp → demand z f = 255) ∧
    (f.minDuty ≤ 255 → 1 ≤ z.range → demand z f ≤ 255) ∧
    (f.minDuty ≤ 255 → 1 ≤ z.range →
      ∀ t : Int, z.temp ≤ t → demand z f ≤ demand { z with temp := t } f)) ∧
  (∀ (zones : Vector ZoneRecord 4) (f : FanRecord),
    (f.mode = .zone → targetOf zones f = demand zones[f.zoneSel] f) ∧ (f.mode = .full → targetOf zones f = 255) ∧
    (f.mode = .manual → targetOf zones f = f.manual) ∧ (f.mode = .off → targetOf zones f = 0)) ∧
  (∀ (f : FanRecord) (z : Zone), follows f z = true ↔
    (f.mode = .zone ∧ f.zoneSel = z) ∨ (f.mode = .hottest ∧ f.zoneSet.getLsbD z.val = true)) ∧
  ∀ (zones : Vector ZoneRecord 4) (f : FanRecord) (d : Nat), f.mode = .hottest → f.zoneSet ≠ 0 →
    (targetOf zones f = d ↔ (∃ z : Zone, f.zoneSet.getLsbD z.val = true ∧ demand zones[z] f = d) ∧
      ∀ z : Zone, f.zoneSet.getLsbD z.val = true → demand zones[z] f ≤ d)

/-- R124: the five points, the straight lines between them rounded up, and, for a curve in its order, a power that never
falls as the duty rises and lies between P0 and P4. -/
def Obligations.PowerCurveIsInterpolated : Prop :=
  ∀ c : Curve, curveAt c 0 = c.p0 ∧ curveAt c 64 = c.p1 ∧ curveAt c 128 = c.p2 ∧ curveAt c 192 = c.p3 ∧
    curveAt c 255 = c.p4 ∧
    (c.p0 ≤ c.p1 → c.p1 ≤ c.p2 → c.p2 ≤ c.p3 → c.p3 ≤ c.p4 →
      (∀ d e : Nat, d ≤ e → curveAt c d ≤ curveAt c e) ∧
      ∀ (d p : Nat),
        (d ≤ 64 → (curveAt c d ≤ p ↔ (c.p1 - c.p0) * d + c.p0 * 64 ≤ p * 64)) ∧
        (64 ≤ d → d ≤ 128 → (curveAt c d ≤ p ↔ (c.p2 - c.p1) * (d - 64) + c.p1 * 64 ≤ p * 64)) ∧
        (128 ≤ d → d ≤ 192 → (curveAt c d ≤ p ↔ (c.p3 - c.p2) * (d - 128) + c.p2 * 64 ≤ p * 64)) ∧
        (192 ≤ d → d ≤ 255 → (curveAt c d ≤ p ↔ (c.p4 - c.p3) * (d - 192) + c.p3 * 63 ≤ p * 63)))

/-! ### Blade control frames -/

/-- An ANNOUNCE by the slot's state (R7): dropped in EMPTY and STANDBY_WAIT, dropped as MALFORMED when it requests 0 W,
evaluated in the five unpowered states and recorded without evaluation in the others: identity, pairs and clamp written,
the address list and the station entries refreshed, ADDR_CONFLICT raised where an address conflicts, nothing else. The
refresh itself is stated with the evaluation below. -/
def Obligations.AnnounceByTheSlotState : Prop :=
  ∀ (i : Slot) (e : Envelope) (body : AnnounceBody) (s r : State), body.addresses.length < 256 →
    ControlArrives s e (25 + 6 * body.addresses.length) → r = countReceived (.slot i) s →
    ((s.slotState i = .empty ∨ s.slotState i = .standbyWait) →
      exec (.announce i e body) s = .next (close r (drop (.slot i) .notOnline r) false)) ∧
    (s.slotState i ≠ .empty → s.slotState i ≠ .standbyWait → body.requested = 0 →
      exec (.announce i e body) s = .next (close r (drop (.slot i) .malformed r) false)) ∧
    (body.requested ≠ 0 →
      s.slotState i ∈ [.announceWait, .unidentified, .denied, .standby, .powerWait] →
      exec (.announce i e body) s =
        .next (close r (evaluateAnnounce i body r).state (evaluateAnnounce i body r).cause)) ∧
    (body.requested ≠ 0 → s.slotState i ∈ [.powering, .online, .capped, .shuttingDown, .fault] →
      ∃ m : State, exec (.announce i e body) s = .next (close r m false) ∧
        (m.slot i).inv =
          { (s.slot i).inv with
            announced := true
            identity := some { bladeType := body.bladeType, serial := body.serial, firmware := body.firmware }
            announcedPair := some (announcedPair body)
            effectivePair := some (effectivePair (governing s body.bladeType) (announcedPair body))
            clamped := clamps (governing s body.bladeType) (announcedPair body)
            addresses := (firstAppearances (body.addresses.take 4)).map
              (judgeAddress s (s.stations.filter fun x => decide (x.owner ≠ i)))
            conflict := ((firstAppearances (body.addresses.take 4)).map
              (judgeAddress s (s.stations.filter fun x => decide (x.owner ≠ i)))).any fun a => a.status == .conflict } ∧
        m.slot i = { s.slot i with inv := (m.slot i).inv } ∧ (∀ j : Slot, j ≠ i → m.slot j = s.slot j) ∧
        m.stations = placeEntries (s.stations.filter fun x => decide (x.owner ≠ i)) i
          (((m.slot i).inv.addresses.filter fun a => a.status == .entered).map (·.address)) ∧
        (∀ a : Alert, a ∈ m.mgmt.alerts ↔
          (a = { kind := .addrConflict, index := i.val + 1 } ∧ (m.slot i).inv.conflict = true) ∨ a ∈ s.mgmt.alerts) ∧
        m = { r with
          slots := m.slots, stations := m.stations, mgmt := { r.mgmt with alerts := m.mgmt.alerts } })

/-- The evaluation of an ANNOUNCE: the clamped pairs, the governing record's maximum, priority and action, the slot's
new state, its request in the grant queue, the station entries refreshed, the ADMIT_RESULT offered, ATTENTION on a
DENY and ADDR_CONFLICT on a conflict, and when an evaluation of the budget follows. Then the steps of the refresh
(R26) and the record that governs a blade type (R10). The ADMIT_RESULT has its header from the moment of the offer
(log 9). -/
def Obligations.AnnounceIsJudgedByItsRecord : Prop :=
  (∀ (i : Slot) (b : AnnounceBody) (s m : State) (g : AdmissionRule) (pair : PowerPair) (others : List StationEntry),
    s.slotState i ∈ [.announceWait, .unidentified, .denied, .standby, .powerWait] → PowerConsistent s →
    g = governing s b.bladeType → pair = effectivePair g (announcedPair b) →
    others = s.stations.filter (fun e => decide (e.owner ≠ i)) → m = (evaluateAnnounce i b s).state →
    (announcedPair b).requested = min b.requested.toNat 4000 ∧
    (announcedPair b).floor = min b.floor.toNat (announcedPair b).requested ∧
    (g.maximum ≠ 0 → g.maximum < (announcedPair b).requested →
      pair = { requested := g.maximum, floor := min (announcedPair b).floor g.maximum }) ∧
    ((g.maximum = 0 ∨ (announcedPair b).requested ≤ g.maximum) → pair = announcedPair b) ∧
    (m.slot i).inv =
      { (s.slot i).inv with
        announced := true
        identity := some { bladeType := b.bladeType, serial := b.serial, firmware := b.firmware }
        announcedPair := some (announcedPair b), effectivePair := some pair
        clamped := decide (g.maximum ≠ 0 ∧ g.maximum < (announcedPair b).requested)
        lastOutcome := if g.action = .allow then .allowed else .denied
        addresses := (firstAppearances (b.addresses.take 4)).map (judgeAddress s others)
        conflict := ((firstAppearances (b.addresses.take 4)).map (judgeAddress s others)).any
          fun a => a.status == .conflict } ∧
    (m.slot i).adm =
      { (s.slot i).adm with
        state :=
          if g.action = .deny then .denied
          else if s.slotState i = .powerWait ∨ (s.slot i).adm.policy = .auto then .powerWait else .standby
        priority := g.priority.getD (s.slot i).adm.priority, announceWindow := .stopped } ∧
    m.slot i = { s.slot i with
      adm := (m.slot i).adm, inv := (m.slot i).inv
      que := { (s.slot i).que with
        control := replaceOrAppend (admitResultFrame s (g.action == .deny) pair) (s.slot i).que.control } } ∧
    (∀ j : Slot, j ≠ i → m.slot j = s.slot j) ∧
    m.stations = placeEntries others i
      ((((m.slot i).inv.addresses).filter fun a => a.status == .entered).map (·.address)) ∧
    (g.action = .allow → s.slotState i ≠ .powerWait → (s.slot i).adm.policy = .auto →
      m.budget.queue = insertMain m.priorityOf { slot := i, kind := .main, short := false } s.budget.queue) ∧
    (g.action = .allow → s.slotState i ≠ .powerWait → (s.slot i).adm.policy = .manual →
      m.budget.queue = s.budget.queue) ∧
    (g.action = .allow → s.slotState i = .powerWait → m.priorityOf i = s.priorityOf i →
      m.budget.queue = s.budget.queue) ∧
    (g.action = .allow → s.slotState i = .powerWait → m.priorityOf i ≠ s.priorityOf i →
      ∀ x ∈ s.budget.queue, x.slot = i →
        m.budget.queue = insertMain m.priorityOf x (s.budget.queue.filter fun q => decide (q.slot ≠ i))) ∧
    (g.action = .deny → m.budget.queue = s.budget.queue.filter fun q => decide (q.slot ≠ i)) ∧
    ((evaluateAnnounce i b s).cause = true ↔
      m.priorityOf i ≠ s.priorityOf i ∨ s.slotState i = .powerWait ∨ m.slotState i = .powerWait) ∧
    (∀ a : Alert, a ∈ m.mgmt.alerts ↔ (a = { kind := .attention, index := i.val + 1 } ∧ g.action = .deny) ∨
      (a = { kind := .addrConflict, index := i.val + 1 } ∧ (m.slot i).inv.conflict = true) ∨ a ∈ s.mgmt.alerts) ∧
    m = { s with
      slots := m.slots, stations := m.stations, budget := { s.budget with queue := m.budget.queue }
      mgmt := { s.mgmt with alerts := m.mgmt.alerts } }) ∧
  (firstAppearances [] = [] ∧ ∀ (l : List Station) (a : Station), firstAppearances (l ++ [a]) =
    if a ∈ l then firstAppearances l else firstAppearances l ++ [a]) ∧
  (∀ (s : State) (others : List StationEntry) (a : Station), judgeAddress s others a =
    { address := a
      status :=
        if a.getLsbD 40 = true ∨ a = 0 ∨ a = s.station then .invalid
        else if a ∈ others.map (·.address) then .conflict else .entered }) ∧
  (∀ (before after : List StationEntry) (i : Slot) (l : List Station), (∀ x ∈ before, x.owner < i) →
    (∀ x ∈ after, i < x.owner) → placeEntries (before ++ after) i l =
      before ++ l.map (fun a => { address := a, owner := i }) ++ after) ∧
  ∀ (s : State) (k : Word16),
    (∀ x ∈ s.admissionTable, AdmissionOrdered s → x.bladeType = k → governing s k = x.rule) ∧
    ((∀ x ∈ s.admissionTable, x.bladeType ≠ k) → governing s k = s.admissionDefault)

/-- TELEMETRY: dropped in EMPTY and STANDBY_WAIT; elsewhere the readings stored, the last of an index staying, the stale
flag cleared, its timer started again (R92), and the slot's zone recomputed (R104) and handed on to the override (R105,
R119, R120), the targets (R112), the actual duties (R115) and F (R125). That the fans are settled before the override is
evaluated is the model's choice (log 13). -/
def Obligations.TelemetryFillsTheCache : Prop :=
  ∀ (i : Slot) (e : Envelope) (readings : List TelemetryItem) (s r : State), readings.length < 256 →
    ControlArrives s e (1 + 2 * readings.length) → r = countReceived (.slot i) s →
    ((s.slotState i = .empty ∨ s.slotState i = .standbyWait) →
      exec (.telemetry i e readings) s = .next (close r (drop (.slot i) .notOnline r) false)) ∧
    (s.slotState i ≠ .empty → s.slotState i ≠ .standbyWait →
      ∃ m : State, exec (.telemetry i e readings) s = .next (close r m false) ∧
        (∀ k : Channel, (m.slot i).tel.readings[k] =
          match readings.reverse.find? (fun t => decide (t.sensor.toNat = k.val)) with
          | some t => if t.reading = 0x80#8 then none else some t.reading.toInt
          | none => (s.slot i).tel.readings[k]) ∧
        m.slot i =
          { s.slot i with
            tel := { readings := (m.slot i).tel.readings, stale := false
                     staleTimer := .running (s.timing.staleS * 1000) } } ∧
        (∀ j : Slot, j ≠ i → m.slot j = s.slot j) ∧
        ZonesRecomputed s m (fun z => z = (s.slot i).adm.zone) ∧ ThermalHandedOn s m ∧
        AlertsGain s m (fun _ => False) ∧
        m = { r with
          slots := m.slots, zones := m.zones, thermal := { s.thermal with overrideOn := m.thermal.overrideOn }
          fans := m.fans, fanReservation := m.fanReservation, mgmt := { s.mgmt with alerts := m.mgmt.alerts } })

/-- CAP_ACK is taken while the slot's capped flag is set, its cap-ack timer runs and the sequence is the slot's: the
timer stops and an evaluation follows. SHUTDOWN_ACK in SHUTTING_DOWN is a main-off to STANDBY. Otherwise no effect. -/
def Obligations.AcksEndTheirWaits : Prop :=
  ∀ (i : Slot) (e : Envelope) (s r : State), ControlArrives s e 0 → r = countReceived (.slot i) s →
    ((s.slot i).bud.capped = true → (s.slot i).bud.capAck.isRunning = true → e.sequence = (s.slot i).bud.capSeq →
      exec (.capAck i e) s = .next (close r (r.modBud i fun b => { b with capAck := .stopped }) true)) ∧
    (¬((s.slot i).bud.capped = true ∧ (s.slot i).bud.capAck.isRunning = true ∧ e.sequence = (s.slot i).bud.capSeq) →
      exec (.capAck i e) s = .next (close r r false)) ∧
    (s.slotState i = .shuttingDown →
      exec (.shutdownAck i e) s = .next (close r (mainOff i .standby r) true)) ∧
    (s.slotState i ≠ .shuttingDown → exec (.shutdownAck i e) s = .next (close r r false))

/-! ### Arrivals and forwarding -/

/-- Every frame: a bad CRC leaves no trace, a length out of range is dropped under TOO_LONG, one that passes is
counted. A control frame whose type, version, length, kind or port is wrong, whose body's own counts disagree with its
length, or whose items do not fill its body is MALFORMED. A pause on an uplink sets its hold, one on a slot link does
nothing, another flow-control opcode is MALFORMED. What the row's name says does not count (log 6). A drop and a
reception change nothing but their counter. -/
def Obligations.ArrivalsAreChecked : Prop :=
  (∀ (p : Port) (rx : Reception) (c : Instr) (s r : State),
    (c = .malformedControlFrame p rx ∨ (∃ i, p = .slot i ∧ c = .upstreamFrame i rx) ∨
      (∃ u, p = .uplink u ∧ c = .downstreamFrame u rx)) → r = countReceived p s →
    (rx.crcMatches = false → exec c s = .next s) ∧
    (rx.crcMatches = true → (rx.octets.length + 4 < 64 ∨ s.fwd.maxLength < rx.octets.length + 4) →
      exec c s = .next (drop p .tooLong s)) ∧
    (∀ (off : Nat) (frameType : Word16), rx.crcMatches = true → 64 ≤ rx.octets.length + 4 →
      rx.octets.length + 4 ≤ s.fwd.maxLength → word16At rx.octets 12 ≠ 0x8808#16 →
      (stationAt rx.octets 0 = s.station ∨ stationAt rx.octets 0 = 0x07E56A000001#48) →
      off = (if word16At rx.octets 12 = s.fwd.tagType then 18 else 14) →
      frameType = (if word16At rx.octets 12 = s.fwd.tagType then word16At rx.octets 16 else word16At rx.octets 12) →
      (frameType ≠ s.fwd.controlType ∨ rx.octets.length < off + 6 ∨ octetAt rx.octets off ≠ 1 ∨
        rx.octets.length < off + 6 + (word16At rx.octets (off + 4)).toNat ∨
        (match p with
          | .slot _ =>
            (octetAt rx.octets (off + 1)).toNat ∉ [1, 2, 3, 4] ∨
            (octetAt rx.octets (off + 1) = 0x01#8 ∧ (word16At rx.octets (off + 4)).toNat ≠
              25 + 6 * (octetAt rx.octets (off + 30)).toNat) ∨
            (octetAt rx.octets (off + 1) = 0x02#8 ∧ (word16At rx.octets (off + 4)).toNat ≠
              1 + 2 * (octetAt rx.octets (off + 6)).toNat) ∨
            ((octetAt rx.octets (off + 1)).toNat ∈ [3, 4] ∧ word16At rx.octets (off + 4) ≠ 0)
          | .uplink u =>
            octetAt rx.octets (off + 1) ≠ 0x21#8 ∨ (s.uplink u).management = false ∨
            (word16At rx.octets (off + 4)).toNat < 2 ∨
            ¬∃ items : List Item, (∀ x ∈ items, x.value.length < 65536) ∧ items.flatMap itemOctets =
              (rx.octets.drop (off + 8)).take ((word16At rx.octets (off + 4)).toNat - 2))) →
      exec c s = .next (close r (drop p .malformed r) false))) ∧
  (∀ (p : Port) (f : FlowFrame) (s r : State), f.crcMatches = true → 64 ≤ 22 + f.rest.length →
    22 + f.rest.length ≤ s.fwd.maxLength → r = countReceived p s →
    (f.opcode ≠ 1 → exec (.flowControlFrame p f) s = .next (close r (drop p .malformed r) false)) ∧
    (f.opcode = 1 → ∀ i, p = .slot i → exec (.flowControlFrame p f) s = .next (close r r false)) ∧
    (f.opcode = 1 → ∀ u, p = .uplink u → exec (.flowControlFrame p f) s =
      .next (close r (r.modUplink u fun q => { q with
        hold := if f.quanta = 0 then .stopped else .running (f.quanta.toNat * 512) }) false))) ∧
  ∀ (p : Port) (reason : DropReason) (s : State),
    (∀ q : Port, (drop p reason s).counters[portIndex q].received = s.counters[portIndex q].received ∧
      ∀ x : DropReason, (drop p reason s).counters[portIndex q].drops[x.index] =
        if q = p ∧ x = reason then s.counters[portIndex q].drops[x.index] + 1
        else s.counters[portIndex q].drops[x.index]) ∧
    (∀ q : Port, (countReceived p s).counters[portIndex q] =
      if q = p then { s.counters[portIndex q] with received := s.counters[portIndex q].received + 1 }
      else s.counters[portIndex q]) ∧
    drop p reason s = { s with counters := (drop p reason s).counters } ∧
    countReceived p s = { s with counters := (countReceived p s).counters } ∧
    (∀ i : Slot, (portIndex (.slot i)).val = i.val) ∧ portIndex (.uplink .A) = 16 ∧ portIndex (.uplink .B) = 17

/-- An upstream frame: the first step of R135 to R138 that fails drops it under that step's reason; then DROP, TRAP
with the carrier try, or FORWARD to the chosen uplink's class queue. With the segment that a frame is placed in (R135,
R140) and the uplink that a select gives (R138). With the owner of an address and the members of a set. -/
def Obligations.UpstreamFramesAreForwarded : Prop :=
  (∀ (table : List StationEntry) (a : Station) (i : Slot), (table.map (·.address)).Nodup →
    (ownerOf table a = some i ↔ { address := a, owner := i } ∈ table)) ∧
  (∀ (h : SlotSet) (i : Slot), inSlotSet h i = h.getLsbD i.val) ∧
  (∀ rx : Reception, rxFrame rx = { octets := rx.octets, fcs := some rx.fcs }) ∧
  (∀ (s : State) (default : Option Nat) (h : TrafficHeader) (g : Segment), SegmentsOrdered s →
    (frameSegment s default h = some g ↔ g ∈ s.fwd.segments ∧ some g.tagId =
      (match h.control with
        | some k => if k.extractLsb' 0 12 = 0 then default else some (k.extractLsb' 0 12).toNat
        | none => default))) ∧
  (∀ s : State,
    (chooseUplink s .a = if s.uplinkA.linkUp = true then some .A else none) ∧
    (chooseUplink s .b = if s.uplinkB.linkUp = true then some .B else none) ∧
    (s.uplinkA.linkUp = true → chooseUplink s .pairA = some .A) ∧
    (s.uplinkB.linkUp = true → chooseUplink s .pairB = some .B) ∧
    (s.uplinkA.linkUp = false → s.uplinkB.linkUp = true → chooseUplink s .pairA = some .B) ∧
    (s.uplinkB.linkUp = false → s.uplinkA.linkUp = true → chooseUplink s .pairB = some .A) ∧
    (s.uplinkA.linkUp = false → s.uplinkB.linkUp = false → ∀ k, chooseUplink s k = none)) ∧
  ∀ (i : Slot) (rx : Reception) (s r : State) (h : TrafficHeader), rx.crcMatches = true →
    64 ≤ rx.octets.length + 4 → rx.octets.length + 4 ≤ s.fwd.maxLength → word16At rx.octets 12 ≠ 0x8808#16 →
    stationAt rx.octets 0 ≠ s.station → stationAt rx.octets 0 ≠ 0x07E56A000001#48 →
    h = { destination := stationAt rx.octets 0, source := stationAt rx.octets 6
          control := if word16At rx.octets 12 = s.fwd.tagType then some (word16At rx.octets 14) else none } →
    r = countReceived (.slot i) s →
    ∃ m : State, exec (.upstreamFrame i rx) s = .next (close r m false) ∧
      (s.slotState i ≠ .online → s.slotState i ≠ .capped → m = drop (.slot i) .notOnline r) ∧
      ((s.slotState i = .online ∨ s.slotState i = .capped) →
        (frameSegment s (s.slot i).adm.segment h = none → m = drop (.slot i) .noSegment r) ∧
        ∀ g : Segment, frameSegment s (s.slot i).adm.segment h = some g →
          (inSlotSet g.members i = false → m = drop (.slot i) .notMember r) ∧
          (inSlotSet g.members i = true → g.strict = true → ownerOf s.stations h.source ≠ some i →
            m = drop (.slot i) .source r) ∧
          (inSlotSet g.members i = true → (g.strict = true → ownerOf s.stations h.source = some i) →
            (g.action = .drop → m = drop (.slot i) .segDrop r) ∧
            (g.action = .trap →
              (offerTrap { frame := rxFrame rx, port := .slot i } r = none → m = drop (.slot i) .trapFull r) ∧
              ∀ t, offerTrap { frame := rxFrame rx, port := .slot i } r = some t → m = carrierTry t) ∧
            (g.action = .forward →
              (chooseUplink s g.select = none → m = drop (.slot i) .linkDown r) ∧
              ∀ (u : Uplink) (c : Cls), chooseUplink s g.select = some u →
                c = (match g.override, h.control with
                  | some k, _ => k
                  | none, some k => s.fwd.classMap[(k.extractLsb' 13 3).toFin]
                  | none, none => (s.slot i).adm.cls) →
                (offerClass u c { frame := rxFrame rx, source := some i } r = none →
                  m = drop (.slot i) .queueFull r) ∧
                ∀ t, offerClass u c { frame := rxFrame rx, source := some i } r = some t → m = t)))

/-- A downstream frame: its segment, its arrival uplink, the segment's action; then one copy to the owner of its
destination, or a copy to each running member, each copy offered to its slot's egress queue. -/
def Obligations.DownstreamFramesAreDelivered : Prop :=
  (∀ a : Station, isGroup a = a.getLsbD 40) ∧
  ∀ (u : Uplink) (rx : Reception) (s r : State) (h : TrafficHeader), rx.crcMatches = true →
    64 ≤ rx.octets.length + 4 → rx.octets.length + 4 ≤ s.fwd.maxLength → word16At rx.octets 12 ≠ 0x8808#16 →
    stationAt rx.octets 0 ≠ s.station → stationAt rx.octets 0 ≠ 0x07E56A000001#48 →
    h = { destination := stationAt rx.octets 0, source := stationAt rx.octets 6
          control := if word16At rx.octets 12 = s.fwd.tagType then some (word16At rx.octets 14) else none } →
    r = countReceived (.uplink u) s →
    ∃ m : State, exec (.downstreamFrame u rx) s = .next (close r m false) ∧
      (frameSegment s (s.uplink u).segment h = none → m = drop (.uplink u) .noSegment r) ∧
      ∀ g : Segment, frameSegment s (s.uplink u).segment h = some g →
        ((g.select = .a ∧ u = .B) ∨ (g.select = .b ∧ u = .A) → m = drop (.uplink u) .wrongUplink r) ∧
        (¬((g.select = .a ∧ u = .B) ∨ (g.select = .b ∧ u = .A)) →
          (g.action = .drop → m = drop (.uplink u) .segDrop r) ∧
          (g.action = .trap →
            (offerTrap { frame := rxFrame rx, port := .uplink u } r = none → m = drop (.uplink u) .trapFull r) ∧
            ∀ t, offerTrap { frame := rxFrame rx, port := .uplink u } r = some t → m = carrierTry t) ∧
          (g.action = .forward →
            (∀ i : Slot, isGroup h.destination = false → ownerOf s.stations h.destination = some i →
              (inSlotSet g.members i = false → m = drop (.uplink u) .notMember r) ∧
              (inSlotSet g.members i = true → s.slotState i ≠ .online → s.slotState i ≠ .capped →
                m = drop (.uplink u) .notOnline r) ∧
              (inSlotSet g.members i = true → (s.slotState i = .online ∨ s.slotState i = .capped) →
                m = (offerEgress i (rxFrame rx) r).getD (drop (.slot i) .queueFull r))) ∧
            ((isGroup h.destination = true ∨ ownerOf s.stations h.destination = none) →
              ((∀ i : Slot, inSlotSet g.members i = true → s.slotState i ≠ .online ∧ s.slotState i ≠ .capped) →
                m = drop (.uplink u) .notOnline r) ∧
              ((∃ i : Slot, inSlotSet g.members i = true ∧ (s.slotState i = .online ∨ s.slotState i = .capped)) →
                m = (allSlots.filter fun i =>
                    inSlotSet g.members i && (s.slotState i == .online || s.slotState i == .capped)).foldl
                  (fun t i => (offerEgress i (rxFrame rx) t).getD (drop (.slot i) .queueFull t)) r))))

/-! ### Transmission -/

/-- A completion returns a frame's cells and frees its link; on an uplink the downward test follows, and in class 0 of
the notice destination's uplink the carrier try (R157), which comes before the next transmission begins: the model's
DEDUCED choice of log 8. The end of a hold clears it. Transmissions begin in `close`. The carrier try: while a carrier is
possible the head entry leaves the trap queue, its cells return, and its carrier is admitted to class 0. -/
def Obligations.CompletionsReturnCells : Prop :=
  (∀ (u : Uplink) (f : UplinkFlight) (s m : State), (s.uplink u).flight = some f →
    m = downwardTest u f.cls ({ s with freeCells := s.freeCells + f.entry.frame.cells }.modUplink u fun r =>
      { r with flight := none }) →
    ((∃ a, s.mgmt.destination = some (a, u)) → f.cls = 0 →
      exec (.uplinkTransmissionComplete u) s = .next (close s (carrierTry m) false)) ∧
    (¬((∃ a, s.mgmt.destination = some (a, u)) ∧ f.cls = 0) →
      exec (.uplinkTransmissionComplete u) s = .next (close s m false))) ∧
  (∀ (i : Slot) (f : SlotFlight) (s : State), (s.slot i).que.flight = some f →
    exec (.slotTransmissionComplete i) s =
      .next (close s { (s.modQue i fun q => { q with flight := none }) with
        freeCells := s.freeCells + (if f.fromEgress = true then f.frame.cells else 0) } false)) ∧
  (∀ (u : Uplink) (s : State), (s.uplink u).hold.isRunning = true →
    exec (.transmitHoldEnd u) s = .next (close s (s.modUplink u fun r => { r with hold := .stopped }) false)) ∧
  ∀ s : State,
    (s.mgmt.destination = none ∨ s.trapQueue = [] → carrierTry s = s) ∧
    ∀ (a : Station) (u : Uplink) (x : TrapEntry) (rest : List TrapEntry) (carrier : Octets) (left : State)
      (offered : Option State), s.mgmt.destination = some (a, u) → s.trapQueue = x :: rest →
      carrier = s.buildControl a 0x24#8 0
        (be16n (match x.port with
            | .slot i => i.val + 1
            | .uplink .A => 17
            | .uplink .B => 18) ++
          be16n rest.length ++ be16n (x.frame.octets.length + 4) ++ x.frame.octets ++
          be32 (x.frame.fcs.getD (Config.crc x.frame.octets))) →
      left = { s with trapQueue := rest, freeCells := s.freeCells + x.frame.cells } →
      offered = offerClass u 0 { frame := { octets := carrier, fcs := none }, source := none } left →
      (offered = none → carrierTry s = s) ∧ ∀ t, offered = some t → carrierTry s = carrierTry t

/-- What a link sends next: an idle uplink that is up and not held, the head of its lowest-numbered class queue with
an entry; an idle slot link, its pending pause, then its control list, then its egress queue. `beginAll` does this for
every link, and nothing else. A pause is built when it begins, from the quanta that became pending (log 9). A frame
without a CRC gets it as its transmission begins: the free value of log 5. -/
def Obligations.LinksServeTheirQueuesInOrder : Prop :=
  (∀ (f : Frame) (fromEgress : Bool), flightOf f fromEgress =
    { frame := sealFrame f, fromEgress := fromEgress, duration := (f.octets.length + 4 + 20) * 8 }) ∧
  (∀ f : Frame, sealFrame f = { octets := f.octets, fcs := some (f.fcs.getD (Config.crc f.octets)) }) ∧
  (∀ (u : Uplink) (c : Cls) (e : QueueEntry) (rest : List QueueEntry) (s : State),
    (s.uplink u).flight = none → (s.uplink u).linkUp = true → (s.uplink u).hold = .stopped →
    (s.uplink u).queues[c].entries = e :: rest → (∀ d : Cls, d < c → (s.uplink u).queues[d].entries = []) →
    beginUplink u s = s.modUplink u fun r => { r with
      flight := some { cls := c, entry := { e with frame := sealFrame e.frame }
                       duration := (e.frame.octets.length + 4 + 20) * 8 }
      queues := r.queues.set c { r.queues[c] with entries := rest } }) ∧
  (∀ (u : Uplink) (s : State),
    ((s.uplink u).flight ≠ none ∨ (s.uplink u).linkUp = false ∨ (s.uplink u).hold.isRunning = true ∨
      ∀ c : Cls, (s.uplink u).queues[c].entries = []) → beginUplink u s = s) ∧
  ∀ (i : Slot) (s : State),
    ((s.slot i).que.flight ≠ none → beginSlot i s = s) ∧
    (∀ n, (s.slot i).que.flight = none → (s.slot i).que.pendingPause = some n →
      beginSlot i s = s.modQue i fun q => { q with
        pendingPause := none, flight := some (flightOf { octets := s.pauseOctets n, fcs := none } false) }) ∧
    (∀ f rest, (s.slot i).que.flight = none → (s.slot i).que.pendingPause = none →
      (s.slot i).que.control = f :: rest →
      beginSlot i s = s.modQue i fun q => { q with
        control := rest, flight := some (flightOf { octets := f.octets, fcs := none } false)
        marker := if f.kind = .cap then some .cap else if f.kind = .uncap then some .uncap else q.marker }) ∧
    (∀ f rest, (s.slot i).que.flight = none → (s.slot i).que.pendingPause = none → (s.slot i).que.control = [] →
      (s.slot i).que.egress = f :: rest →
      beginSlot i s = s.modQue i fun q => { q with egress := rest, flight := some (flightOf f true) }) ∧
    ((s.slot i).que.pendingPause = none → (s.slot i).que.control = [] → (s.slot i).que.egress = [] →
      beginSlot i s = s) ∧
    (beginAll s).slot i = (beginSlot i s).slot i ∧
    (∀ u : Uplink, (beginAll s).uplink u = (beginUplink u s).uplink u) ∧
    beginAll s = { s with
      slots := (beginAll s).slots, uplinkA := (beginAll s).uplinkA, uplinkB := (beginAll s).uplinkB }

/-- A link fall flushes the uplink's four class queues: cells returned, each frame counted under LINK_DOWN, congestion
ended, the hold ended; a frame in flight stays. A link rise changes the link state alone. -/
def Obligations.LinkFallFlushesTheUplink : Prop :=
  (∀ (u : Uplink) (s : State), (s.uplink u).linkUp = true →
    ∃ m : State, exec (.uplinkLinkFall u) s = .next (close s m false) ∧
      (m.uplink u).linkUp = false ∧ (m.uplink u).hold = .stopped ∧ (m.uplink u).flight = (s.uplink u).flight ∧
      (m.uplink u).management = (s.uplink u).management ∧ (m.uplink u).segment = (s.uplink u).segment ∧
      (∀ c : Cls, (m.uplink u).queues[c] =
        { (s.uplink u).queues[c] with
          entries := [], congested := false, held := 0, staged := none
          marks := (s.uplink u).queues[c].staged.getD (s.uplink u).queues[c].marks }) ∧
      m.uplink (otherUplink u) = s.uplink (otherUplink u) ∧
      m.freeCells = s.freeCells + (allClasses.map fun c => entryCells (s.uplink u).queues[c].entries).sum ∧
      (∀ (p : Port) (x : DropReason), m.counters[portIndex p].drops[x.index] =
        s.counters[portIndex p].drops[x.index] +
          (if x = .linkDown then BitVec.ofNat 32 ((allClasses.map fun c => (s.uplink u).queues[c].entries.countP
            fun e => decide (e.source.elim (Port.uplink u) Port.slot = p)).sum) else 0)) ∧
      (∀ p : Port, m.counters[portIndex p].received = s.counters[portIndex p].received) ∧
      (∀ i : Slot,
        (((s.slot i).que.backpressure = true ∧ heldAnywhere s i = true ∧ heldAnywhere m i = false) →
          m.slot i = { s.slot i with que := { (s.slot i).que with
            backpressure := false, refresh := .stopped, pendingPause := some 0 } }) ∧
        (¬((s.slot i).que.backpressure = true ∧ heldAnywhere s i = true ∧ heldAnywhere m i = false) →
          m.slot i = s.slot i)) ∧
      m = { s with
        slots := m.slots, uplinkA := m.uplinkA, uplinkB := m.uplinkB, freeCells := m.freeCells
        counters := m.counters }) ∧
  ∀ (u : Uplink) (s : State), (s.uplink u).linkUp = false →
    exec (.uplinkLinkRise u) s = .next (close s (s.modUplink u fun r => { r with linkUp := true }) false)

/-! ### COMMAND frames: reads and refusals -/

/-- A command that is read only, or refused, changes nothing but what R164 gives every COMMAND: its RESPONSE is offered
and the links begin, in that order by the model's DEDUCED choice of log 7. START_SWEEP during a sweep is counted as
missed and answered BUSY, stated with the sweep commands. `tableArgs` and `queueArgs` turn away two forms that the spec
leaves open, by the model's choice of log 15: READ_TABLE with both an index and the default form, and SET_QUEUE that
names no queue. Then how the items of a COMMAND are checked and read (R180, R181). -/
def Obligations.RefusedCommandsChangeNothing : Prop :=
  (∀ (s : State) (u : Uplink) (e : Envelope), commandState s u e =
    { countReceived (.uplink u) s with mgmt := { s.mgmt with destination := some (e.source, u) } }) ∧
  knownCodes = [0x01, 0x02, 0x03, 0x04, 0x05, 0x06, 0x07, 0x08, 0x09, 0x10, 0x11, 0x12, 0x13, 0x14, 0x15, 0x16, 0x17,
    0x18, 0x19, 0x1A, 0x1B, 0x1C, 0x1D, 0x1E, 0x1F, 0x20, 0x21, 0x30, 0x31, 0x32, 0x33, 0x34, 0x40, 0x41, 0x42, 0x43] ∧
  (∀ (spec : List FieldSpec) (items : List Item), itemsFit spec items = true ↔
    (∀ x ∈ items, ∃ f ∈ spec, x.field.toNat = f.number ∧ f.least ≤ x.value.length ∧ x.value.length ≤ f.most) ∧
    ∀ f ∈ spec, (f.repeatable = false → (valuesOf f.number items).length ≤ 1) ∧
      (f.required = true → valuesOf f.number items ≠ [])) ∧
  (∀ (n : Nat) (items : List Item), fieldOctets n items = (valuesOf n items).head? ∧
    fieldNat n items = (fieldOctets n items).map natOf ∧ fieldInt n items = (fieldOctets n items).map intOf) ∧
  (∀ (n width : Nat), opt n width = FieldSpec.mk n width width false false ∧
    req n width = FieldSpec.mk n width width true false) ∧
  (∀ (o : Octets) (b : Byte), natOf [] = 0 ∧ natOf (o ++ [b]) = natOf o * 256 + b.toNat) ∧
  (∀ a b : Byte, intOf [a, b] = (a ++ b : BitVec 16).toInt) ∧
  (∀ (s : State) (u : Uplink) (e : Envelope) (code : Word16) (status : Status) (results : List (List Octets)),
    commandDone s u e code { state := commandState s u e, status := status, results := results, cause := false } =
      beginAll (respond { uplink := u, source := e.source, sequence := e.sequence, code := code } status results
        (commandState s u e))) ∧
  ∀ (s : State) (u : Uplink) (e : Envelope) (items : List Item) (refused : Status → Word16 → State),
    CommandArrives s u e items →
    (∀ status code, refused status code = commandDone s u e code
      { state := commandState s u e, status := status, results := [], cause := false }) →
    (∀ code : Word16, code.toNat ∉ knownCodes →
      exec (.unknownCommand u e code items) s = .next (refused .unknown code)) ∧
    (slotField items = none → exec (.readSlot u e items) s = .next (refused .badValue 0x01#16) ∧
      exec (.readInventory u e items) s = .next (refused .badValue 0x02#16) ∧
      exec (.slotPowerOn u e items) s = .next (refused .badValue 0x30#16) ∧
      exec (.slotKill u e items) s = .next (refused .badValue 0x32#16) ∧
      exec (.slotRelease u e items) s = .next (refused .badValue 0x34#16)) ∧
    (items ≠ [] → exec (.readPower u e items) s = .next (refused .badValue 0x03#16) ∧
      exec (.readThermal u e items) s = .next (refused .badValue 0x04#16) ∧
      exec (.readFans u e items) s = .next (refused .badValue 0x05#16) ∧
      exec (.readQueues u e items) s = .next (refused .badValue 0x06#16) ∧
      exec (.readAlerts u e items) s = .next (refused .badValue 0x08#16) ∧
      exec (.startSweep u e items) s = .next (refused .badValue 0x20#16) ∧
      exec (.stopSweep u e items) s = .next (refused .badValue 0x21#16) ∧
      exec (.clearCounters u e items) s = .next (refused .badValue 0x42#16) ∧
      exec (.restart u e items) s = .next (refused .badValue 0x43#16)) ∧
    (counterPorts items = none → exec (.readCounters u e items) s = .next (refused .badValue 0x07#16)) ∧
    (tableArgs items = none → exec (.readTable u e items) s = .next (refused .badValue 0x09#16)) ∧
    (slotArgs items = none → exec (.setSlot u e items) s = .next (refused .badValue 0x10#16)) ∧
    (supplyArgs items = none → exec (.setSupply u e items) s = .next (refused .badValue 0x11#16)) ∧
    (timingArgs items = none → exec (.setTiming u e items) s = .next (refused .badValue 0x12#16)) ∧
    (zoneArgs items = none → exec (.setZone u e items) s = .next (refused .badValue 0x13#16)) ∧
    (fanArgs items = none → exec (.setFan u e items) s = .next (refused .badValue 0x14#16)) ∧
    (curveArgs items = none → exec (.setFanCurve u e items) s = .next (refused .badValue 0x15#16)) ∧
    (dutyArgs items = none → exec (.setFanDuty u e items) s = .next (refused .badValue 0x16#16)) ∧
    (channelArgs items = none → exec (.setChannel u e items) s = .next (refused .badValue 0x17#16)) ∧
    (sweepArgs items = none → exec (.setSweep u e items) s = .next (refused .badValue 0x18#16)) ∧
    (uplinkArgs items = none → exec (.setUplink u e items) s = .next (refused .badValue 0x19#16)) ∧
    (queueArgs items = none → exec (.setQueue u e items) s = .next (refused .badValue 0x1A#16)) ∧
    (classMapArgs items = none → exec (.setClassMap u e items) s = .next (refused .badValue 0x1B#16)) ∧
    (segmentArgs items = none → exec (.loadSegment u e items) s = .next (refused .badValue 0x1C#16)) ∧
    (deleteSegmentArgs items = none → exec (.deleteSegment u e items) s = .next (refused .badValue 0x1D#16)) ∧
    (admissionArgs items = none → exec (.loadAdmission u e items) s = .next (refused .badValue 0x1E#16)) ∧
    (deleteAdmissionArgs items = none → exec (.deleteAdmission u e items) s = .next (refused .badValue 0x1F#16)) ∧
    (powerOffArgs items = none → exec (.slotPowerOff u e items) s = .next (refused .badValue 0x31#16)) ∧
    (slotAdmitArgs items = none → exec (.slotAdmit u e items) s = .next (refused .badValue 0x33#16)) ∧
    (injectArgs items = none → exec (.inject u e items) s = .next (refused .badValue 0x40#16)) ∧
    (clearAlertsArgs items = none → exec (.clearAlerts u e items) s = .next (refused .badValue 0x41#16))

/-- The reads answer OK with the results of their rules and change nothing. The layout of the result items is the
model's (log 10). READ_TABLE refuses an index at or beyond the table's count with BADVALUE, and the station and
segment tables give their count with an entry and with the refusal; it takes an index or the default form, not both
(log 15). -/
def Obligations.ReadsAnswerFromTheState : Prop :=
  (∀ (items : List Item) (table : TableSelector) (k : Option Nat), tableArgs items = some (table, k) ↔
    itemsFit [req 1 1, opt 2 2, opt 3 0] items = true ∧
    fieldNat 1 items = some (match table with
      | .admission => 0
      | .station => 1
      | .segment => 2) ∧
    k = fieldNat 2 items ∧ (k = none ↔ fieldOctets 3 items ≠ none) ∧ (k = none → table = .admission)) ∧
  (∀ items : List Item, counterPorts items ≠ none ↔
    items = [] ∨ ∃ p : Port, items = [{ field := 1#8, value := [octet ((portIndex p).val + 1)] }]) ∧
  (∀ (items : List Item) (i : Slot),
    slotField items = some i ↔ items = [{ field := 1#8, value := [octet (i.val + 1)] }]) ∧
  ∀ (s cs : State) (u : Uplink) (e : Envelope) (items : List Item) (ok : List (List Octets) → Word16 → State),
    CommandArrives s u e items → cs = commandState s u e →
    (∀ results code, ok results code = commandDone s u e code
      { state := cs, status := .ok, results := results, cause := false }) →
    (∀ i : Slot, slotField items = some i →
      exec (.readSlot u e items) s = .next (ok (slotResults (s.slot i)) 0x01#16) ∧
      exec (.readInventory u e items) s = .next (ok (inventoryResults (s.slot i)) 0x02#16)) ∧
    (items = [] →
      exec (.readPower u e items) s = .next (ok (powerResults s) 0x03#16) ∧
      exec (.readThermal u e items) s = .next (ok (thermalResults s) 0x04#16) ∧
      exec (.readFans u e items) s = .next (ok (fanResults s) 0x05#16) ∧
      exec (.readQueues u e items) s = .next (ok (queueResults s) 0x06#16) ∧
      exec (.readAlerts u e items) s = .next (ok (alertResults s) 0x08#16)) ∧
    (items = [] → exec (.readCounters u e items) s = .next (ok (counterResults cs allPorts) 0x07#16)) ∧
    (∀ p : Port, items = [{ field := 1#8, value := [octet ((portIndex p).val + 1)] }] →
      exec (.readCounters u e items) s = .next (ok (counterResults cs [p]) 0x07#16)) ∧
    (∀ (table : TableSelector) (k : Option Nat), tableArgs items = some (table, k) →
      exec (.readTable u e items) s = .next (commandDone s u e 0x09#16 (readTable cs table k)) ∧
      (readTable cs table k).state = cs ∧ (readTable cs table k).cause = false ∧
      ((readTable cs table k).status = .ok ↔ k = none ∧ table = .admission ∨
        ∃ n, k = some n ∧ n < (match table with
          | .admission => s.admissionTable.length
          | .station => s.stations.length
          | .segment => s.fwd.segments.length)) ∧
      ((readTable cs table k).status ≠ .ok → (readTable cs table k).status = .badValue) ∧
      (k = none → (readTable cs table k).results = [[admissionRuleField s.admissionDefault]]) ∧
      ∀ n : Nat, k = some n → (readTable cs table k).results =
        (match table with
          | .admission => (s.admissionTable[n]?).toList.map fun x => [admissionEntryField x]
          | .station => ((s.stations[n]?).toList.map fun x => [be48 x.address ++ [octet (x.owner.val + 1)]]) ++
              [[be16n s.stations.length]]
          | .segment => ((s.fwd.segments[n]?).toList.map fun g => [segmentEntryField g]) ++
              [[be16n s.fwd.segments.length]]))

/-! ### COMMAND frames: settings -/

/-- SET_SLOT stores what it carries; a new priority moves a waiting main request to the tail of its new group with its
mark; a new zone recomputes the old zone and the new one. The other blocks read what they hold (R20). With the fields
of SET_SLOT, what is refused and what is clamped (R20, R181). That the override is evaluated once, after the fans are
settled, is the model's DEDUCED choice of log 13; the places of the stored values in the answer are those of log 10.
-/
def Obligations.SetSlotStoresItsSettings : Prop :=
  (∀ (items : List Item) (i : Slot) (x : SlotSettings), slotArgs items = some (i, x) ↔
    itemsFit [req 1 1, opt 2 1, opt 3 1, opt 4 1, opt 5 2, opt 6 1, opt 7 2] items = true ∧
    fieldNat 1 items = some (i.val + 1) ∧
    x.policy.map (fun p => match p with
      | .auto => 0
      | .manual => 1) = fieldNat 2 items ∧
    x.priority.map Fin.val = (fieldNat 3 items).map (fun v => min v 3) ∧
    x.zone.map (fun z => z.val + 1) = fieldNat 4 items ∧
    x.segment.map (fun g => g.getD 0) = fieldNat 5 items ∧
    (∀ id, x.segment = some (some id) → 1 ≤ id ∧ id ≤ 4094) ∧
    x.cls.map Fin.val = (fieldNat 6 items).map (fun v => min v 3) ∧
    x.quanta = (fieldNat 7 items).map (fun v => max 1 v)) ∧
  ∀ (s cs : State) (u : Uplink) (e : Envelope) (items : List Item) (i : Slot) (x : SlotSettings),
    CommandArrives s u e items → cs = commandState s u e → slotArgs items = some (i, x) →
    ∃ m : State,
      exec (.setSlot u e items) s = .next (commandDone s u e 0x10#16
        { state := m, status := .ok, cause := x.priority.isSome
          results := [ifCarried (fun p => one (Policy.code p)) x.policy, ifCarried (fun p => one p.val) x.priority,
            ifCarried (fun z => one (z.val + 1)) x.zone, ifCarried segmentField x.segment,
            ifCarried (fun c => one c.val) x.cls, ifCarried be16n x.quanta] }) ∧
      m.slot i = { s.slot i with
        adm := { (s.slot i).adm with
          policy := x.policy.getD (s.slot i).adm.policy, priority := x.priority.getD (s.slot i).adm.priority
          zone := x.zone.getD (s.slot i).adm.zone, segment := x.segment.getD (s.slot i).adm.segment
          cls := x.cls.getD (s.slot i).adm.cls, quanta := x.quanta.getD (s.slot i).adm.quanta } } ∧
      (∀ j : Slot, j ≠ i → m.slot j = s.slot j) ∧
      (x.priority.getD (s.slot i).adm.priority = (s.slot i).adm.priority → m.budget = s.budget) ∧
      (x.priority.getD (s.slot i).adm.priority ≠ (s.slot i).adm.priority →
        m.budget = { s.budget with
          queue := match s.budget.queue.find? (fun r => decide (r.slot = i) && r.kind == .main) with
            | none => s.budget.queue
            | some r => insertMain m.priorityOf r (s.budget.queue.filter fun q => decide (q.slot ≠ i)) }) ∧
      ((m.slot i).adm.zone = (s.slot i).adm.zone → m.zones = s.zones) ∧
      ((m.slot i).adm.zone ≠ (s.slot i).adm.zone → ZonesRecomputed s m fun z =>
        z = (s.slot i).adm.zone ∨ z = (m.slot i).adm.zone) ∧
      ThermalHandedOn s m ∧ AlertsGain s m (fun _ => False) ∧
      m = { cs with
        slots := m.slots, budget := m.budget, zones := m.zones
        thermal := { s.thermal with overrideOn := m.thermal.overrideOn }, fans := m.fans
        fanReservation := m.fanReservation, mgmt := { cs.mgmt with alerts := m.mgmt.alerts } }

/-- SET_SUPPLY is refused BUSY where it carries a lane count while a lane is in use; else it stores what it carries,
recomputes the capacity for a rating, policy or ceiling, and evaluates. SET_TIMING is refused BUSY where it carries a
power-good timeout or reset hold while a slot is in POWERING; else it stores what it carries. With the fields of both,
what is refused and what is clamped (R3, R5, R35, R41, R70, R71, R83, R91, R181). That the lane count of SET_SUPPLY
takes two octets is the model's choice (log 21). The places of the stored values in the answer are those of log 10. -/
def Obligations.SetSupplyAndTimingStoreTheirSettings : Prop :=
  (∀ (items : List Item) (x : SupplySettings), supplyArgs items = some x ↔
    itemsFit [{ number := 1, least := 3, most := 3, repeatable := true }, opt 2 1, opt 3 2, opt 4 2, opt 5 2, opt 6 2]
      items = true ∧
    List.Forall₂ (fun (o : Octets) (r : Bay × Nat) =>
      (octetAt o 0).toNat = r.1.val + 1 ∧ r.2 = min (natOf (o.drop 1)) 4000) (valuesOf 1 items) x.ratings ∧
    (x.ratings.map (·.1)).Nodup ∧
    x.policy.map (fun p => match p with
      | .none => 0
      | .n1 => 1
      | .grid => 2) = fieldNat 2 items ∧
    x.ceiling = (fieldNat 3 items).map (fun v => min v 60000) ∧
    x.allowance = (fieldNat 4 items).map (fun v => min v 63) ∧
    x.margin = (fieldNat 5 items).map (fun v => min v 1000) ∧
    x.lanes = (fieldNat 6 items).map (fun v => max 1 (min v 4))) ∧
  (∀ (items : List Item) (x : TimingSettings), timingArgs items = some x ↔
    itemsFit [opt 1 2, opt 2 2, opt 3 2, opt 4 2, opt 5 2, opt 6 2, opt 7 2, opt 8 2, opt 9 2] items = true ∧
    x.presenceFilter = (fieldNat 1 items).map (settingSteps 1000) ∧
    x.announceWindowS = (fieldNat 2 items).map (fun v => max 1 (min v 255)) ∧
    x.bayFilter = (fieldNat 3 items).map (settingSteps 1000) ∧
    x.capAckS = (fieldNat 4 items).map (fun v => max 1 (min v 60)) ∧
    x.powerGoodFilter = (fieldNat 5 items).map (settingSteps 1000) ∧
    x.powerGoodTimeout = (fieldNat 6 items).map (settingSteps 2550) ∧
    x.resetHold = (fieldNat 7 items).map (settingSteps 2550) ∧
    x.shutdownS = (fieldNat 8 items).map (fun v => max 1 (min v 600)) ∧
    x.staleS = (fieldNat 9 items).map (fun v => max 1 (min v 60))) ∧
  ∀ (s cs : State) (u : Uplink) (e : Envelope) (items : List Item), CommandArrives s u e items →
    cs = commandState s u e →
    (∀ x : SupplySettings, supplyArgs items = some x →
      (x.lanes.isSome = true → 0 < s.budget.lanesInUse →
        exec (.setSupply u e items) s = .next (commandDone s u e 0x11#16
          { state := cs, status := .busy, results := [], cause := false })) ∧
      (x.lanes = none ∨ s.budget.lanesInUse = 0 → ∃ (m : State) (ratings : List Octets),
        exec (.setSupply u e items) s = .next (commandDone s u e 0x11#16
          { state := m, status := .ok, cause := x.anyCarried
            results := [ratings, ifCarried (fun p => one (Redundancy.code p)) x.policy, ifCarried be16n x.ceiling,
              ifCarried be16n x.allowance, ifCarried be16n x.margin, ifCarried be16n x.lanes] }) ∧
        ratings = (allBays.filter fun b => (x.ratings.map (·.1)).contains b).map
          (fun b => octet (b.val + 1) :: be16n m.bays[b].rating) ∧
        (x.anyCarried = true ↔ x.ratings ≠ [] ∨ x.policy ≠ none ∨ x.ceiling ≠ none ∨ x.allowance ≠ none ∨
          x.margin ≠ none ∨ x.lanes ≠ none) ∧
        (∀ b : Bay, m.bays[b] =
          { s.bays[b] with
            rating := match x.ratings.find? (fun r => decide (r.1 = b)) with
              | some r => r.2
              | none => s.bays[b].rating }) ∧
        m.supply.policy = x.policy.getD s.supply.policy ∧ m.supply.ceiling = x.ceiling.getD s.supply.ceiling ∧
        (x.ratings ≠ [] ∨ x.policy ≠ none ∨ x.ceiling ≠ none →
          m.supply.raw = rawFigure m.supply.policy m.bays ∧
          m.supply.capacity = min m.supply.raw m.supply.ceiling) ∧
        (x.ratings = [] → x.policy = none → x.ceiling = none → m.supply = s.supply) ∧
        m.supply.brownout = s.supply.brownout ∧
        (∀ a : Alert, a ∈ m.mgmt.alerts ↔
          (a = { kind := .supplyChange, index := 0 } ∧ m.supply.capacity ≠ s.supply.capacity) ∨
            a ∈ s.mgmt.alerts) ∧
        m = { cs with
          bays := m.bays, supply := m.supply
          budget := { s.budget with
            allowance := x.allowance.getD s.budget.allowance, margin := x.margin.getD s.budget.margin
            laneCount := x.lanes.getD s.budget.laneCount }
          mgmt := { cs.mgmt with alerts := m.mgmt.alerts } })) ∧
    ∀ x : TimingSettings, timingArgs items = some x →
      ((x.powerGoodTimeout ≠ none ∨ x.resetHold ≠ none) → (∃ i : Slot, s.slotState i = .powering) →
        exec (.setTiming u e items) s = .next (commandDone s u e 0x12#16
          { state := cs, status := .busy, results := [], cause := false })) ∧
      ((x.powerGoodTimeout = none ∧ x.resetHold = none) ∨ (∀ i : Slot, s.slotState i ≠ .powering) →
        exec (.setTiming u e items) s = .next (commandDone s u e 0x12#16
          { state := { cs with
              timing :=
                { presenceFilter := x.presenceFilter.getD s.timing.presenceFilter
                  announceWindowS := x.announceWindowS.getD s.timing.announceWindowS
                  bayFilter := x.bayFilter.getD s.timing.bayFilter
                  capAckS := x.capAckS.getD s.timing.capAckS
                  powerGoodFilter := x.powerGoodFilter.getD s.timing.powerGoodFilter
                  powerGoodTimeout := x.powerGoodTimeout.getD s.timing.powerGoodTimeout
                  resetHold := x.resetHold.getD s.timing.resetHold
                  shutdownS := x.shutdownS.getD s.timing.shutdownS
                  staleS := x.staleS.getD s.timing.staleS } }
            status := .ok, cause := false
            results := [x.presenceFilter, x.announceWindowS, x.bayFilter, x.capAckS, x.powerGoodFilter,
              x.powerGoodTimeout, x.resetHold, x.shutdownS, x.staleS].map (ifCarried be16n) }))

/-- SET_ZONE stores the zone's settings and the hysteresis it carries, with the temperature recomputed where the
substitute changes. SET_CHANNEL stores a channel's limits and zone map; a changed map recomputes the old and new
zones. With the fields of both, what is refused and what is clamped (R101, R102, R103, R181). That the override is
evaluated once, after the fans are settled, is the model's DEDUCED choice of log 13; the places of the stored values
in the answer are those of log 10. That SET_ZONE takes the hysteresis beside a zone is the model's choice (log 15). -/
def Obligations.SetZoneAndChannelStoreTheirSettings : Prop :=
  (∀ (items : List Item) (x : ZoneSettings), zoneArgs items = some x ↔
    itemsFit [opt 1 1, opt 2 2, opt 3 2, opt 4 2, opt 5 2, opt 6 2] items = true ∧
    (fieldNat 1 items = none → ∀ k ∈ [2, 3, 4, 5], fieldNat k items = none) ∧
    x.zone.map (fun z => z.val + 1) = fieldNat 1 items ∧
    x.low = (fieldInt 2 items).map (fun v => max (-64) (min v 127)) ∧
    x.range = (fieldInt 3 items).map (fun v => max 1 (min v 64)) ∧
    x.limit = (fieldInt 4 items).map (fun v => max (-128) (min v 127)) ∧
    x.substitute = (fieldInt 5 items).map (fun v => max (-64) (min v 127)) ∧
    x.hysteresis = (fieldInt 6 items).map (fun v => max 0 (min v 15))) ∧
  (∀ (items : List Item) (c : Channel) (x : ChannelSettings), channelArgs items = some (c, x) ↔
    itemsFit [req 1 1, opt 2 2, opt 3 2, opt 4 1] items = true ∧ fieldNat 1 items = some c.val ∧
    x.high = (fieldInt 2 items).map (fun v => if c.val < 4 then max (-128) (min v 127) else max 0 (min v 255)) ∧
    x.low = (fieldInt 3 items).map (fun v => if c.val < 4 then max (-128) (min v 127) else max 0 (min v 255)) ∧
    x.zone.map (fun z => match z with
      | none => 0
      | some k => k.val + 1) = fieldNat 4 items ∧
    (4 ≤ c.val → x.zone = none)) ∧
  ∀ (s cs : State) (u : Uplink) (e : Envelope) (items : List Item), CommandArrives s u e items →
    cs = commandState s u e →
    (∀ x : ZoneSettings, zoneArgs items = some x → ∃ m : State,
      exec (.setZone u e items) s = .next (commandDone s u e 0x13#16
        { state := m, status := .ok, cause := false
          results := [x.low, x.range, x.limit, x.substitute, x.hysteresis].map (ifCarried be16i) }) ∧
      m.thermal.hysteresis = x.hysteresis.getD s.thermal.hysteresis ∧
      (∀ z : Zone, x.zone = some z → m.zones[z] =
        { temp := if x.substitute.getD s.zones[z].substitute = s.zones[z].substitute then s.zones[z].temp
            else zoneTemp m z
          low := x.low.getD s.zones[z].low, range := x.range.getD s.zones[z].range
          limit := x.limit.getD s.zones[z].limit, substitute := x.substitute.getD s.zones[z].substitute }) ∧
      (∀ z : Zone, x.zone ≠ some z → m.zones[z] = s.zones[z]) ∧
      ThermalHandedOn s m ∧ AlertsGain s m (fun _ => False) ∧
      m = { cs with
        zones := m.zones, thermal := m.thermal, fans := m.fans, fanReservation := m.fanReservation
        mgmt := { cs.mgmt with alerts := m.mgmt.alerts } }) ∧
    ∀ (c : Channel) (x : ChannelSettings), channelArgs items = some (c, x) →
      ∃ m : State,
      exec (.setChannel u e items) s = .next (commandDone s u e 0x17#16
        { state := m, status := .ok, cause := false
          results := [ifCarried be16i x.high, ifCarried be16i x.low, ifCarried zoneMapField x.zone] }) ∧
      m.channels[c] =
        { s.channels[c] with
          high := x.high.getD s.channels[c].high, low := x.low.getD s.channels[c].low
          zone := x.zone.getD s.channels[c].zone } ∧
      (∀ d : Channel, d ≠ c → m.channels[d] = s.channels[d]) ∧
      (m.channels[c].zone = s.channels[c].zone → m.zones = s.zones) ∧
      (m.channels[c].zone ≠ s.channels[c].zone → ZonesRecomputed s m fun z =>
        s.channels[c].zone = some z ∨ m.channels[c].zone = some z) ∧
      ThermalHandedOn s m ∧ AlertsGain s m (fun _ => False) ∧
      m = { cs with
        channels := m.channels, zones := m.zones
        thermal := { s.thermal with overrideOn := m.thermal.overrideOn }, fans := m.fans
        fanReservation := m.fanReservation, mgmt := { cs.mgmt with alerts := m.mgmt.alerts } }

/-- The fan commands: SET_FAN stores what it carries, recomputes the target and settles the duty; SET_FAN_CURVE takes
a curve in its order; SET_FAN_DUTY stores the manual duty, which moves the fan in MANUAL alone. The settle table is
the one of R115, row by row. A SET_FAN without settings changes nothing (R181). With the fields of the three, what is
refused and what is clamped (R113, R114, R126, R181). The places of the stored values in the answer are those of log
10. -/
def Obligations.FanCommandsSettleTheFan : Prop :=
  (∀ (items : List Item) (f : Fan) (x : FanSettings), fanArgs items = some (f, x) ↔
    itemsFit [req 1 1, opt 2 1, opt 3 1, opt 4 1, opt 5 1, opt 6 2, opt 7 1, opt 8 1, opt 9 1, opt 10 1, opt 11 2,
      opt 12 1] items = true ∧
    fieldNat 1 items = some (f.val + 1) ∧
    x.mode.map (fun k => match k with
      | .zone => 0
      | .hottest => 1
      | .full => 2
      | .off => 3
      | .manual => 4) = fieldNat 2 items ∧
    x.zoneSel.map (fun z => z.val + 1) = fieldNat 3 items ∧
    x.zoneSet.map BitVec.toNat = fieldNat 4 items ∧ x.zoneSet ≠ some 0 ∧
    x.below.map (fun k => match k with
      | .stop => 0
      | .min => 1) = fieldNat 5 items ∧
    x.minDuty = (fieldNat 6 items).map (fun v => min v 255) ∧
    x.rampOn.map flagValue = fieldNat 7 items ∧ x.rampN = (fieldNat 8 items).map (fun v => min v 63) ∧
    x.spinOn.map flagValue = fieldNat 9 items ∧ x.spinN = (fieldNat 10 items).map (fun v => min v 31) ∧
    x.minSpeed = (fieldNat 11 items).map (fun v => min v 20000) ∧
    x.pulsesPerRev = (fieldNat 12 items).map (fun v => max 1 (min v 4))) ∧
  (∀ (items : List Item) (f : Fan) (c : Curve), curveArgs items = some (f, c) ↔
    itemsFit [req 1 1, req 2 10] items = true ∧ fieldNat 1 items = some (f.val + 1) ∧
    (fieldOctets 2 items).map (fun o => (List.range 5).map fun k => min (word16At o (2 * k)).toNat 255) =
      some [c.p0, c.p1, c.p2, c.p3, c.p4] ∧
    c.p0 ≤ c.p1 ∧ c.p1 ≤ c.p2 ∧ c.p2 ≤ c.p3 ∧ c.p3 ≤ c.p4) ∧
  (∀ (items : List Item) (f : Fan) (d : Nat), dutyArgs items = some (f, d) ↔
    itemsFit [req 1 1, req 2 2] items = true ∧ fieldNat 1 items = some (f.val + 1) ∧
    (fieldNat 2 items).map (fun v => min v 255) = some d) ∧
  (∀ (s cs : State) (u : Uplink) (e : Envelope) (items : List Item) (f : Fan), CommandArrives s u e items →
    cs = commandState s u e →
    (∀ x : FanSettings, fanArgs items = some (f, x) → ∃ (m : State) (g h : FanRecord),
      exec (.setFan u e items) s = .next (commandDone s u e 0x14#16
        { state := m, status := .ok, results := (fanSettings g).map fun v => [v], cause := false }) ∧
      (x = noFanSettings → m = cs) ∧
      g = { s.fans[f] with
        mode := x.mode.getD s.fans[f].mode, zoneSel := x.zoneSel.getD s.fans[f].zoneSel
        zoneSet := x.zoneSet.getD s.fans[f].zoneSet, below := x.below.getD s.fans[f].below
        minDuty := x.minDuty.getD s.fans[f].minDuty, rampOn := x.rampOn.getD s.fans[f].rampOn
        rampN := x.rampN.getD s.fans[f].rampN, spinOn := x.spinOn.getD s.fans[f].spinOn
        spinN := x.spinN.getD s.fans[f].spinN, minSpeed := x.minSpeed.getD s.fans[f].minSpeed
        pulsesPerRev := x.pulsesPerRev.getD s.fans[f].pulsesPerRev } ∧
      h = settle s.thermal.overrideOn { g with target := targetOf s.zones g } ∧
      (x ≠ noFanSettings → m.fans[f] = { h with power := fanPower s.thermal.overrideOn h } ∧
        m.fanReservation = (allFans.map fun k => m.fans[k].power).sum) ∧
      (∀ k : Fan, k ≠ f → m.fans[k] = s.fans[k]) ∧
      m = { cs with fans := m.fans, fanReservation := m.fanReservation }) ∧
    (∀ c : Curve, curveArgs items = some (f, c) → ∃ m : State,
      c.p0 ≤ c.p1 ∧ c.p1 ≤ c.p2 ∧ c.p2 ≤ c.p3 ∧ c.p3 ≤ c.p4 ∧ c.p4 ≤ 255 ∧
      exec (.setFanCurve u e items) s = .next (commandDone s u e 0x15#16
        { state := m, status := .ok, cause := false
          results := [[[c.p0, c.p1, c.p2, c.p3, c.p4].flatMap be16n]] }) ∧
      m.fans[f] =
        { s.fans[f] with
          curve := c, power := fanPower s.thermal.overrideOn { s.fans[f] with curve := c } } ∧
      (∀ k : Fan, k ≠ f → m.fans[k] = s.fans[k]) ∧
      m = { cs with fans := m.fans, fanReservation := (allFans.map fun k => m.fans[k].power).sum }) ∧
    ∀ d : Nat, dutyArgs items = some (f, d) → ∃ m : State,
      d ≤ 255 ∧
      exec (.setFanDuty u e items) s = .next (commandDone s u e 0x16#16
        { state := m, status := .ok, results := [[be16n d]], cause := false }) ∧
      (s.fans[f].mode ≠ .manual → m = cs.modFan f fun r => { r with manual := d }) ∧
      (s.fans[f].mode = .manual → s.fans[f].target = d → m.fans[f] = { s.fans[f] with manual := d }) ∧
      (s.fans[f].mode = .manual → s.fans[f].target ≠ d → ∃ h : FanRecord,
        h = settle s.thermal.overrideOn { s.fans[f] with manual := d, target := d } ∧
        m.fans[f] = { h with power := fanPower s.thermal.overrideOn h }) ∧
      (s.fans[f].mode = .manual → m.fanReservation = (allFans.map fun k => m.fans[k].power).sum) ∧
      (∀ k : Fan, k ≠ f → m.fans[k] = s.fans[k]) ∧
      m = { cs with fans := m.fans, fanReservation := m.fanReservation }) ∧
  ∀ (r : FanRecord) (overrideOn : Bool),
    (r.mode = .off → settle overrideOn r = { r with actual := 0, spin := .stopped, ramp := .stopped }) ∧
    (r.mode ≠ .off → overrideOn = true →
      settle overrideOn r = { r with actual := 255, spin := .stopped, ramp := .stopped }) ∧
    (r.mode ≠ .off → overrideOn = false →
      (r.spin.isRunning = true →
        (r.target = 0 → settle overrideOn r = { r with actual := 0, spin := .stopped }) ∧
        (r.target ≠ 0 → r.spinOn = false → settle overrideOn r = { r with actual := r.target, spin := .stopped }) ∧
        (r.target ≠ 0 → r.spinOn = true → settle overrideOn r = r)) ∧
      (r.spin.isRunning = false → r.actual = 0 → 0 < r.target →
        (r.spinOn = true → 0 < r.spinN → settle overrideOn r =
          { r with actual := 255, spin := .running (r.spinN * 100), ramp := .stopped }) ∧
        (¬(r.spinOn = true ∧ 0 < r.spinN) → settle overrideOn r = { r with actual := r.target })) ∧
      (r.spin.isRunning = false → (r.actual ≠ 0 ∨ r.target = 0) →
        ((r.mode = .full ∨ r.mode = .manual ∨ r.rampOn = false) →
          settle overrideOn r = { r with actual := r.target, ramp := .stopped }) ∧
        ((r.mode = .zone ∨ r.mode = .hottest) → r.rampOn = true →
          (r.actual ≠ r.target → r.ramp.isRunning = true → settle overrideOn r = r) ∧
          (r.actual ≠ r.target → r.ramp.isRunning = false →
            settle overrideOn r = { r with ramp := .running ((r.rampN + 1) * 10) }) ∧
          (r.actual = r.target → settle overrideOn r = { r with ramp := .stopped }))))

/-- SET_SWEEP makes its full set current in IDLE, with the timer armed, and stages it in a sweep; one that carries
nothing stores nothing (R181). START_SWEEP is a trigger, BUSY and counted as missed in a sweep. STOP_SWEEP ends the
sweep and stops the timer, the staged settings kept. With the fields of SET_SWEEP (R99, R181). The places of the
stored values in the answer are those of log 10. What a SET_SWEEP that carries nothing answers is that of log 15. -/
def Obligations.SweepCommandsDriveTheEngine : Prop :=
  (∀ (items : List Item) (x : SweepArgs), sweepArgs items = some x ↔
    itemsFit [opt 1 1, opt 2 1, opt 3 1, opt 4 2] items = true ∧
    x.mode.map (fun k => match k with
      | .single => 0
      | .repeating => 1) = fieldNat 1 items ∧
    x.mask.map BitVec.toNat = fieldNat 2 items ∧
    x.select.map (fun k => match k with
      | .command => 0
      | .period => 1
      | .change => 2) = fieldNat 3 items ∧
    x.period = (fieldNat 4 items).map (settingSteps 2550)) ∧
  (∀ x : SweepArgs, x.anyCarried = false ↔ x = { mode := none, mask := none, select := none, period := none }) ∧
  ∀ (s cs : State) (u : Uplink) (e : Envelope) (items : List Item), CommandArrives s u e items →
    cs = commandState s u e →
    (∀ (x : SweepArgs) (base full : SweepSettings), sweepArgs items = some x →
      base = s.sweep.staged.getD s.sweep.current →
      full = { mode := x.mode.getD base.mode, mask := x.mask.getD base.mask, select := x.select.getD base.select
               period := x.period.getD base.period } →
      ∃ w : Sweep,
        exec (.setSweep u e items) s = .next (commandDone s u e 0x18#16
          { state := { cs with sweep := w }, status := .ok, cause := false
            results := [[one full.mode.code], [[full.mask]], [one full.select.code], [be16n full.period],
              [flagOctet w.staged.isSome]] }) ∧
        (x.anyCarried = false → w = s.sweep) ∧
        (x.anyCarried = true → s.sweep.engine = .idle →
          w = { s.sweep with
            current := full, staged := none
            periodTimer := if full.select = .period then .running full.period else .stopped }) ∧
        (x.anyCarried = true → s.sweep.engine ≠ .idle → w = { s.sweep with staged := some full })) ∧
    (items = [] →
      (s.sweep.engine = .idle → exec (.startSweep u e items) s = .next (commandDone s u e 0x20#16
        { state := { cs with sweep := match s.sweep.staged with
            | none => { s.sweep with engine := .starting }
            | some w => { s.sweep with
                engine := .starting, current := w, staged := none
                periodTimer := if w.select = .period then .running w.period else .stopped } }
          status := .ok, results := [], cause := false })) ∧
      (s.sweep.engine ≠ .idle → exec (.startSweep u e items) s = .next (commandDone s u e 0x20#16
        { state := { cs with sweep := { s.sweep with missed := s.sweep.missed + 1 } }
          status := .busy, results := [], cause := false })) ∧
      exec (.stopSweep u e items) s = .next (commandDone s u e 0x21#16
        { state := { cs with sweep := { s.sweep with engine := .idle, periodTimer := .stopped } }
          status := .ok, results := [], cause := false }))

/-- SET_UPLINK refuses to leave both management flags clear, and types that are equal or that of flow control; else it
stores what it carries. SET_QUEUE refuses watermarks out of order; else limits are in force at once and watermarks are
in force or, in a congested queue, staged. A limit alone leaves staged watermarks as they are, and types that are not
carried are not checked (log 15). With the fields of both, what is refused and what is clamped (R144, R160, R181).
That the maximum frame length of SET_UPLINK takes two octets is the model's choice (log 21), as is the refusal of a
SET_QUEUE that names no queue (log 15). The places of the stored values in the answer are those of log 10. -/
def Obligations.SetUplinkAndQueueStoreTheirSettings : Prop :=
  (∀ (items : List Item) (u : Uplink) (management : Option Bool) (segment : Option (Option Nat)),
    uplinkArgs items = some (.uplink u management segment) ↔
      itemsFit [opt 1 1, opt 2 1, opt 3 2, opt 4 2, opt 5 2, opt 6 2] items = true ∧
      fieldNat 1 items = some (if u = .A then 1 else 2) ∧ (∀ k ∈ [4, 5, 6], fieldNat k items = none) ∧
      management.map flagValue = fieldNat 2 items ∧ segment.map (fun g => g.getD 0) = fieldNat 3 items ∧
      ∀ id, segment = some (some id) → 1 ≤ id ∧ id ≤ 4094) ∧
  (∀ (items : List Item) (maxLength : Option Nat) (tagType controlType : Option Word16),
    uplinkArgs items = some (.chassis maxLength tagType controlType) ↔
      itemsFit [opt 1 1, opt 2 1, opt 3 2, opt 4 2, opt 5 2, opt 6 2] items = true ∧
      (∀ k ∈ [1, 2, 3], fieldNat k items = none) ∧
      maxLength = (fieldNat 4 items).map (fun v => max 64 (min v 2048)) ∧
      tagType.map BitVec.toNat = fieldNat 5 items ∧ controlType.map BitVec.toNat = fieldNat 6 items) ∧
  (∀ (items : List Item) (u : Uplink) (c : Cls) (limit high low : Option Nat),
    queueArgs items = some (.classQueue u c limit high low) ↔
      itemsFit [opt 1 1, opt 2 1, opt 3 1, opt 4 2, opt 5 2, opt 6 2] items = true ∧
      fieldNat 1 items = some (if u = .A then 1 else 2) ∧ fieldNat 2 items = some c.val ∧ fieldNat 3 items = none ∧
      limit = (fieldNat 4 items).map (fun v => max 8 (min v 256)) ∧ high = fieldNat 5 items ∧ low = fieldNat 6 items) ∧
  (∀ (items : List Item) (i : Slot) (limit : Option Nat), queueArgs items = some (.egress i limit) ↔
    itemsFit [opt 1 1, opt 2 1, opt 3 1, opt 4 2, opt 5 2, opt 6 2] items = true ∧
    (∀ k ∈ [1, 2, 5, 6], fieldNat k items = none) ∧ fieldNat 3 items = some (i.val + 1) ∧
    limit = (fieldNat 4 items).map (fun v => max 4 (min v 64))) ∧
  ∀ (s cs : State) (u : Uplink) (e : Envelope) (items : List Item), CommandArrives s u e items →
    cs = commandState s u e →
    (∀ v management segment, uplinkArgs items = some (.uplink v management segment) →
      (management = some false → (s.uplink (otherUplink v)).management = false →
        exec (.setUplink u e items) s = .next (commandDone s u e 0x19#16
          { state := cs, status := .badValue, results := [], cause := false })) ∧
      (management ≠ some false ∨ (s.uplink (otherUplink v)).management = true →
        exec (.setUplink u e items) s = .next (commandDone s u e 0x19#16
          { state := cs.modUplink v fun r => { r with
              management := management.getD r.management, segment := segment.getD r.segment }
            status := .ok, cause := false
            results := [ifCarried flagOctet management, ifCarried segmentField segment] }))) ∧
    (∀ (maxLength : Option Nat) (tagType controlType : Option Word16) (tt ct : Word16),
      uplinkArgs items = some (.chassis maxLength tagType controlType) →
      tt = tagType.getD s.fwd.tagType → ct = controlType.getD s.fwd.controlType →
      ((tagType ≠ none ∨ controlType ≠ none) → (tt = ct ∨ tt = 0x8808#16 ∨ ct = 0x8808#16) →
        exec (.setUplink u e items) s = .next (commandDone s u e 0x19#16
          { state := cs, status := .badValue, results := [], cause := false })) ∧
      ((tagType = none ∧ controlType = none) ∨ (tt ≠ ct ∧ tt ≠ 0x8808#16 ∧ ct ≠ 0x8808#16) →
        exec (.setUplink u e items) s = .next (commandDone s u e 0x19#16
          { state := { cs with fwd := { s.fwd with
              maxLength := maxLength.getD s.fwd.maxLength, tagType := tt, controlType := ct } }
            status := .ok, cause := false
            results := [[], [], ifCarried be16n maxLength, ifCarried be16 tagType, ifCarried be16 controlType] }))) ∧
    (∀ (v : Uplink) (c : Cls) (limit high low : Option Nat) (q : ClassQueue) (w : Watermarks),
      queueArgs items = some (.classQueue v c limit high low) → q = (s.uplink v).queues[c] →
      w = { high := high.getD (q.staged.getD q.marks).high, low := low.getD (q.staged.getD q.marks).low } →
      (¬(1 ≤ w.low ∧ w.low < w.high ∧ w.high ≤ limit.getD q.limit) →
        exec (.setQueue u e items) s = .next (commandDone s u e 0x1A#16
          { state := cs, status := .badValue, results := [], cause := false })) ∧
      (1 ≤ w.low → w.low < w.high → w.high ≤ limit.getD q.limit → ∃ (m : State) (marks : List (List Octets)),
        exec (.setQueue u e items) s = .next (commandDone s u e 0x1A#16
          { state := m, status := .ok, cause := false
            results := ifCarried be16n limit :: marks ++
              [[flagOctet (m.uplink v).queues[c].staged.isSome]] }) ∧
        ((high ≠ none ∨ low ≠ none) → marks = [[be16n w.high], [be16n w.low]]) ∧
        (high = none → low = none → marks = [[], []]) ∧
        ((high ≠ none ∨ low ≠ none) → q.congested = false →
          m = cs.modClass v c fun q => { q with limit := limit.getD q.limit, marks := w }) ∧
        ((high ≠ none ∨ low ≠ none) → q.congested = true →
          m = cs.modClass v c fun q => { q with limit := limit.getD q.limit, staged := some w }) ∧
        (high = none → low = none → m = cs.modClass v c fun q => { q with limit := limit.getD q.limit }))) ∧
    ∀ (i : Slot) (limit : Option Nat), queueArgs items = some (.egress i limit) →
      exec (.setQueue u e items) s = .next (commandDone s u e 0x1A#16
        { state := cs.modQue i fun q => { q with egressLimit := limit.getD q.egressLimit }
          status := .ok, results := [ifCarried be16n limit], cause := false })

/-- The table commands: SET_CLASS_MAP stores the pairs it carries; LOAD_SEGMENT and LOAD_ADMISSION insert an entry or
replace the one of its key, or are refused FULL; the deletes remove it, or are refused BADVALUE; the default forms of
the admission commands write the default record. With the fields of the five, what is refused and what is clamped (R9,
R142, R143, R181). The places of the stored values in the answer are those of log 10. -/
def Obligations.TableCommandsEditTheirTables : Prop :=
  (∀ (items : List Item) (pairs : List (Fin 8 × Cls)), classMapArgs items = some pairs ↔
    itemsFit [{ number := 1, least := 2, most := 2, required := true, repeatable := true }] items = true ∧
    List.Forall₂ (fun (o : Octets) (p : Fin 8 × Cls) =>
      (octetAt o 0).toNat = p.1.val ∧ p.2.val = min (octetAt o 1).toNat 3) (valuesOf 1 items) pairs ∧
    (pairs.map (·.1)).Nodup) ∧
  (∀ (items : List Item) (g : Segment), segmentArgs items = some g ↔
    itemsFit [req 1 2, req 2 2, req 3 1, req 4 1, req 5 1, opt 6 1] items = true ∧
    fieldNat 1 items = some g.tagId ∧ 1 ≤ g.tagId ∧ g.tagId ≤ 4094 ∧ fieldNat 2 items = some g.members.toNat ∧
    fieldNat 3 items = some (match g.select with
      | .a => 0
      | .b => 1
      | .pairA => 2
      | .pairB => 3) ∧
    fieldNat 4 items = some (match g.action with
      | .forward => 0
      | .drop => 1
      | .trap => 2) ∧
    fieldNat 5 items = some (flagValue g.strict) ∧
    g.override.map Fin.val = (fieldNat 6 items).map (fun v => min v 3)) ∧
  (∀ (items : List Item) (id : Nat), deleteSegmentArgs items = some id ↔
    itemsFit [req 1 2] items = true ∧ fieldNat 1 items = some id) ∧
  (∀ (items : List Item) (k : Option Word16) (g : AdmissionRule), admissionArgs items = some (k, g) ↔
    itemsFit [opt 1 2, req 2 1, req 3 2, req 4 1] items = true ∧ k.map BitVec.toNat = fieldNat 1 items ∧
    fieldNat 2 items = some (if g.action = .allow then 0 else 1) ∧
    (fieldNat 3 items).map (fun v => min v 4000) = some g.maximum ∧
    (fieldNat 4 items).map (fun v => if v = 255 then none else some (min v 3)) = some (g.priority.map Fin.val)) ∧
  (∀ (items : List Item) (k : Option Word16), deleteAdmissionArgs items = some k ↔
    itemsFit [opt 1 2] items = true ∧ k.map BitVec.toNat = fieldNat 1 items) ∧
  ∀ (s cs : State) (u : Uplink) (e : Envelope) (items : List Item), CommandArrives s u e items →
    cs = commandState s u e →
    (∀ pairs : List (Fin 8 × Cls), classMapArgs items = some pairs → ∃ m : Vector Cls 8,
      exec (.setClassMap u e items) s = .next (commandDone s u e 0x1B#16
        { state := { cs with fwd := { s.fwd with classMap := m } }, status := .ok, cause := false
          results := [m.toList.map fun c => one c.val] }) ∧
      ∀ p : Fin 8, m[p] = match pairs.find? (fun q => decide (q.1 = p)) with
        | some q => q.2
        | none => s.fwd.classMap[p]) ∧
    (∀ g : Segment, SegmentsOrdered s → segmentArgs items = some g →
      (s.fwd.segments.length = 32 → (∀ x ∈ s.fwd.segments, x.tagId ≠ g.tagId) →
        exec (.loadSegment u e items) s = .next (commandDone s u e 0x1C#16
          { state := cs, status := .full, results := [], cause := false })) ∧
      (s.fwd.segments.length < 32 ∨ (∃ x ∈ s.fwd.segments, x.tagId = g.tagId) →
        ∃ table : List Segment,
        exec (.loadSegment u e items) s = .next (commandDone s u e 0x1C#16
          { state := { cs with fwd := { s.fwd with segments := table } }, status := .ok
            results := [[segmentEntryField g]], cause := false }) ∧
        ∀ x : Segment, x ∈ table ↔ x = g ∨ (x ∈ s.fwd.segments ∧ x.tagId ≠ g.tagId))) ∧
    (∀ id : Nat, deleteSegmentArgs items = some id →
      ((∀ x ∈ s.fwd.segments, x.tagId ≠ id) →
        exec (.deleteSegment u e items) s = .next (commandDone s u e 0x1D#16
          { state := cs, status := .badValue, results := [], cause := false })) ∧
      ((∃ x ∈ s.fwd.segments, x.tagId = id) →
        exec (.deleteSegment u e items) s = .next (commandDone s u e 0x1D#16
          { state := { cs with fwd := { s.fwd with
              segments := s.fwd.segments.filter fun x => decide (x.tagId ≠ id) } }
            status := .ok, results := [], cause := false }))) ∧
    (∀ g : AdmissionRule, admissionArgs items = some (none, g) →
      exec (.loadAdmission u e items) s = .next (commandDone s u e 0x1E#16
        { state := { cs with admissionDefault := g }, status := .ok, results := [[admissionRuleField g]]
          cause := false })) ∧
    (∀ (k : Word16) (g : AdmissionRule), AdmissionOrdered s → admissionArgs items = some (some k, g) →
      (s.admissionTable.length = 16 → (∀ x ∈ s.admissionTable, x.bladeType ≠ k) →
        exec (.loadAdmission u e items) s = .next (commandDone s u e 0x1E#16
          { state := cs, status := .full, results := [], cause := false })) ∧
      (s.admissionTable.length < 16 ∨ (∃ x ∈ s.admissionTable, x.bladeType = k) →
        ∃ table : List AdmissionEntry,
        exec (.loadAdmission u e items) s = .next (commandDone s u e 0x1E#16
          { state := { cs with admissionTable := table }, status := .ok
            results := [[admissionEntryField { bladeType := k, rule := g }]], cause := false }) ∧
        ∀ x : AdmissionEntry, x ∈ table ↔
          x = { bladeType := k, rule := g } ∨ (x ∈ s.admissionTable ∧ x.bladeType ≠ k))) ∧
    (deleteAdmissionArgs items = some none →
      exec (.deleteAdmission u e items) s = .next (commandDone s u e 0x1F#16
        { state := { cs with admissionDefault := { action := .allow, maximum := 0, priority := none } }
          status := .ok, results := [], cause := false })) ∧
    ∀ k : Word16, deleteAdmissionArgs items = some (some k) →
      ((∀ x ∈ s.admissionTable, x.bladeType ≠ k) →
        exec (.deleteAdmission u e items) s = .next (commandDone s u e 0x1F#16
          { state := cs, status := .badValue, results := [], cause := false })) ∧
      ((∃ x ∈ s.admissionTable, x.bladeType = k) →
        exec (.deleteAdmission u e items) s = .next (commandDone s u e 0x1F#16
          { state := { cs with admissionTable := s.admissionTable.filter fun x => decide (x.bladeType ≠ k) }
            status := .ok, results := [], cause := false }))

/-! ### COMMAND frames: actions -/

/-- SLOT_POWER_ON, SLOT_POWER_OFF and SLOT_KILL by the slot's state: the tables of R88, R89 and R90 whole, and the
start of a graceful shutdown (R85). With the fields of SLOT_POWER_OFF (R181). The SHUTDOWN_REQ has its header from the
moment of the offer (log 9). -/
def Obligations.SlotPowerCommandsFollowTheirTables : Prop :=
  (∀ (items : List Item) (i : Slot) (form : ShutdownForm), powerOffArgs items = some (i, form) ↔
    itemsFit [req 1 1, opt 2 1] items = true ∧ fieldNat 1 items = some (i.val + 1) ∧
    ((fieldNat 2 items = none ∧ form = .off) ∨ fieldNat 2 items = some (match form with
      | .off => 0
      | .eject => 1))) ∧
  ∀ (s cs : State) (u : Uplink) (e : Envelope) (items : List Item) (i : Slot)
    (answer : Word16 → State → Status → Bool → Host.Outcome State Fault Refusal),
    CommandArrives s u e items → cs = commandState s u e →
    (∀ code m status cause, answer code m status cause = .next (commandDone s u e code
      { state := m, status := status, results := [], cause := cause })) →
    (slotField items = some i →
      (s.slotState i = .standby →
        exec (.slotPowerOn u e items) s = answer 0x30#16 (moveTo i .powerWait cs) .ok true ∧
        (moveTo i .powerWait cs).budget.queue =
          insertMain s.priorityOf { slot := i, kind := .main, short := false }
            (s.budget.queue.filter fun q => decide (q.slot ≠ i))) ∧
      (s.slotState i ∈ [.powerWait, .powering, .online] →
        exec (.slotPowerOn u e items) s = answer 0x30#16 cs .ok false) ∧
      (s.slotState i ∈ [.empty, .standbyWait, .announceWait, .unidentified, .denied, .capped, .shuttingDown, .fault] →
        exec (.slotPowerOn u e items) s = answer 0x30#16 cs .badState false) ∧
      (s.slotState i ∈ [.powering, .online, .capped, .shuttingDown] →
        exec (.slotKill u e items) s = answer 0x32#16 (mainOff i .standby cs) .ok true) ∧
      (s.slotState i = .standby → exec (.slotKill u e items) s = answer 0x32#16 cs .ok false) ∧
      (s.slotState i ∈ [.empty, .standbyWait, .announceWait, .unidentified, .denied, .powerWait, .fault] →
        exec (.slotKill u e items) s = answer 0x32#16 cs .badState false)) ∧
    ∀ form : ShutdownForm, powerOffArgs items = some (i, form) →
      (s.slotState i ∈ [.online, .capped] → ∃ m : State,
        exec (.slotPowerOff u e items) s = answer 0x31#16 m .ok false ∧
        m.slot i = { s.slot i with
          adm := { (s.slot i).adm with state := .shuttingDown }
          rail := { (s.slot i).rail with
            reason := some form, shutdown := .running (s.timing.shutdownS * 1000) }
          que := { (s.slot i).que with
            control :=
              replaceOrAppend (shutdownReqFrame s form s.timing.shutdownS) (s.slot i).que.control } } ∧
        (∀ j : Slot, j ≠ i → m.slot j = s.slot j) ∧
        m = { cs with
          slots := m.slots
          budget := { s.budget with queue := s.budget.queue.filter fun q => decide (q.slot ≠ i) } }) ∧
      (s.slotState i ∈ [.shuttingDown, .standby] →
        exec (.slotPowerOff u e items) s = answer 0x31#16 cs .ok false) ∧
      (s.slotState i = .powering →
        exec (.slotPowerOff u e items) s = answer 0x31#16 (mainOff i .standby cs) .ok true) ∧
      (s.slotState i = .powerWait →
        exec (.slotPowerOff u e items) s = answer 0x31#16 (moveTo i .standby cs) .ok true ∧
        (moveTo i .standby cs).budget.queue = s.budget.queue.filter fun q => decide (q.slot ≠ i)) ∧
      (s.slotState i ∈ [.empty, .standbyWait, .announceWait, .unidentified, .denied, .fault] →
        exec (.slotPowerOff u e items) s = answer 0x31#16 cs .badState false)

/-- SLOT_ADMIT in DENIED and UNIDENTIFIED: the manager's pair becomes the effective pair, the policy decides the
state, an ADMIT_RESULT is offered. SLOT_RELEASE in FAULT by the policy, in UNIDENTIFIED to ANNOUNCE_WAIT with a full
window. Every other state is BADSTATE. With the fields of SLOT_ADMIT and the clamps of its pair (R18, R181). The place
of the pair in the answer is that of log 10, and the ADMIT_RESULT has its header from the moment of the offer (log 9).
-/
def Obligations.AdmitAndReleaseFollowTheSlotState : Prop :=
  (∀ (items : List Item) (i : Slot) (pair : PowerPair), slotAdmitArgs items = some (i, pair) ↔
    itemsFit [req 1 1, req 2 2, req 3 2] items = true ∧ fieldNat 1 items = some (i.val + 1) ∧
    ∃ r f : Nat, fieldNat 2 items = some r ∧ fieldNat 3 items = some f ∧ r ≠ 0 ∧
      pair = { requested := min r 4000, floor := min f (min r 4000) }) ∧
  ∀ (s cs : State) (u : Uplink) (e : Envelope) (items : List Item) (i : Slot) (target : SlotState)
    (answer : Word16 → State → Status → List (List Octets) → Bool → Host.Outcome State Fault Refusal),
    CommandArrives s u e items → cs = commandState s u e →
    (∀ code m status results cause, answer code m status results cause = .next (commandDone s u e code
      { state := m, status := status, results := results, cause := cause })) →
    target = (if (s.slot i).adm.policy = .manual then .standby else .powerWait) →
    (∀ pair : PowerPair, slotAdmitArgs items = some (i, pair) →
      pair.floor ≤ pair.requested ∧ 1 ≤ pair.requested ∧ pair.requested ≤ 4000 ∧
      (s.slotState i ∈ [.denied, .unidentified] → ∃ m : State,
        exec (.slotAdmit u e items) s = answer 0x33#16 m .ok [[pairField pair]] (decide (target = .powerWait)) ∧
        m.slot i = { s.slot i with
          adm := { (s.slot i).adm with state := target }
          inv := { (s.slot i).inv with effectivePair := some pair, clamped := false, lastOutcome := .allowed }
          que := { (s.slot i).que with
            control := replaceOrAppend (admitResultFrame s false pair) (s.slot i).que.control } } ∧
        (∀ j : Slot, j ≠ i → m.slot j = s.slot j) ∧
        m.budget.queue = (moveTo i target s).budget.queue ∧
        m = { cs with slots := m.slots, budget := { s.budget with queue := m.budget.queue } }) ∧
      (s.slotState i ∉ [.denied, .unidentified] →
        exec (.slotAdmit u e items) s = answer 0x33#16 cs .badState [] false)) ∧
    (slotField items = some i →
      (s.slotState i = .fault →
        exec (.slotRelease u e items) s =
          answer 0x34#16 (moveTo i target cs) .ok [] (decide (target = .powerWait))) ∧
      (s.slotState i = .unidentified → ∃ m : State,
        exec (.slotRelease u e items) s = answer 0x34#16 m .ok [] false ∧
        m.slot i = { s.slot i with
          adm := { (s.slot i).adm with
            state := .announceWait, announceWindow := .running (s.timing.announceWindowS * 1000) } } ∧
        (∀ j : Slot, j ≠ i → m.slot j = s.slot j) ∧
        m = { cs with
          slots := m.slots
          budget := { s.budget with queue := s.budget.queue.filter fun q => decide (q.slot ≠ i) } }) ∧
      (s.slotState i ∉ [.fault, .unidentified] →
        exec (.slotRelease u e items) s = answer 0x34#16 cs .badState [] false))

/-- INJECT offers its frame to the egress queue of a slot in ONLINE or CAPPED, FULL where it is refused. CLEAR_ALERTS
removes the pairs it lists, or all. CLEAR_COUNTERS zeroes the counters. RESTART releases the flagged slots, empties
every queue, control list, counter and the alert set, ends a sweep, and keeps the rest (R159, R172). With the fields
of INJECT and CLEAR_ALERTS (R145, R170, R181). The places of the answered pairs are those of log 10. -/
def Obligations.InjectClearAndRestart : Prop :=
  (∀ (items : List Item) (i : Slot) (o : Octets), injectArgs items = some (i, o) ↔
    itemsFit [req 1 1, { number := 2, least := 60, most := 1996, required := true }] items = true ∧
    fieldNat 1 items = some (i.val + 1) ∧ fieldOctets 2 items = some o) ∧
  (∀ (items : List Item) (pairs : Option (List Alert)), clearAlertsArgs items = some pairs ↔
    itemsFit [{ number := 1, least := 2, most := 2, repeatable := true }, opt 2 0] items = true ∧
    (pairs = none → valuesOf 1 items = [] ∧ valuesOf 2 items ≠ []) ∧
    ∀ l, pairs = some l → valuesOf 1 items ≠ [] ∧ valuesOf 2 items = [] ∧
      List.Forall₂ (fun (o : Octets) (a : Alert) => (octetAt o 0).toNat = a.kind.code ∧
        (octetAt o 1).toNat = a.index ∧ a.kind.admitsIndex a.index = true) (valuesOf 1 items) l) ∧
  ∀ (s cs : State) (u : Uplink) (e : Envelope) (items : List Item), CommandArrives s u e items →
    cs = commandState s u e →
    (∀ (i : Slot) (o : Octets), injectArgs items = some (i, o) →
      60 ≤ o.length ∧ o.length ≤ 1996 ∧
      ((s.slotState i = .online ∨ s.slotState i = .capped) →
        (∀ t, offerEgress i { octets := o, fcs := none } cs = some t →
          exec (.inject u e items) s = .next (commandDone s u e 0x40#16
            { state := t, status := .ok, results := [], cause := false })) ∧
        (offerEgress i { octets := o, fcs := none } cs = none →
          exec (.inject u e items) s = .next (commandDone s u e 0x40#16
            { state := cs, status := .full, results := [], cause := false }))) ∧
      (s.slotState i ≠ .online → s.slotState i ≠ .capped →
        exec (.inject u e items) s = .next (commandDone s u e 0x40#16
          { state := cs, status := .badState, results := [], cause := false }))) ∧
    (∀ pairs : Option (List Alert), clearAlertsArgs items = some pairs →
      ∃ left : List Alert,
      exec (.clearAlerts u e items) s = .next (commandDone s u e 0x41#16
        { state := { cs with mgmt := { cs.mgmt with alerts := left } }, status := .ok
          results := [left.map fun a => [octet a.kind.code, octet a.index]], cause := false }) ∧
      (pairs = none → left = []) ∧
      ∀ l, pairs = some l → left = s.mgmt.alerts.filter fun a => decide (a ∉ l)) ∧
    (items = [] → exec (.clearCounters u e items) s = .next (commandDone s u e 0x42#16
      { state := { cs with
          counters := Vector.replicate 18 { received := 0, drops := Vector.replicate 12 0 }
          sweep := { s.sweep with missed := 0 } }
        status := .ok, results := [], cause := false })) ∧
    (items = [] → ∃ m : State,
      exec (.restart u e items) s = .next (commandDone s u e 0x43#16
        { state := m, status := .ok, results := [], cause := false }) ∧
      (∀ i : Slot, m.slot i = { s.slot i with
        que := { (s.slot i).que with
          egress := [], control := [], backpressure := false
          refresh := if (s.slot i).que.backpressure = true then .stopped else (s.slot i).que.refresh
          pendingPause :=
            if (s.slot i).que.backpressure = true then some 0 else (s.slot i).que.pendingPause } }) ∧
      (∀ (v : Uplink) (c : Cls), (m.uplink v).queues[c] =
        { (s.uplink v).queues[c] with
          entries := [], congested := false, held := 0, staged := none
          marks := (s.uplink v).queues[c].staged.getD (s.uplink v).queues[c].marks }) ∧
      (∀ v : Uplink, { m.uplink v with queues := (s.uplink v).queues } = s.uplink v) ∧
      m.freeCells = s.freeCells + trapCells s.trapQueue +
        (allSlots.map fun i => frameCells (s.slot i).que.egress).sum +
        (allUplinks.map fun v => (allClasses.map fun c => entryCells (s.uplink v).queues[c].entries).sum).sum ∧
      m = { cs with
        slots := m.slots, uplinkA := m.uplinkA, uplinkB := m.uplinkB, freeCells := m.freeCells, trapQueue := []
        counters := Vector.replicate 18 { received := 0, drops := Vector.replicate 12 0 }
        mgmt := { cs.mgmt with alerts := [] }, sweep := { s.sweep with engine := .idle, missed := 0 } })

/-! ### The budget -/

/-- Step 3 of an evaluation: the head of the queue is granted under its conditions, the rest is judged again, and a
head that waits stops all behind it; a main head found short for the first time is marked and raises BUDGET_SHORT. As
many grants as the queue is long are enough (log 20). With what each grant changes, and where a request enters the
queue: a standby request behind every standby request, a main request behind every request of the same or better
priority. With H (R49), the commitment of a slot (R48) and its effective powers. That the fans are settled before the
override is evaluated is the model's choice (log 13). -/
def Obligations.GrantsServeTheHeadOfTheQueue : Prop :=
  (∀ s : State, headroom s = (s.supply.capacity : Int) - s.fanReservation - (commitments s : Int) ∧
    commitments s = (allSlots.map fun i => (s.slot i).bud.standbyW + (s.slot i).bud.mainW).sum) ∧
  (∀ r : SlotRecord, commitment r = r.bud.standbyW + r.bud.mainW ∧
    ∀ p, r.inv.effectivePair = some p → effectiveRequested r = p.requested ∧ effectiveFloor r = p.floor) ∧
  (∀ (e : Request) (before after : List Request), (∀ x ∈ before, x.kind = .standby) → (∀ x ∈ after, x.kind = .main) →
    insertStandby e (before ++ after) = before ++ e :: after) ∧
  (∀ (p : Slot → Fin 4) (e : Request) (before after : List Request),
    (∀ x ∈ before, x.kind = .standby ∨ p x.slot ≤ p e.slot) →
    (∀ x ∈ after, x.kind = .main ∧ p e.slot < p x.slot) →
    insertMain p e (before ++ after) = before ++ e :: after) ∧
  (∀ (n : Nat) (s : State), s.budget.queue.length ≤ n → grants n s = grants s.budget.queue.length s) ∧
  (∀ (n : Nat) (s : State), s.budget.queue = [] → grants n s = s) ∧
  (∀ (n : Nat) (x : Request) (rest : List Request) (s : State), s.budget.queue = x :: rest →
    (x.kind = .standby →
      (1 ≤ s.budget.allowance → (s.budget.allowance : Int) ≤ headroom s →
        grants (n + 1) s = grants n (grantStandby x.slot s)) ∧
      (¬(1 ≤ s.budget.allowance ∧ (s.budget.allowance : Int) ≤ headroom s) → grants (n + 1) s = s)) ∧
    (x.kind = .main →
      ((∀ i : Slot, (s.slot i).bud.capped = false) → s.supply.brownout = false →
        s.budget.lanesInUse < s.budget.laneCount → (effectiveRequested (s.slot x.slot) : Int) ≤ headroom s →
        grants (n + 1) s = grants n (grantMain x.slot s)) ∧
      (¬((∀ i : Slot, (s.slot i).bud.capped = false) ∧ s.supply.brownout = false ∧
        s.budget.lanesInUse < s.budget.laneCount ∧ (effectiveRequested (s.slot x.slot) : Int) ≤ headroom s) →
        ((effectiveRequested (s.slot x.slot) : Int) ≤ headroom s ∨ x.short = true → grants (n + 1) s = s) ∧
        (headroom s < effectiveRequested (s.slot x.slot) → x.short = false →
          grants (n + 1) s = raiseChassis .budgetShort
            { s with budget := { s.budget with queue := { x with short := true } :: rest } })))) ∧
  (∀ (i : Slot) (s : State),
    (grantStandby i s).slot i = { s.slot i with
      adm := { (s.slot i).adm with
        state := .announceWait, announceWindow := .running (s.timing.announceWindowS * 1000) }
      bud := { (s.slot i).bud with standbyW := s.budget.allowance }
      rail := { (s.slot i).rail with standbyRail := true } } ∧
    (∀ j : Slot, j ≠ i → (grantStandby i s).slot j = s.slot j) ∧
    grantStandby i s = { s with
      slots := (grantStandby i s).slots
      budget := { s.budget with queue := s.budget.queue.filter fun q => decide (q.slot ≠ i) } }) ∧
  ∀ (i : Slot) (s : State),
    (grantMain i s).slot i = { s.slot i with
      adm := { (s.slot i).adm with state := .powering }
      bud := { (s.slot i).bud with
        mainW := effectiveRequested (s.slot i), grantW := effectiveRequested (s.slot i) }
      rail := { (s.slot i).rail with
        mainRail := true, resetAsserted := true
        stage := if (s.slot i).rail.powerGood = true then .resetHold else .railUp
        powerGoodTimer :=
          if (s.slot i).rail.powerGood = true then .stopped else .running s.timing.powerGoodTimeout
        resetHold :=
          if (s.slot i).rail.powerGood = true then .running s.timing.resetHold
          else (s.slot i).rail.resetHold } } ∧
    (∀ j : Slot, j ≠ i → (grantMain i s).slot j = s.slot j) ∧
    (grantMain i s).budget =
      { s.budget with
        queue := s.budget.queue.filter fun q => decide (q.slot ≠ i), lanesInUse := s.budget.lanesInUse + 1 } ∧
    ZonesRecomputed s (grantMain i s) (fun z => z = (s.slot i).adm.zone) ∧ ThermalHandedOn s (grantMain i s) ∧
    AlertsGain s (grantMain i s) (fun _ => False) ∧
    grantMain i s =
      { s with
        slots := (grantMain i s).slots, budget := (grantMain i s).budget, zones := (grantMain i s).zones
        thermal := { s.thermal with overrideOn := (grantMain i s).thermal.overrideOn }
        fans := (grantMain i s).fans, fanReservation := (grantMain i s).fanReservation
        mgmt := { s.mgmt with alerts := (grantMain i s).mgmt.alerts } }

/-- Shedding takes, while H is below 0, the cap candidate of the worst priority; with no candidate left the highest
slot in POWERING; then the main-powered slot of the worst priority; then the slot of the worst priority that holds
standby alone; and stops when nothing is left (R58, R60, R62, R63). Restore, while no brownout holds, uncaps the
capped slot of the best priority if H covers its difference and the margin, and stops at the first that does not fit
(R64). The bounds of the two loops are enough (log 20). What a cap, an uncap, a power-off and a standby cut do. CAP
and UNCAP have their headers from the moment of the offer (log 9). -/
def Obligations.ShedAndRestoreActOnTheirSlots : Prop :=
  (∀ r : SlotRecord,
    (capCandidate r = true ↔
      (r.adm.state = .online ∨ (r.adm.state = .shuttingDown ∧ r.bud.capped = false)) ∧ effectiveFloor r < r.bud.mainW) ∧
    (isPowering r = true ↔ r.adm.state = .powering) ∧
    (isMainPowered r = true ↔ r.adm.state ∈ [.powering, .online, .capped, .shuttingDown]) ∧
    (isStandbyOnly r = true ↔
      r.adm.state ∈ [.announceWait, .unidentified, .denied, .standby, .powerWait, .fault]) ∧
    (isCapped r = true ↔ r.bud.capped = true)) ∧
  (∀ (s : State) (p : SlotRecord → Bool),
    (pickWorst s p = none ↔ ∀ i : Slot, p (s.slot i) = false) ∧
    (pickBest s p = none ↔ ∀ i : Slot, p (s.slot i) = false) ∧
    (pickHighest s p = none ↔ ∀ i : Slot, p (s.slot i) = false)) ∧
  (∀ s : State,
    (∀ i, pickWorst s capCandidate = some i → shedOne s = some (capSlot i s)) ∧
    ((∀ i : Slot, capCandidate (s.slot i) = false) →
      (∀ i, pickHighest s isPowering = some i → shedOne s = some (powerOff i s)) ∧
      ((∀ i : Slot, s.slotState i ≠ .powering) →
        (∀ i, pickWorst s isMainPowered = some i → shedOne s = some (powerOff i s)) ∧
        ((∀ i : Slot, isMainPowered (s.slot i) = false) →
          (∀ i, pickWorst s isStandbyOnly = some i → shedOne s = some (standbyCut i s)) ∧
          ((∀ i : Slot, isStandbyOnly (s.slot i) = false) → shedOne s = none))))) ∧
  (∀ (n : Nat) (s : State),
    (0 ≤ headroom s → shed (n + 1) s = s) ∧ (headroom s < 0 → shedOne s = none → shed (n + 1) s = s) ∧
    (∀ t, headroom s < 0 → shedOne s = some t → shed (n + 1) s = shed n t) ∧
    (48 ≤ n → shed n s = shed 48 s) ∧ (0 ≤ headroom (shed 48 s) ∨ shedOne (shed 48 s) = none)) ∧
  (∀ (n : Nat) (s : State),
    (s.supply.brownout = true ∨ (∀ i : Slot, (s.slot i).bud.capped = false) → restore (n + 1) s = s) ∧
    (∀ i, s.supply.brownout = false → pickBest s isCapped = some i →
      ((s.slot i).bud.grantW - (s.slot i).bud.mainW + s.budget.margin ≤ headroom s →
        restore (n + 1) s = restore n (uncapSlot i s)) ∧
      (headroom s < (s.slot i).bud.grantW - (s.slot i).bud.mainW + s.budget.margin → restore (n + 1) s = s)) ∧
    (16 ≤ n → restore n s = restore 16 s)) ∧
  (∀ (s : State) (p : SlotRecord → Bool) (i : Slot), pickWorst s p = some i ↔ p (s.slot i) = true ∧
    ∀ j : Slot, p (s.slot j) = true →
      s.priorityOf j < s.priorityOf i ∨ (s.priorityOf j = s.priorityOf i ∧ j ≤ i)) ∧
  (∀ (s : State) (p : SlotRecord → Bool) (i : Slot), pickBest s p = some i ↔ p (s.slot i) = true ∧
    ∀ j : Slot, p (s.slot j) = true →
      s.priorityOf i < s.priorityOf j ∨ (s.priorityOf j = s.priorityOf i ∧ i ≤ j)) ∧
  (∀ (s : State) (p : SlotRecord → Bool) (i : Slot), pickHighest s p = some i ↔ p (s.slot i) = true ∧
    ∀ j : Slot, p (s.slot j) = true → j ≤ i) ∧
  (∀ (i : Slot) (s : State), s.slotState i = .online ∨ s.slotState i = .shuttingDown →
    (capSlot i s).slot i = { s.slot i with
      adm := { (s.slot i).adm with
        state := if s.slotState i = .online then .capped else .shuttingDown }
      bud := { (s.slot i).bud with
        mainW := effectiveFloor (s.slot i), capped := true, capSeq := (s.slot i).bud.capSeq + 1
        capAck := .running (s.timing.capAckS * 1000) }
      que := offerControlPart (capFrame s ((s.slot i).bud.capSeq + 1) (effectiveFloor (s.slot i)))
        (s.slot i).que } ∧
    (∀ j : Slot, j ≠ i → (capSlot i s).slot j = s.slot j) ∧
    (∀ a : Alert, a ∈ (capSlot i s).mgmt.alerts ↔ a = { kind := .shed, index := 0 } ∨ a ∈ s.mgmt.alerts) ∧
    headroom (capSlot i s) = headroom s + (s.slot i).bud.mainW - effectiveFloor (s.slot i) ∧
    capSlot i s = { s with
      slots := (capSlot i s).slots, mgmt := { s.mgmt with alerts := (capSlot i s).mgmt.alerts }
      budget := { s.budget with
        queue :=
          if s.slotState i = .online then s.budget.queue.filter fun q => decide (q.slot ≠ i)
          else s.budget.queue } }) ∧
  (∀ (i : Slot) (s : State), s.slotState i = .capped ∨ s.slotState i = .shuttingDown →
    (uncapSlot i s).slot i = { s.slot i with
      adm := { (s.slot i).adm with
        state := if s.slotState i = .capped then .online else .shuttingDown }
      bud := { (s.slot i).bud with mainW := (s.slot i).bud.grantW, capped := false, capAck := .stopped }
      que := offerControlPart (uncapFrame s (s.slot i).bud.capSeq (s.slot i).bud.grantW) (s.slot i).que } ∧
    (∀ j : Slot, j ≠ i → (uncapSlot i s).slot j = s.slot j) ∧
    headroom (uncapSlot i s) = headroom s + (s.slot i).bud.mainW - (s.slot i).bud.grantW ∧
    uncapSlot i s = { s with
      slots := (uncapSlot i s).slots
      budget := { s.budget with
        queue :=
          if s.slotState i = .capped then s.budget.queue.filter fun q => decide (q.slot ≠ i)
          else s.budget.queue } }) ∧
  (∀ (i : Slot) (s : State),
    powerOff i s = { mainOff i .powerWait s with
      mgmt := { s.mgmt with alerts := (powerOff i s).mgmt.alerts } } ∧
    ∀ a : Alert, a ∈ (powerOff i s).mgmt.alerts ↔
      a = { kind := .shed, index := 0 } ∨ a ∈ (mainOff i .powerWait s).mgmt.alerts) ∧
  ∀ (i : Slot) (s : State),
    (standbyCut i s).slot i =
      { s.slot i with
        adm := { (s.slot i).adm with state := .standbyWait, announceWindow := .stopped }
        inv := { (s.slot i).inv with addresses := (s.slot i).inv.addresses.map fun a =>
          { a with status := if a.status = .entered then .released else a.status } }
        bud := { (s.slot i).bud with standbyW := 0 }
        rail := { (s.slot i).rail with standbyRail := false }
        tel := { readings := Vector.replicate 8 none, stale := false, staleTimer := .stopped }
        que := { (s.slot i).que with
          egress := [], control := [], backpressure := false, refresh := .stopped, pendingPause := none
          marker := none } } ∧
    (∀ j : Slot, j ≠ i → (standbyCut i s).slot j = s.slot j) ∧
    (standbyCut i s).stations = s.stations.filter (fun e => decide (e.owner ≠ i)) ∧
    (standbyCut i s).freeCells = s.freeCells + frameCells (s.slot i).que.egress ∧
    (standbyCut i s).budget.queue = insertStandby { slot := i, kind := .standby, short := false }
      (s.budget.queue.filter fun q => decide (q.slot ≠ i)) ∧
    headroom (standbyCut i s) = headroom s + (s.slot i).bud.standbyW ∧
    (∀ a : Alert, a ∈ (standbyCut i s).mgmt.alerts ↔ a = { kind := .shed, index := 0 } ∨ a ∈ s.mgmt.alerts) ∧
    standbyCut i s = { s with
      slots := (standbyCut i s).slots, stations := (standbyCut i s).stations, freeCells := (standbyCut i s).freeCells
      budget := { s.budget with queue := (standbyCut i s).budget.queue }
      mgmt := { s.mgmt with alerts := (standbyCut i s).mgmt.alerts } }

/-! ### The end of an event -/

/-- The end of an event: the evaluation where it is due, the NOTICE, a command's RESPONSE, and the transmissions that
begin, in that order; that `beginAll` comes last and once is the model's DEDUCED choice of log 7. It keeps every setting,
the lines and filters, the inventory but for address statuses, the supply, the sweep, the channels, the uplinks but for
their frames and congestion, the counters, the segment tables and the trap queue; a command's RESPONSE changes the
counters too. An evaluation is made exactly where a rule asks for it or F or the capacity moved, and is shedding, restore,
grants and, where H is below 0 when the grants end, shedding again (R50). A RESPONSE carries the code, the status and the
items numbered by result, in as many frames as its items need (R165, R182); how full each frame is packed is the model's
choice (log 10). -/
def Obligations.TheEndOfAnEventKeepsTheSettings : Prop :=
  (∀ (s m : State) (cause : Bool), EventKeeps m (close s m cause) ∧
    close s m cause = beginAll (sendNotice s (evaluateIfDue s m cause))) ∧
  (∀ (s : State) (u : Uplink) (e : Envelope) (code : Word16) (a : Answer),
    EventKeeps a.state { commandDone s u e code a with counters := a.state.counters } ∧
    commandDone s u e code a =
      beginAll (respond { uplink := u, source := e.source, sequence := e.sequence, code := code } a.status a.results
        (sendNotice (commandState s u e) (evaluateIfDue (commandState s u e) a.state a.cause)))) ∧
  (∀ (s m : State) (cause : Bool),
    (cause = true ∨ m.fanReservation ≠ s.fanReservation ∨ m.supply.capacity ≠ s.supply.capacity →
      evaluateIfDue s m cause = evaluate m) ∧
    (cause = false → m.fanReservation = s.fanReservation → m.supply.capacity = s.supply.capacity →
      evaluateIfDue s m cause = m)) ∧
  (∀ s a b : State, a = restore 16 (shed 48 s) → b = grants a.budget.queue.length a →
    (0 ≤ headroom b → evaluate s = b) ∧ (headroom b < 0 → evaluate s = shed 48 b)) ∧
  (∀ (o : Origin) (status : Status) (results : List (List Octets)) (s : State),
    respond o status results s =
      (packItems [] (resultItems 1 results)).foldl (fun t body => offerResponse o status body t) s) ∧
  (∀ (o : Origin) (status : Status) (items : Octets) (s : State) (q : QueueEntry) (code : Byte),
    code = (match status with
      | .ok => 0
      | .busy => 1
      | .badState => 2
      | .badValue => 3
      | .full => 4
      | .unknown => 5) →
    q = { frame :=
            { octets := s.buildControl o.source 0x22#8 o.sequence (be16 o.code ++ [code] ++ items), fcs := none }
          source := none } →
    (∀ t, offerClass o.uplink 0 q s = some t → offerResponse o status items s = t) ∧
    (offerClass o.uplink 0 q s = none → offerResponse o status items s = drop (.uplink o.uplink) .respDrop s)) ∧
  (∀ (n : Nat) (values : List Octets) (rest : List (List Octets)), resultItems n [] = [] ∧
    resultItems n (values :: rest) =
      values.map (fun v => [octet n] ++ be16n v.length ++ v) ++ resultItems (n + 1) rest) ∧
  ∀ items : List Octets,
    (items.flatten.length ≤ 2003 → packItems [] items = [items.flatten]) ∧
    (packItems [] items).flatten = items.flatten ∧
    (∃ groups : List (List Octets), groups.flatten = items ∧ packItems [] items = groups.map List.flatten) ∧
    ((∀ v ∈ items, v.length ≤ 2003) → ∀ body ∈ packItems [] items, body.length ≤ 2003)

/-- One NOTICE at the end of an event that added an alert, where a destination exists and class 0 of its uplink admits
it; it takes the notice number and the number goes up. Otherwise nothing is sent and the number stays. With what a
raise does to the alert set (R168), and the codes and indexes of the kinds (R163, R181). -/
def Obligations.OneNoticeForAnEventThatAddsAlerts : Prop :=
  (∀ (k : AlertKind) (i : Slot) (s : State),
    (∀ a : Alert, a ∈ (raiseSlot k i s).mgmt.alerts ↔ a = { kind := k, index := i.val + 1 } ∨ a ∈ s.mgmt.alerts) ∧
    (∀ a : Alert, a ∈ (raiseChassis k s).mgmt.alerts ↔ a = { kind := k, index := 0 } ∨ a ∈ s.mgmt.alerts) ∧
    raiseSlot k i s = { s with mgmt := { s.mgmt with alerts := (raiseSlot k i s).mgmt.alerts } } ∧
    raiseChassis k s = { s with mgmt := { s.mgmt with alerts := (raiseChassis k s).mgmt.alerts } } ∧
    ({ kind := k, index := i.val + 1 } ∈ s.mgmt.alerts → raiseSlot k i s = s) ∧
    ({ kind := k, index := 0 } ∈ s.mgmt.alerts → raiseChassis k s = s)) ∧
  ([.insert, .remove, .fault, .attention, .capTimeout, .shutdownTimeout, .addrConflict, .budgetShort, .shed, .brownout,
    .supplyChange, .override, .localLimit, .stall] : List AlertKind).map (·.code) =
      [1, 2, 3, 4, 5, 6, 7, 8, 9, 10, 11, 12, 13, 14] ∧
  (∀ (k : AlertKind) (n : Nat), k.admitsIndex n = true ↔
    (k.code ≤ 7 ∧ 1 ≤ n ∧ n ≤ 16) ∨ (8 ≤ k.code ∧ k.code ≤ 12 ∧ n = 0) ∨ (k.code = 13 ∧ n ≤ 7) ∨
      (k.code = 14 ∧ 1 ≤ n ∧ n ≤ 6)) ∧
  ∀ (s m : State) (a : Station) (u : Uplink) (q : QueueEntry),
    q = { frame :=
            { octets := m.buildControl a 0x23#8 m.mgmt.notice
                (octet m.mgmt.alerts.length :: m.mgmt.alerts.flatMap fun x => [octet x.kind.code, octet x.index])
              fcs := none }
          source := none } →
    ((∀ x ∈ m.mgmt.alerts, x ∈ s.mgmt.alerts) → sendNotice s m = m) ∧
    (m.mgmt.destination = none → sendNotice s m = m) ∧
    (m.mgmt.destination = some (a, u) → offerClass u 0 q m = none → sendNotice s m = m) ∧
    (∀ t, (∃ x ∈ m.mgmt.alerts, x ∉ s.mgmt.alerts) → m.mgmt.destination = some (a, u) →
      offerClass u 0 q m = some t →
      sendNotice s m = { t with mgmt := { m.mgmt with notice := m.mgmt.notice + 1 } })

/-! ### Queues -/

/-- R149's conditions for each queue; an admitted frame stands at the tail with its cells taken, and a refusal changes
nothing. The class queue's watermark test is a statement of its own. With the occupancy of a queue, its frame in
flight counted (R147). -/
def Obligations.QueuesAdmitByTheirConditions : Prop :=
  (∀ (r : UplinkRecord) (c : Cls),
    (∀ f, r.flight = some f → f.cls = c → r.held c = f.entry :: r.queues[c].entries) ∧
    ((∀ f, r.flight = some f → f.cls ≠ c) → r.held c = r.queues[c].entries) ∧
    r.occupancy c = ((r.held c).map fun x => x.frame.cells).sum) ∧
  (∀ q : QueuePart,
    (∀ f, q.flight = some f → f.fromEgress = true →
      q.occupancy = f.frame.cells + (q.egress.map fun x => x.cells).sum) ∧
    ((∀ f, q.flight = some f → f.fromEgress = false) → q.occupancy = (q.egress.map fun x => x.cells).sum)) ∧
  (∀ (u : Uplink) (c : Cls) (x : QueueEntry) (s : State),
    ((s.uplink u).linkUp = true → x.frame.cells ≤ s.freeCells →
      (s.uplink u).occupancy c + x.frame.cells ≤ (s.uplink u).queues[c].limit →
      offerClass u c x s = some (upwardTest u c x.source
        ({ s with freeCells := s.freeCells - x.frame.cells }.modClass u c fun q =>
          { q with entries := q.entries ++ [x] }))) ∧
    (¬((s.uplink u).linkUp = true ∧ x.frame.cells ≤ s.freeCells ∧
      (s.uplink u).occupancy c + x.frame.cells ≤ (s.uplink u).queues[c].limit) → offerClass u c x s = none)) ∧
  (∀ (i : Slot) (f : Frame) (s : State),
    (f.cells ≤ s.freeCells → (s.slot i).que.occupancy + f.cells ≤ (s.slot i).que.egressLimit →
      offerEgress i f s = some ({ s with freeCells := s.freeCells - f.cells }.modQue i fun q =>
        { q with egress := q.egress ++ [f] })) ∧
    (¬(f.cells ≤ s.freeCells ∧ (s.slot i).que.occupancy + f.cells ≤ (s.slot i).que.egressLimit) →
      offerEgress i f s = none)) ∧
  (∀ (x : TrapEntry) (s : State),
    (s.trapQueue.length < 16 → x.frame.length ≤ 2000 → x.frame.cells ≤ s.freeCells →
      offerTrap x s =
        some { s with freeCells := s.freeCells - x.frame.cells, trapQueue := s.trapQueue ++ [x] }) ∧
    (¬(s.trapQueue.length < 16 ∧ x.frame.length ≤ 2000 ∧ x.frame.cells ≤ s.freeCells) →
      offerTrap x s = none)) ∧
  ∀ (f : Frame) (k : Nat), f.cells ≤ k ↔ f.octets.length + 4 ≤ 128 * k

/-- R153: the upward crossing forms the held set and pauses its slots; an admission to a congested queue adds and
pauses its source; the downward crossing ends the congestion and releases the slots that no queue holds any more. With
the pause of a slot, and when some queue holds it. -/
def Obligations.WatermarksPauseAndRelease : Prop :=
  (∀ (i : Slot) (s : State),
    ((s.slot i).que.backpressure = true → pauseSlot i s = s) ∧
    ((s.slot i).que.backpressure = false → pauseSlot i s = s.modQue i fun q => { q with
      backpressure := true, pendingPause := some (s.slot i).adm.quanta
      refresh := .running (refreshLength (s.slot i).adm.quanta) }) ∧
    (heldAnywhere s i = true ↔ ∃ (u : Uplink) (c : Cls), inSlotSet (s.uplink u).queues[c].held i = true)) ∧
  (∀ (u : Uplink) (c : Cls) (source : Option Slot) (s : State), (s.uplink u).queues[c].congested = false →
    ((s.uplink u).occupancy c ≤ (s.uplink u).queues[c].marks.high → upwardTest u c source s = s) ∧
    ((s.uplink u).queues[c].marks.high < (s.uplink u).occupancy c → ∃ held : SlotSet,
      (∀ i : Slot, inSlotSet held i = true ↔ ∃ x ∈ (s.uplink u).held c, x.source = some i) ∧
      (∀ i : Slot,
        (inSlotSet held i = true → (s.slot i).que.backpressure = false →
          (upwardTest u c source s).slot i = { s.slot i with que := { (s.slot i).que with
            backpressure := true, pendingPause := some (s.slot i).adm.quanta
            refresh := .running (refreshLength (s.slot i).adm.quanta) } }) ∧
        (inSlotSet held i = false ∨ (s.slot i).que.backpressure = true →
          (upwardTest u c source s).slot i = s.slot i)) ∧
      upwardTest u c source s =
        { s.modClass u c fun q => { q with congested := true, held := held } with
          slots := (upwardTest u c source s).slots })) ∧
  (∀ (u : Uplink) (c : Cls) (s : State), (s.uplink u).queues[c].congested = true →
    upwardTest u c none s = s ∧
    ∀ i : Slot, upwardTest u c (some i) s =
      pauseSlot i (s.modClass u c fun q => { q with held := slotSetInsert q.held i })) ∧
  (∀ (h : SlotSet) (i j : Slot), inSlotSet (slotSetInsert h i) j = true ↔ j = i ∨ inSlotSet h j = true) ∧
  ∀ (u : Uplink) (c : Cls) (s : State),
    (¬((s.uplink u).queues[c].congested = true ∧
      (s.uplink u).occupancy c ≤ (s.uplink u).queues[c].marks.low) → downwardTest u c s = s) ∧
    ((s.uplink u).queues[c].congested = true → (s.uplink u).occupancy c ≤ (s.uplink u).queues[c].marks.low →
      ∃ m : State, downwardTest u c s = m ∧
        (∀ i : Slot,
          (inSlotSet (s.uplink u).queues[c].held i = true → (s.slot i).que.backpressure = true →
            heldAnywhere m i = false → m.slot i = { s.slot i with que := { (s.slot i).que with
              backpressure := false, refresh := .stopped, pendingPause := some 0 } }) ∧
          (¬(inSlotSet (s.uplink u).queues[c].held i = true ∧ (s.slot i).que.backpressure = true ∧
            heldAnywhere m i = false) → m.slot i = s.slot i)) ∧
        m = { s.modClass u c fun q => { q with
            congested := false, held := 0, staged := none, marks := q.staged.getD q.marks } with
          slots := m.slots })

/-- R158: how each kind of frame enters a control list. -/
def Obligations.ControlListsTakeTheirFrames : Prop :=
  (∀ (f : ControlFrame) (l : List ControlFrame),
    ((∀ g ∈ l, g.kind ≠ f.kind) → replaceOrAppend f l = l ++ [f]) ∧
    ∀ before g after, l = before ++ g :: after → g.kind = f.kind → (∀ x ∈ before, x.kind ≠ f.kind) →
      (∀ x ∈ after, x.kind ≠ f.kind) → replaceOrAppend f l = before ++ f :: after) ∧
  ∀ (f : ControlFrame) (q : QueuePart), (q.control.map (·.kind)).Nodup →
    (∀ before g after, q.control = before ++ g :: after → g.kind = f.kind →
      offerControlPart f q = { q with control := before ++ f :: after }) ∧
    ((∀ g ∈ q.control, g.kind ≠ f.kind) →
      (f.kind = .admitResult ∨ f.kind = .shutdownReq →
        offerControlPart f q = { q with control := q.control ++ [f] }) ∧
      (f.kind = .cap → offerControlPart f q =
        { q with control := (q.control.filter fun g => decide (g.kind ≠ .uncap)) ++ [f] }) ∧
      (f.kind = .uncap → (∀ g ∈ q.control, g.kind ≠ .cap) →
        offerControlPart f q = { q with control := q.control ++ [f] }) ∧
      (f.kind = .uncap → (∃ g ∈ q.control, g.kind = .cap) → offerControlPart f q =
        { q with control := (q.control.filter fun g => decide (g.kind ≠ .cap)) ++
          (if q.marker = some .cap then [f] else []) }))

/-! ### Invariants that every step keeps -/

/-- R148: the free cells and the cells held always equal 512. -/
def Obligations.EveryStepKeepsThePoolBalance : Prop :=
  ∀ s t : State, PoolBalance s → step s = .next t → PoolBalance t

/-- R14, R48, R51, R57, R75: queue, lanes, commitments, outputs, filters and states agree, the queue keeps its order, and
the lanes in use are at most the lane count. -/
def Obligations.EveryStepKeepsPowerConsistent : Prop :=
  (∀ s t : State, PowerConsistent s → QueueOrdered s → step s = .next t → PowerConsistent t ∧ QueueOrdered t) ∧
  ∀ s t : State, LanesBounded s → step s = .next t → LanesBounded t

/-- R49, R72: H is not below 0 while any slot holds a commitment. -/
def Obligations.EveryStepKeepsTheBudgetSafe : Prop :=
  ∀ s t : State, PowerConsistent s → BudgetSafe s → step s = .next t → BudgetSafe t

/-- R104, R105, R112, R115, R119, R125: zone temperatures, override, targets, fan powers, F and held fans are current. -/
def Obligations.EveryStepKeepsTheThermalState : Prop :=
  ∀ s t : State, PowerConsistent s → ZonesCurrent s → OverrideConsistent s → TargetsCurrent s → PowersCurrent s →
    FansHeld s → step s = .next t →
    ZonesCurrent t ∧ OverrideConsistent t ∧ TargetsCurrent t ∧ PowersCurrent t ∧ FansHeld t

/-- R153, R154, R158: congestion, held sets, backpressure flags and control lists agree. -/
def Obligations.EveryStepKeepsCongestionAndBackpressure : Prop :=
  ∀ s t : State, CongestionConsistent s → BackpressureConsistent s → ControlLists s → step s = .next t →
    CongestionConsistent t ∧ BackpressureConsistent t ∧ ControlLists t

/-- R25, R26: the station table is the addresses with status ENTERED, slot by slot, none twice, none invalid; and no
entry belongs to a slot in EMPTY, STANDBY_WAIT or ANNOUNCE_WAIT, or in UNIDENTIFIED, which ANNOUNCE_WAIT alone leads to. -/
def Obligations.EveryStepKeepsTheStationTable : Prop :=
  (∀ s t : State, StationsConsistent s → step s = .next t → StationsConsistent t) ∧
  ∀ s t : State, PowerConsistent s → StationOwners s → step s = .next t → StationOwners t

/-- R9, R98, R142, R150, R152, R168: the tables and the alert set in their orders, the period timer under PERIOD alone,
and no link idle while it may send. -/
def Obligations.EveryStepKeepsTheOrders : Prop :=
  ∀ s t : State, AlertsOrdered s → SegmentsOrdered s → AdmissionOrdered s → PeriodArmed s.sweep → LinksBusy s →
    step s = .next t →
    AlertsOrdered t ∧ SegmentsOrdered t ∧ AdmissionOrdered t ∧ PeriodArmed t.sweep ∧ LinksBusy t

/-! ### Frames read back -/

/-- Every control frame that is taken is read back with every field it was composed of: decode and encode agree for
the blade frames and COMMAND frames of chapter 11 and for flow-control frames. Then the octets of the frames that the
part builds: numbers most significant octet first, the control frame of R174 and R176 read back whole, the pause of
R175 and the four blade-bound bodies of R179. -/
def Obligations.ComposedFramesAreReadBack : Prop :=
  (∀ (i : Slot) (e : Envelope) (body : AnnounceBody) (s : State), body.addresses.length < 256 →
    ControlArrives s e (25 + 6 * body.addresses.length) →
    frameClass s (.slot i) (composeControl e 0x01#8 (announceOctets body)).octets = .announce i body) ∧
  (∀ (i : Slot) (e : Envelope) (readings : List TelemetryItem) (s : State), readings.length < 256 →
    ControlArrives s e (1 + 2 * readings.length) →
    frameClass s (.slot i) (composeControl e 0x02#8 (telemetryOctets readings)).octets = .telemetry i readings) ∧
  (∀ (i : Slot) (e : Envelope) (s : State), ControlArrives s e 0 →
    frameClass s (.slot i) (composeControl e 0x03#8 []).octets = .capAck i e.sequence ∧
    frameClass s (.slot i) (composeControl e 0x04#8 []).octets = .shutdownAck i) ∧
  (∀ (u : Uplink) (e : Envelope) (code : Word16) (items : List Item) (s : State), CommandArrives s u e items →
    frameClass s (.uplink u) (composeControl e 0x21#8 (commandOctets code items)).octets =
      .command u e.source e.sequence code items) ∧
  (∀ (p : Port) (f : FlowFrame) (s : State), frameClass s p (composeFlow f).octets = .flow f.opcode f.quanta) ∧
  (∀ (o : Octets) (k : Nat), octetAt o k = o.getD k 0 ∧ (word16At o k).toNat = natOf [octetAt o k, octetAt o (k + 1)] ∧
    (stationAt o k).toNat = natOf ((List.range 6).map fun j => octetAt o (k + j))) ∧
  (∀ (n : Nat) (w : Word16) (v : Word32) (a : Station), octet n = BitVec.ofNat 8 n ∧
    be16n n = [octet (n / 256), octet n] ∧ be16 w = be16n w.toNat ∧
    (natOf (be32 v) = v.toNat ∧ (be32 v).length = 4) ∧ natOf (be48 a) = a.toNat ∧ (be48 a).length = 6) ∧
  (∀ s : State, s.station.toNat = 0x02E56A000000 + s.fwd.straps.toNat) ∧
  (∀ (s : State) (destination : Station) (kind : Byte) (sequence : Word16) (body o : Octets), body.length < 65536 →
    o = s.buildControl destination kind sequence body →
    o.length + 4 = max 64 (14 + 6 + body.length + 4) ∧ stationAt o 0 = destination ∧ stationAt o 6 = s.station ∧
    word16At o 12 = s.fwd.controlType ∧ octetAt o 14 = 1 ∧ octetAt o 15 = kind ∧ word16At o 16 = sequence ∧
    (word16At o 18).toNat = body.length ∧ (o.drop 20).take body.length = body ∧
    ∀ k, 20 + body.length ≤ k → octetAt o k = 0) ∧
  (∀ (s : State) (quanta : Nat) (o : Octets), o = s.pauseOctets quanta →
    o.length + 4 = 64 ∧ stationAt o 0 = 0x0180C2000001#48 ∧ stationAt o 6 = s.station ∧
    word16At o 12 = 0x8808#16 ∧ word16At o 14 = 1#16 ∧ word16At o 16 = BitVec.ofNat 16 quanta ∧
    ∀ k, 18 ≤ k → octetAt o k = 0) ∧
  ∀ (s : State) (build : Byte → Word16 → Octets → Octets),
    (∀ kind sequence body, build kind sequence body = s.buildControl 0x07E56A000001#48 kind sequence body) →
    (∀ (denied : Bool) (pair : PowerPair), admitResultFrame s denied pair =
      { kind := .admitResult
        octets := build 0x11#8 0 ((if denied = true then 1#8 else 0#8) :: be16n pair.requested ++ be16n pair.floor) }) ∧
    (∀ (sequence : Word16) (watts : Nat),
      capFrame s sequence watts = { kind := .cap, octets := build 0x12#8 sequence (be16n watts) } ∧
      uncapFrame s sequence watts = { kind := .uncap, octets := build 0x13#8 sequence (be16n watts) }) ∧
    ∀ (form : ShutdownForm) (seconds : Nat), shutdownReqFrame s form seconds =
      { kind := .shutdownReq
        octets := build 0x14#8 0 ((match form with
          | .off => 0#8
          | .eject => 1#8) :: be16n seconds) }

end
end

