-- ==== Sys2Proof/Laws/Frames.lean ====
section
/-! SUPPORT. Frames read back as they were composed: octets, the control header, and COMMAND frames (R173, R176, R180). -/

namespace Sys2Proof.Machine

/-! ### Octets -/

theorem octetAt_zero (x : Byte) (l : Octets) : octetAt (x :: l) 0 = x := rfl

theorem octetAt_succ (x : Byte) (l : Octets) (k : Nat) : octetAt (x :: l) (k + 1) = octetAt l k := rfl

theorem octetAt_append_right (a l : Octets) (k : Nat) : octetAt (a ++ l) (a.length + k) = octetAt l k := by
  induction a with
  | nil => simp
  | cons x a ih => rw [List.cons_append, List.length_cons, Nat.add_right_comm, octetAt_succ, ih]

theorem octetAt_drop (o : Octets) (n k : Nat) : octetAt (o.drop n) k = octetAt o (n + k) := by
  simp [octetAt, List.getD]

theorem join16 (w : Word16) : (w.extractLsb' 8 8 ++ w.extractLsb' 0 8 : Word16) = w := by
  rw [BitVec.extractLsb'_append_extractLsb'_eq_extractLsb' (by rfl)]
  exact BitVec.extractLsb'_eq_self

theorem join48 (w : Station) : (w.extractLsb' 40 8 ++ w.extractLsb' 32 8 ++ w.extractLsb' 24 8 ++ w.extractLsb' 16 8 ++
    w.extractLsb' 8 8 ++ w.extractLsb' 0 8 : Station) = w := by
  rw [BitVec.extractLsb'_append_extractLsb'_eq_extractLsb' (by rfl),
    BitVec.extractLsb'_append_extractLsb'_eq_extractLsb' (by rfl),
    BitVec.extractLsb'_append_extractLsb'_eq_extractLsb' (by rfl),
    BitVec.extractLsb'_append_extractLsb'_eq_extractLsb' (by rfl),
    BitVec.extractLsb'_append_extractLsb'_eq_extractLsb' (by rfl)]
  exact BitVec.extractLsb'_eq_self

/-- A word that stands after other octets is read back at its offset. -/
theorem word16At_be16 (a l : Octets) (w : Word16) (k : Nat) (h : k = a.length) : word16At (a ++ (be16 w ++ l)) k = w := by
  subst h
  have h0 := octetAt_append_right a (be16 w ++ l) 0
  have h1 := octetAt_append_right a (be16 w ++ l) 1
  rw [Nat.add_zero] at h0
  rw [word16At, h0, h1]
  exact join16 w

/-- An address that stands after other octets is read back at its offset. -/
theorem stationAt_be48 (a l : Octets) (w : Station) (k : Nat) (h : k = a.length) :
    stationAt (a ++ (be48 w ++ l)) k = w := by
  subst h
  have h0 := octetAt_append_right a (be48 w ++ l) 0
  rw [Nat.add_zero] at h0
  rw [stationAt, h0, octetAt_append_right, octetAt_append_right, octetAt_append_right, octetAt_append_right,
    octetAt_append_right]
  exact join48 w

@[simp] theorem be16_length (w : Word16) : (be16 w).length = 2 := rfl
@[simp] theorem be16n_length (n : Nat) : (be16n n).length = 2 := rfl
@[simp] theorem be32_length (w : Word32) : (be32 w).length = 4 := rfl
@[simp] theorem be48_length (w : Station) : (be48 w).length = 6 := rfl

theorem tagOctets_none : tagOctets none = [] := rfl
theorem tagOctets_some (t : Tag) : tagOctets (some t) = be16 t.tagType ++ be16 t.control := rfl

/-! ### The length and the header of a composed control frame -/

theorem composeControl_length (e : Envelope) (kind : Byte) (body : Octets) :
    (composeControl e kind body).octets.length + 4 = envelopeLength e body.length := by
  simp [composeControl, header, envelopeLength]
  omega

theorem rxLength_composeControl (e : Envelope) (kind : Byte) (body : Octets) :
    rxLength (composeControl e kind body) = envelopeLength e body.length := composeControl_length e kind body

/-- The octets of a composed control frame before its header. -/
def frontOctets (e : Envelope) : Octets :=
  be48 e.destination ++ (be48 e.source ++ (tagOctets e.tag ++ be16 e.frameType))

theorem composeControl_octets (e : Envelope) (kind : Byte) (body : Octets) :
    (composeControl e kind body).octets =
      frontOctets e ++ (1 :: kind :: (be16 e.sequence ++ (be16n body.length ++ (body ++ e.padding)))) := by
  simp [composeControl, header, frontOctets]

theorem frontOctets_length (e : Envelope) : (frontOctets e).length = 14 + (tagOctets e.tag).length := by
  simp [frontOctets]
  omega

/-- A composed control frame passes the header checks of R177, and its kind, sequence, source and body are read back. -/
theorem controlClass_compose (s : State) (p : Port) (e : Envelope) (kind : Byte) (body : Octets)
    (h : body.length < 65536) :
    controlClass s p (composeControl e kind body).octets (14 + (tagOctets e.tag).length) =
      bodyClass s p kind e.sequence e.source body := by
  have hl := composeControl_length e kind body
  have hsource : stationAt (composeControl e kind body).octets 6 = e.source := by
    rw [composeControl_octets, frontOctets, List.append_assoc, List.append_assoc]
    exact stationAt_be48 _ _ _ _ rfl
  rw [composeControl_octets] at hl hsource ⊢
  have hf := frontOctets_length e
  rw [← hf]
  generalize frontOctets e = a at *
  have h0 : octetAt (a ++ (1 :: kind :: (be16 e.sequence ++ (be16n body.length ++ (body ++ e.padding))))) a.length = 1 := by
    have := octetAt_append_right a (1 :: kind :: (be16 e.sequence ++ (be16n body.length ++ (body ++ e.padding)))) 0
    simpa [octetAt_zero] using this
  have h1 := octetAt_append_right a (1 :: kind :: (be16 e.sequence ++ (be16n body.length ++ (body ++ e.padding)))) 1
  rw [octetAt_succ, octetAt_zero] at h1
  have h2 : word16At (a ++ (1 :: kind :: (be16 e.sequence ++ (be16n body.length ++ (body ++ e.padding)))))
      (a.length + 2) = e.sequence := by
    have := word16At_be16 (a ++ [1, kind]) (be16n body.length ++ (body ++ e.padding)) e.sequence (a.length + 2) (by simp)
    simpa using this
  have h4 : word16At (a ++ (1 :: kind :: (be16 e.sequence ++ (be16n body.length ++ (body ++ e.padding)))))
      (a.length + 4) = BitVec.ofNat 16 body.length := by
    have := word16At_be16 (a ++ ([1, kind] ++ be16 e.sequence)) (body ++ e.padding) (BitVec.ofNat 16 body.length)
      (a.length + 4) (by simp)
    simpa [be16n] using this
  have hd : (a ++ (1 :: kind :: (be16 e.sequence ++ (be16n body.length ++ (body ++ e.padding))))).drop (a.length + 6) =
      body ++ e.padding := by
    have : a.length + 6 = (a ++ ([1, kind] ++ be16 e.sequence ++ be16n body.length)).length := by simp
    rw [this]
    have h' : a ++ (1 :: kind :: (be16 e.sequence ++ (be16n body.length ++ (body ++ e.padding)))) =
        (a ++ ([1, kind] ++ be16 e.sequence ++ be16n body.length)) ++ (body ++ e.padding) := by simp
    rw [h', List.drop_left]
  simp only [controlClass, h0, h1, h2, h4, hd, hsource]
  have hn : (BitVec.ofNat 16 body.length).toNat = body.length := by simp [Nat.mod_eq_of_lt h]
  rw [hn, if_neg, List.take_left]
  simp only [not_or, not_lt, ne_eq, not_true_eq_false, not_false_eq_true, true_and]
  constructor <;> (simp only [List.length_append, List.length_cons, be16_length, be16n_length]; omega)

/-! ### COMMAND bodies (R180) -/

theorem itemsLength_octets (items : List Item) : (items.flatMap itemOctets).length = itemsLength items := by
  induction items with
  | nil => rfl
  | cons it rest ih =>
    rw [List.flatMap_cons, List.length_append, ih]
    simp [itemOctets, itemsLength]
    omega

theorem commandOctets_length (code : Word16) (items : List Item) :
    (commandOctets code items).length = 2 + itemsLength items := by
  rw [commandOctets, List.length_append, itemsLength_octets, be16_length]

/-- The items of a body are read back, whatever bound above their octets is given (R180). -/
theorem itemsIn_octets (items : List Item) (n : Nat) (hn : itemsLength items ≤ n) (h : itemsLength items < 65536) :
    itemsIn n (items.flatMap itemOctets) = some items := by
  induction items generalizing n with
  | nil => cases n <;> rfl
  | cons it rest ih =>
    obtain ⟨m, rfl⟩ : ∃ m, n = m + 1 := ⟨n - 1, by simp [itemsLength] at hn; omega⟩
    simp only [itemsLength] at hn h
    have hw : ((BitVec.ofNat 16 it.value.length).extractLsb' 8 8).toNat * 256 +
        ((BitVec.ofNat 16 it.value.length).extractLsb' 0 8).toNat = it.value.length := by
      simp only [BitVec.extractLsb'_toNat, BitVec.toNat_ofNat, Nat.shiftRight_eq_div_pow]
      omega
    have e : (it :: rest).flatMap itemOctets = it.field :: (BitVec.ofNat 16 it.value.length).extractLsb' 8 8 ::
        (BitVec.ofNat 16 it.value.length).extractLsb' 0 8 :: (it.value ++ rest.flatMap itemOctets) := by
      simp [itemOctets, be16n, be16]
    rw [e]
    simp only [itemsIn, hw]
    rw [if_neg (by simp), List.drop_left, List.take_left, ih m (by omega) (by omega)]
    rfl

/-- A COMMAND body is classed as its code and items on an uplink whose management flag is set. -/
theorem bodyClass_command (s : State) (u : Uplink) (sequence : Word16) (source : Station) (code : Word16)
    (items : List Item) (h : itemsLength items < 65536) (hm : (s.uplink u).management = true) :
    bodyClass s (.uplink u) kindCommand sequence source (commandOctets code items) =
      .command u source sequence code items := by
  have hl := commandOctets_length code items
  have hd : (commandOctets code items).drop 2 = items.flatMap itemOctets := rfl
  have hc : word16At (commandOctets code items) 0 = code := by
    have := word16At_be16 [] (items.flatMap itemOctets) code 0 rfl
    simpa [commandOctets] using this
  simp only [bodyClass, hm, hl, hd, hc]
  rw [if_pos ⟨trivial, trivial, by omega⟩, itemsIn_octets items _ (by omega) h]

/-! ### Arrivals -/

/-- A control frame that is taken is classed by its body (R131 to R133). -/
theorem frameClass_control (s : State) (p : Port) (e : Envelope) (kind : Byte) (body : Octets)
    (h : ControlArrives s e body.length) :
    frameClass s p (composeControl e kind body).octets = bodyClass s p kind e.sequence e.source body := by
  have hc := controlClass_compose s p e kind body h.counted
  have ho := composeControl_octets e kind body
  generalize (1 :: kind :: (be16 e.sequence ++ (be16n body.length ++ (body ++ e.padding)))) = l at ho
  have hd : stationAt (composeControl e kind body).octets 0 = e.destination := by
    rw [ho, frontOctets, List.append_assoc]
    exact stationAt_be48 [] _ _ 0 rfl
  have houter := h.outer
  cases ht : e.tag with
  | none =>
    rw [ht] at hc houter
    have hw : word16At (composeControl e kind body).octets 12 = s.fwd.controlType := by
      rw [ho, frontOctets, ht, tagOctets_none, h.typed]
      have := word16At_be16 (be48 e.destination ++ be48 e.source) l s.fwd.controlType 12 rfl
      simpa using this
    simp only [frameClass, hw, hd]
    rw [if_neg houter.2, if_pos h.addressed]
    simpa [houter.1, tagOctets_none] using hc
  | some t =>
    rw [ht] at hc houter
    have hw : word16At (composeControl e kind body).octets 12 = s.fwd.tagType := by
      rw [ho, frontOctets, ht, tagOctets_some, houter.1]
      have := word16At_be16 (be48 e.destination ++ be48 e.source) (be16 t.control ++ (be16 e.frameType ++ l))
        s.fwd.tagType 12 rfl
      simpa using this
    have hw' : word16At (composeControl e kind body).octets 16 = s.fwd.controlType := by
      rw [ho, frontOctets, ht, tagOctets_some, h.typed]
      have := word16At_be16 (be48 e.destination ++ (be48 e.source ++ (be16 t.tagType ++ be16 t.control))) l
        s.fwd.controlType 16 rfl
      simpa using this
    simp only [frameClass, hw, hd]
    rw [if_neg houter.2, if_pos h.addressed]
    simpa [hw', tagOctets_some] using hc

/-- A control frame that is taken is counted and handled by its body (R130, R133). -/
theorem receive_control (s : State) (p : Port) (e : Envelope) (kind : Byte) (body : Octets)
    (h : ControlArrives s e body.length) :
    receive p (composeControl e kind body) s =
      handle p (composeControl e kind body) (bodyClass s p kind e.sequence e.source body) (countReceived p s) := by
  have hc : (composeControl e kind body).crcMatches = true := h.crc
  have h1 := h.least
  have h2 := h.most
  rw [receive, frameClass_control s p e kind body h, rxLength_composeControl, if_neg (by simp [hc]),
    if_neg (by omega)]

/-- A COMMAND that is handed on runs its code on the state with its reception counted and the notice destination set,
and ends as every command does (R164). -/
theorem receiveCommand_arrives (s : State) (u : Uplink) (e : Envelope) (code : Word16) (items : List Item)
    (h : CommandArrives s u e items) :
    receiveCommand u e code items s = commandDone s u e code (runCode code items (commandState s u e)) := by
  have hl := commandOctets_length code items
  rw [receiveCommand, receive_control s _ e _ _ (by rw [hl]; exact h.1),
    bodyClass_command s u _ _ code items (by have := h.1.counted; omega) h.2]
  rfl

end Sys2Proof.Machine
end

