-- ==== Sys2Proof/Laws/Commands.lean ====
section
/-! SUPPORT. Each COMMAND row, once: a frame that is handed to the Command Processor runs its command on the state with
its reception counted and the notice destination set, and ends as every command does (R164). -/

namespace Sys2Proof.Machine

/-- The common form: the row's code runs its command (R181). -/
theorem command_runs (s : State) (u : Uplink) (e : Envelope) (code : Word16) (items : List Item)
    (h : CommandArrives s u e items) (run : List Item → State → Answer)
    (hr : ∀ cs, runCode code items cs = run items cs) :
    (Host.Outcome.next (receiveCommand u e code items s) : Host.Outcome State Fault Refusal) =
      .next (commandDone s u e code (run items (commandState s u e))) := by
  rw [receiveCommand_arrives s u e code items h, hr]

theorem exec_readSlot_arrives (s : State) (u : Uplink) (e : Envelope) (items : List Item)
    (h : CommandArrives s u e items) :
    exec (.readSlot u e items) s = .next (commandDone s u e 0x01#16 (cmdReadSlot items (commandState s u e))) :=
  command_runs s u e _ items h cmdReadSlot fun _ => rfl

theorem exec_readInventory_arrives (s : State) (u : Uplink) (e : Envelope) (items : List Item)
    (h : CommandArrives s u e items) :
    exec (.readInventory u e items) s = .next (commandDone s u e 0x02#16 (cmdReadInventory items (commandState s u e))) :=
  command_runs s u e _ items h cmdReadInventory fun _ => rfl

theorem exec_readPower_arrives (s : State) (u : Uplink) (e : Envelope) (items : List Item)
    (h : CommandArrives s u e items) :
    exec (.readPower u e items) s = .next (commandDone s u e 0x03#16 (cmdReadPower items (commandState s u e))) :=
  command_runs s u e _ items h cmdReadPower fun _ => rfl

theorem exec_readThermal_arrives (s : State) (u : Uplink) (e : Envelope) (items : List Item)
    (h : CommandArrives s u e items) :
    exec (.readThermal u e items) s = .next (commandDone s u e 0x04#16 (cmdReadThermal items (commandState s u e))) :=
  command_runs s u e _ items h cmdReadThermal fun _ => rfl

theorem exec_readFans_arrives (s : State) (u : Uplink) (e : Envelope) (items : List Item)
    (h : CommandArrives s u e items) :
    exec (.readFans u e items) s = .next (commandDone s u e 0x05#16 (cmdReadFans items (commandState s u e))) :=
  command_runs s u e _ items h cmdReadFans fun _ => rfl

theorem exec_readQueues_arrives (s : State) (u : Uplink) (e : Envelope) (items : List Item)
    (h : CommandArrives s u e items) :
    exec (.readQueues u e items) s = .next (commandDone s u e 0x06#16 (cmdReadQueues items (commandState s u e))) :=
  command_runs s u e _ items h cmdReadQueues fun _ => rfl

theorem exec_readCounters_arrives (s : State) (u : Uplink) (e : Envelope) (items : List Item)
    (h : CommandArrives s u e items) :
    exec (.readCounters u e items) s = .next (commandDone s u e 0x07#16 (cmdReadCounters items (commandState s u e))) :=
  command_runs s u e _ items h cmdReadCounters fun _ => rfl

theorem exec_readAlerts_arrives (s : State) (u : Uplink) (e : Envelope) (items : List Item)
    (h : CommandArrives s u e items) :
    exec (.readAlerts u e items) s = .next (commandDone s u e 0x08#16 (cmdReadAlerts items (commandState s u e))) :=
  command_runs s u e _ items h cmdReadAlerts fun _ => rfl

theorem exec_readTable_arrives (s : State) (u : Uplink) (e : Envelope) (items : List Item)
    (h : CommandArrives s u e items) :
    exec (.readTable u e items) s = .next (commandDone s u e 0x09#16 (cmdReadTable items (commandState s u e))) :=
  command_runs s u e _ items h cmdReadTable fun _ => rfl

theorem exec_setSlot_arrives (s : State) (u : Uplink) (e : Envelope) (items : List Item)
    (h : CommandArrives s u e items) :
    exec (.setSlot u e items) s = .next (commandDone s u e 0x10#16 (cmdSetSlot items (commandState s u e))) :=
  command_runs s u e _ items h cmdSetSlot fun _ => rfl

theorem exec_setSupply_arrives (s : State) (u : Uplink) (e : Envelope) (items : List Item)
    (h : CommandArrives s u e items) :
    exec (.setSupply u e items) s = .next (commandDone s u e 0x11#16 (cmdSetSupply items (commandState s u e))) :=
  command_runs s u e _ items h cmdSetSupply fun _ => rfl

theorem exec_setTiming_arrives (s : State) (u : Uplink) (e : Envelope) (items : List Item)
    (h : CommandArrives s u e items) :
    exec (.setTiming u e items) s = .next (commandDone s u e 0x12#16 (cmdSetTiming items (commandState s u e))) :=
  command_runs s u e _ items h cmdSetTiming fun _ => rfl

theorem exec_setZone_arrives (s : State) (u : Uplink) (e : Envelope) (items : List Item)
    (h : CommandArrives s u e items) :
    exec (.setZone u e items) s = .next (commandDone s u e 0x13#16 (cmdSetZone items (commandState s u e))) :=
  command_runs s u e _ items h cmdSetZone fun _ => rfl

theorem exec_setFan_arrives (s : State) (u : Uplink) (e : Envelope) (items : List Item)
    (h : CommandArrives s u e items) :
    exec (.setFan u e items) s = .next (commandDone s u e 0x14#16 (cmdSetFan items (commandState s u e))) :=
  command_runs s u e _ items h cmdSetFan fun _ => rfl

theorem exec_setFanCurve_arrives (s : State) (u : Uplink) (e : Envelope) (items : List Item)
    (h : CommandArrives s u e items) :
    exec (.setFanCurve u e items) s = .next (commandDone s u e 0x15#16 (cmdSetFanCurve items (commandState s u e))) :=
  command_runs s u e _ items h cmdSetFanCurve fun _ => rfl

theorem exec_setFanDuty_arrives (s : State) (u : Uplink) (e : Envelope) (items : List Item)
    (h : CommandArrives s u e items) :
    exec (.setFanDuty u e items) s = .next (commandDone s u e 0x16#16 (cmdSetFanDuty items (commandState s u e))) :=
  command_runs s u e _ items h cmdSetFanDuty fun _ => rfl

theorem exec_setChannel_arrives (s : State) (u : Uplink) (e : Envelope) (items : List Item)
    (h : CommandArrives s u e items) :
    exec (.setChannel u e items) s = .next (commandDone s u e 0x17#16 (cmdSetChannel items (commandState s u e))) :=
  command_runs s u e _ items h cmdSetChannel fun _ => rfl

theorem exec_setSweep_arrives (s : State) (u : Uplink) (e : Envelope) (items : List Item)
    (h : CommandArrives s u e items) :
    exec (.setSweep u e items) s = .next (commandDone s u e 0x18#16 (cmdSetSweep items (commandState s u e))) :=
  command_runs s u e _ items h cmdSetSweep fun _ => rfl

theorem exec_setUplink_arrives (s : State) (u : Uplink) (e : Envelope) (items : List Item)
    (h : CommandArrives s u e items) :
    exec (.setUplink u e items) s = .next (commandDone s u e 0x19#16 (cmdSetUplink items (commandState s u e))) :=
  command_runs s u e _ items h cmdSetUplink fun _ => rfl

theorem exec_setQueue_arrives (s : State) (u : Uplink) (e : Envelope) (items : List Item)
    (h : CommandArrives s u e items) :
    exec (.setQueue u e items) s = .next (commandDone s u e 0x1A#16 (cmdSetQueue items (commandState s u e))) :=
  command_runs s u e _ items h cmdSetQueue fun _ => rfl

theorem exec_setClassMap_arrives (s : State) (u : Uplink) (e : Envelope) (items : List Item)
    (h : CommandArrives s u e items) :
    exec (.setClassMap u e items) s = .next (commandDone s u e 0x1B#16 (cmdSetClassMap items (commandState s u e))) :=
  command_runs s u e _ items h cmdSetClassMap fun _ => rfl

theorem exec_loadSegment_arrives (s : State) (u : Uplink) (e : Envelope) (items : List Item)
    (h : CommandArrives s u e items) :
    exec (.loadSegment u e items) s = .next (commandDone s u e 0x1C#16 (cmdLoadSegment items (commandState s u e))) :=
  command_runs s u e _ items h cmdLoadSegment fun _ => rfl

theorem exec_deleteSegment_arrives (s : State) (u : Uplink) (e : Envelope) (items : List Item)
    (h : CommandArrives s u e items) :
    exec (.deleteSegment u e items) s = .next (commandDone s u e 0x1D#16 (cmdDeleteSegment items (commandState s u e))) :=
  command_runs s u e _ items h cmdDeleteSegment fun _ => rfl

theorem exec_loadAdmission_arrives (s : State) (u : Uplink) (e : Envelope) (items : List Item)
    (h : CommandArrives s u e items) :
    exec (.loadAdmission u e items) s = .next (commandDone s u e 0x1E#16 (cmdLoadAdmission items (commandState s u e))) :=
  command_runs s u e _ items h cmdLoadAdmission fun _ => rfl

theorem exec_deleteAdmission_arrives (s : State) (u : Uplink) (e : Envelope) (items : List Item)
    (h : CommandArrives s u e items) :
    exec (.deleteAdmission u e items) s = .next (commandDone s u e 0x1F#16 (cmdDeleteAdmission items (commandState s u e))) :=
  command_runs s u e _ items h cmdDeleteAdmission fun _ => rfl

theorem exec_startSweep_arrives (s : State) (u : Uplink) (e : Envelope) (items : List Item)
    (h : CommandArrives s u e items) :
    exec (.startSweep u e items) s = .next (commandDone s u e 0x20#16 (cmdStartSweep items (commandState s u e))) :=
  command_runs s u e _ items h cmdStartSweep fun _ => rfl

theorem exec_stopSweep_arrives (s : State) (u : Uplink) (e : Envelope) (items : List Item)
    (h : CommandArrives s u e items) :
    exec (.stopSweep u e items) s = .next (commandDone s u e 0x21#16 (cmdStopSweep items (commandState s u e))) :=
  command_runs s u e _ items h cmdStopSweep fun _ => rfl

theorem exec_slotPowerOn_arrives (s : State) (u : Uplink) (e : Envelope) (items : List Item)
    (h : CommandArrives s u e items) :
    exec (.slotPowerOn u e items) s = .next (commandDone s u e 0x30#16 (cmdSlotPowerOn items (commandState s u e))) :=
  command_runs s u e _ items h cmdSlotPowerOn fun _ => rfl

theorem exec_slotPowerOff_arrives (s : State) (u : Uplink) (e : Envelope) (items : List Item)
    (h : CommandArrives s u e items) :
    exec (.slotPowerOff u e items) s = .next (commandDone s u e 0x31#16 (cmdSlotPowerOff items (commandState s u e))) :=
  command_runs s u e _ items h cmdSlotPowerOff fun _ => rfl

theorem exec_slotKill_arrives (s : State) (u : Uplink) (e : Envelope) (items : List Item)
    (h : CommandArrives s u e items) :
    exec (.slotKill u e items) s = .next (commandDone s u e 0x32#16 (cmdSlotKill items (commandState s u e))) :=
  command_runs s u e _ items h cmdSlotKill fun _ => rfl

theorem exec_slotAdmit_arrives (s : State) (u : Uplink) (e : Envelope) (items : List Item)
    (h : CommandArrives s u e items) :
    exec (.slotAdmit u e items) s = .next (commandDone s u e 0x33#16 (cmdSlotAdmit items (commandState s u e))) :=
  command_runs s u e _ items h cmdSlotAdmit fun _ => rfl

theorem exec_slotRelease_arrives (s : State) (u : Uplink) (e : Envelope) (items : List Item)
    (h : CommandArrives s u e items) :
    exec (.slotRelease u e items) s = .next (commandDone s u e 0x34#16 (cmdSlotRelease items (commandState s u e))) :=
  command_runs s u e _ items h cmdSlotRelease fun _ => rfl

theorem exec_inject_arrives (s : State) (u : Uplink) (e : Envelope) (items : List Item)
    (h : CommandArrives s u e items) :
    exec (.inject u e items) s = .next (commandDone s u e 0x40#16 (cmdInject items (commandState s u e))) :=
  command_runs s u e _ items h cmdInject fun _ => rfl

theorem exec_clearAlerts_arrives (s : State) (u : Uplink) (e : Envelope) (items : List Item)
    (h : CommandArrives s u e items) :
    exec (.clearAlerts u e items) s = .next (commandDone s u e 0x41#16 (cmdClearAlerts items (commandState s u e))) :=
  command_runs s u e _ items h cmdClearAlerts fun _ => rfl

theorem exec_clearCounters_arrives (s : State) (u : Uplink) (e : Envelope) (items : List Item)
    (h : CommandArrives s u e items) :
    exec (.clearCounters u e items) s = .next (commandDone s u e 0x42#16 (cmdClearCounters items (commandState s u e))) :=
  command_runs s u e _ items h cmdClearCounters fun _ => rfl

theorem exec_restart_arrives (s : State) (u : Uplink) (e : Envelope) (items : List Item)
    (h : CommandArrives s u e items) :
    exec (.restart u e items) s = .next (commandDone s u e 0x43#16 (cmdRestart items (commandState s u e))) :=
  command_runs s u e _ items h cmdRestart fun _ => rfl

/-- A command that changes nothing and asks for no evaluation ends with its RESPONSE and the links alone (R164, R167). -/
theorem commandDone_unchanged (s : State) (u : Uplink) (e : Envelope) (code : Word16) (status : Status)
    (results : List (List Octets)) :
    commandDone s u e code { state := commandState s u e, status := status, results := results, cause := false } =
      beginAll (respond { uplink := u, source := e.source, sequence := e.sequence, code := code } status results
        (commandState s u e)) := by
  simp [commandDone, finish, evaluateIfDue, sendNotice, alertAdded]

/-- A command without fields is refused with BADVALUE where it carries any (R181). -/
theorem plainCommand_fields (items : List Item) (s : State) (run : State → Answer) (h : items ≠ []) :
    plainCommand items s run = refuse s .badValue := by
  cases items with
  | nil => exact absurd rfl h
  | cons a l => rfl

theorem readPlain_fields (items : List Item) (s : State) (results : List (List Octets)) (h : items ≠ []) :
    readPlain items s results = refuse s .badValue := by
  cases items with
  | nil => exact absurd rfl h
  | cons a l => rfl

end Sys2Proof.Machine
end

