-- ==== Sys2Proof/Laws/Operands.lean ====
section
/-! SUPPORT. What the readers of field items do (R180, R181): each says once when a reader answers a value, so that no
proof about a COMMAND unfolds it. -/

namespace Sys2Proof.Machine

theorem memberOf_eq_some {k : Nat} [NeZero k] (v : Nat) (i : Fin k) : memberOf k v = some i ↔ v = i.val + 1 := by
  have hk := i.isLt
  unfold memberOf
  split
  next h =>
    rw [Option.some_inj, Fin.ext_iff]
    show (v - 1) % k = i.val ↔ _
    rw [Nat.mod_eq_of_lt (by omega)]; omega
  next h => simp; omega

theorem bind_memberOf_eq_some {k : Nat} [NeZero k] (o : Option Nat) (i : Fin k) :
    o.bind (memberOf k) = some i ↔ o = some (i.val + 1) := by
  cases o <;> simp [memberOf_eq_some]

theorem fieldEnum_eq_some {α : Type} {decode : Nat → Option α} {code : α → Nat}
    (hc : ∀ v a, decode v = some a ↔ v = code a) (n : Nat) (items : List Item) (x : Option α) :
    fieldEnum n decode items = some x ↔ x.map code = fieldNat n items := by
  unfold fieldEnum
  cases h : fieldNat n items with
  | none => cases x <;> simp
  | some v =>
    cases x with
    | none => simp
    | some a => simp [hc, eq_comm]

theorem bind_code {α : Type} {decode : Nat → Option α} {code : α → Nat}
    (hc : ∀ v a, decode v = some a ↔ v = code a) (o : Option Nat) (a : α) : o.bind decode = some a ↔ o = some (code a) := by
  cases o <;> simp [hc]

theorem map_fin4 (o : Option Nat) (x : Option (Fin 4)) :
   o.map fin4 = x ↔ x.map Fin.val = o.map (fun v => min v 3) := by
  cases o <;> cases x <;> simp [fin4, Fin.ext_iff, eq_comm]

theorem fieldEnum_segment (n : Nat) (items : List Item) (x : Option (Option Nat)) :
    fieldEnum n segmentCode items = some x ↔
      x.map (fun g => g.getD 0) = fieldNat n items ∧ ∀ id, x = some (some id) → 1 ≤ id ∧ id ≤ 4094 := by
  unfold fieldEnum
  cases h : fieldNat n items with
  | none => cases x <;> simp
  | some v =>
    unfold segmentCode
    rcases x with _ | _ | id
    · simp
    · by_cases hv : v = 0
      · simp [hv]
      · by_cases h2 : v ≤ 4094 <;> simp [hv, h2, eq_comm]
    · by_cases hv : v = 0
      · simp [hv]; omega
      · by_cases h2 : v ≤ 4094 <;> simp [hv, h2] <;> omega

theorem policyCode_eq_some (v : Nat) (p : Policy) :
    policyCode v = some p ↔ v = (match p with | .auto => 0 | .manual => 1) := by
  cases p <;> (unfold policyCode; split <;> simp_all)

theorem redundancyCode_eq_some (v : Nat) (p : Redundancy) :
    redundancyCode v = some p ↔ v = (match p with | .none => 0 | .n1 => 1 | .grid => 2) := by
  cases p <;> (unfold redundancyCode; split <;> simp_all)

theorem fanModeCode_eq_some (v : Nat) (p : FanMode) :
    fanModeCode v = some p ↔ v = (match p with | .zone => 0 | .hottest => 1 | .full => 2 | .off => 3 | .manual => 4) := by
  cases p <;> (unfold fanModeCode; split <;> simp_all)

theorem belowCode_eq_some (v : Nat) (p : BelowLimit) :
    belowCode v = some p ↔ v = (match p with | .stop => 0 | .min => 1) := by
  cases p <;> (unfold belowCode; split <;> simp_all)

theorem flagCode_eq_some (v : Nat) (p : Bool) :
    flagCode v = some p ↔ v = flagValue p := by
  cases p <;> (unfold flagCode flagValue; split <;> simp_all)

theorem sweepModeCode_eq_some (v : Nat) (p : SweepMode) :
    sweepModeCode v = some p ↔ v = (match p with | .single => 0 | .repeating => 1) := by
  cases p <;> (unfold sweepModeCode; split <;> simp_all)

theorem triggerCode_eq_some (v : Nat) (p : TriggerSelect) :
    triggerCode v = some p ↔ v = (match p with | .command => 0 | .period => 1 | .change => 2) := by
  cases p <;> (unfold triggerCode; split <;> simp_all)

theorem uplinkCode_eq_some (v : Nat) (p : Uplink) :
    uplinkCode v = some p ↔ v = if p = .A then 1 else 2 := by
  cases p <;> (unfold uplinkCode; split <;> simp_all)

theorem formCode_eq_some (v : Nat) (p : ShutdownForm) :
    formCode v = some p ↔ v = (match p with | .off => 0 | .eject => 1) := by
  cases p <;> (unfold formCode; split <;> simp_all)

theorem selectCode_eq_some (v : Nat) (p : UplinkSelect) :
    selectCode v = some p ↔ v = (match p with | .a => 0 | .b => 1 | .pairA => 2 | .pairB => 3) := by
  cases p <;> (unfold selectCode; split <;> simp_all)

theorem segmentActionCode_eq_some (v : Nat) (p : SegmentAction) :
    segmentActionCode v = some p ↔ v = (match p with | .forward => 0 | .drop => 1 | .trap => 2) := by
  cases p <;> (unfold segmentActionCode; split <;> simp_all)

theorem admissionActionCode_eq_some (v : Nat) (p : AdmissionAction) :
    admissionActionCode v = some p ↔ v = if p = .allow then 0 else 1 := by
  cases p <;> (unfold admissionActionCode; split <;> simp_all)

theorem tableCode_eq_some (v : Nat) (p : TableSelector) :
    tableCode v = some p ↔ v = (match p with | .admission => 0 | .station => 1 | .segment => 2) := by
  cases p <;> (unfold tableCode; split <;> simp_all)

theorem classCode_eq_some (v : Nat) (p : Cls) :
    classCode v = some p ↔ v = p.val := by
  unfold classCode; split <;> simp [Fin.ext_iff]; omega

theorem channelCode_eq_some (v : Nat) (p : Channel) :
    channelCode v = some p ↔ v = p.val := by
  unfold channelCode; split <;> simp [Fin.ext_iff]; omega

theorem priorityCode_eq_some (v : Nat) (p : Fin 8) :
    priorityCode v = some p ↔ v = p.val := by
  unfold priorityCode; split <;> simp [Fin.ext_iff]; omega

theorem fieldEnum_zoneSet (n : Nat) (items : List Item) (x : Option (BitVec 4)) :
    fieldEnum n zoneSetCode items = some x ↔ x.map BitVec.toNat = fieldNat n items ∧ x ≠ some 0 := by
  unfold fieldEnum
  cases h : fieldNat n items with
  | none => cases x <;> simp
  | some v =>
    unfold zoneSetCode
    rcases x with _ | b
    · simp
    · have := b.isLt
      by_cases hv : 1 ≤ v ∧ v ≤ 15
      · simp only [hv, and_self, if_true, Option.map_some, Option.some.injEq, ne_eq, BitVec.toNat_eq, BitVec.toNat_ofNat]
        constructor
        · intro e; simp at e; simp; omega
        · rintro ⟨e, _⟩; omega
      · simp only [hv, if_false, Option.map_none, reduceCtorEq, Option.map_some, Option.some.injEq, ne_eq,
          BitVec.toNat_eq, false_iff]
        simp; omega

theorem zoneMapCode_eq_some (v : Nat) (p : Option Zone) :
    zoneMapCode v = some p ↔ v = (match p with | none => 0 | some k => k.val + 1) := by
  unfold zoneMapCode
  by_cases hv : v = 0
  · cases p <;> simp [hv]
  · cases p <;> simp [hv, memberOf_eq_some]

/-- A setting in 10 ms steps is stored as R3, R35, R83 and R99 word it. -/
theorem tenMsSteps_eq (hi v : Nat) (h : hi = 1000 ∨ hi = 2550) : tenMsSteps hi v = settingSteps hi v := by
  unfold tenMsSteps settingSteps
  rcases h with rfl | rfl
  all_goals
    split
    · omega
    · split <;> omega

/-- A value of n octets is below 256^n. -/
theorem natOf_lt (o : Octets) : natOf o < 256 ^ o.length := by
  induction o using List.reverseRecOn with
  | nil => decide
  | append_singleton o b ih =>
    have := b.isLt
    simp only [natOf, List.foldl_append, List.foldl_cons, List.foldl_nil, List.length_append, List.length_cons,
      List.length_nil, pow_succ] at ih ⊢
    omega

theorem map_ofNat {o : Option Nat} {w : Nat} (ho : ∀ v, o = some v → v < 2 ^ w) (x : Option (BitVec w)) :
    o.map (BitVec.ofNat w) = x ↔ x.map BitVec.toNat = o := by
  cases o with
  | none => cases x <;> simp
  | some v =>
    have := ho v rfl
    cases x with
    | none => simp
    | some b => simp [BitVec.toNat_eq, Nat.mod_eq_of_lt this, eq_comm]

theorem readEach_iff {α β : Type} {read : α → Option β} {R : α → β → Prop} (hr : ∀ a b, read a = some b ↔ R a b)
    (l : List α) (m : List β) : readEach read l = some m ↔ List.Forall₂ R l m := by
  induction l generalizing m with
  | nil => cases m <;> simp [readEach]
  | cons a l ih =>
    unfold readEach
    cases ha : read a with
    | none =>
      cases m with
      | nil => simp
      | cons b m => 
        have : ¬R a b := by rw [← hr]; simp [ha]
        simp [this]
    | some b =>
      cases hl : readEach read l with
      | none =>
        cases m with
        | nil => simp
        | cons b' m => 
          have : ¬List.Forall₂ R l m := by rw [← ih]; simp [hl]
          simp [this]
      | some bs =>
        cases m with
        | nil => simp
        | cons b' m =>
          simp only [Option.some.injEq, List.cons.injEq, List.forall₂_cons, ← hr, ← ih, ha, hl]

theorem hasField_iff (n : Nat) (items : List Item) : hasField n items = true ↔ fieldNat n items ≠ none := by
  unfold hasField fieldNat; cases fieldOctets n items <;> simp

end Sys2Proof.Machine
end

