-- ==== Sys2Proof/Laws/State.lean ====
section
/-! SUPPORT. What each update of the state leaves and gives, one lemma per field per update. -/

namespace Sys2Proof.Machine

/-! ### The parts of a slot record as updates of the record -/

@[simp] theorem State.modAdm_eq (s : State) (i : Slot) (f : AdmissionPart → AdmissionPart) :
    s.modAdm i f = s.modSlot i fun r => { r with adm := f r.adm } := rfl
@[simp] theorem State.modInv_eq (s : State) (i : Slot) (f : InventoryRecord → InventoryRecord) :
    s.modInv i f = s.modSlot i fun r => { r with inv := f r.inv } := rfl
@[simp] theorem State.modBud_eq (s : State) (i : Slot) (f : BudgetPart → BudgetPart) :
    s.modBud i f = s.modSlot i fun r => { r with bud := f r.bud } := rfl
@[simp] theorem State.modRail_eq (s : State) (i : Slot) (f : RailPart → RailPart) :
    s.modRail i f = s.modSlot i fun r => { r with rail := f r.rail } := rfl
@[simp] theorem State.modTel_eq (s : State) (i : Slot) (f : TelemetryPart → TelemetryPart) :
    s.modTel i f = s.modSlot i fun r => { r with tel := f r.tel } := rfl
@[simp] theorem State.modQue_eq (s : State) (i : Slot) (f : QueuePart → QueuePart) :
    s.modQue i f = s.modSlot i fun r => { r with que := f r.que } := rfl

/-! ### Reads after writes -/

theorem State.slot_eq (s : State) (i : Slot) : s.slot i = s.slots[i] := rfl

theorem State.slot_modSlot (s : State) (i j : Slot) (f : SlotRecord → SlotRecord) :
    (s.modSlot i f).slot j = if j = i then f (s.slot i) else s.slot j := by
  simp only [State.slot, State.modSlot, Fin.getElem_fin, Vector.getElem_set, Fin.ext_iff, eq_comm]

@[simp] theorem State.slot_modSlot_same (s : State) (i : Slot) (f : SlotRecord → SlotRecord) :
    (s.modSlot i f).slot i = f (s.slot i) := by rw [State.slot_modSlot, if_pos rfl]

theorem State.slot_modSlot_ne (s : State) {i j : Slot} (f : SlotRecord → SlotRecord) (h : j ≠ i) :
    (s.modSlot i f).slot j = s.slot j := by rw [State.slot_modSlot, if_neg h]

theorem State.zones_modZone (s : State) (z w : Zone) (f : ZoneRecord → ZoneRecord) :
    (s.modZone z f).zones[w] = if w = z then f s.zones[z] else s.zones[w] := by
  simp only [State.modZone, Fin.getElem_fin, Vector.getElem_set, Fin.ext_iff, eq_comm]

theorem State.fans_modFan (s : State) (f g : Fan) (h : FanRecord → FanRecord) :
    (s.modFan f h).fans[g] = if g = f then h s.fans[f] else s.fans[g] := by
  simp only [State.modFan, Fin.getElem_fin, Vector.getElem_set, Fin.ext_iff, eq_comm]

theorem State.channels_modChannel (s : State) (c d : Channel) (f : ChannelRecord → ChannelRecord) :
    (s.modChannel c f).channels[d] = if d = c then f s.channels[c] else s.channels[d] := by
  simp only [State.modChannel, Fin.getElem_fin, Vector.getElem_set, Fin.ext_iff, eq_comm]

theorem State.bays_modBay (s : State) (b d : Bay) (f : BayRecord → BayRecord) :
    (s.modBay b f).bays[d] = if d = b then f s.bays[b] else s.bays[d] := by
  simp only [State.modBay, Fin.getElem_fin, Vector.getElem_set, Fin.ext_iff, eq_comm]

theorem State.uplink_modUplink (s : State) (u v : Uplink) (f : UplinkRecord → UplinkRecord) :
    (s.modUplink u f).uplink v = if v = u then f (s.uplink u) else s.uplink v := by
  cases u <;> cases v <;> rfl

theorem State.counters_modCounters (s : State) (p q : Port) (f : PortCounters → PortCounters) :
    (s.modCounters p f).counters[portIndex q] =
      if portIndex q = portIndex p then f s.counters[portIndex p] else s.counters[portIndex q] := by
  simp only [State.modCounters, Fin.getElem_fin, Vector.getElem_set, Fin.ext_iff, eq_comm]

@[simp] theorem setQueue_queue (q : List Request) (s : State) : (setQueue q s).budget.queue = q := rfl
@[simp] theorem setQueue_lanesInUse (q : List Request) (s : State) :
    (setQueue q s).budget.lanesInUse = s.budget.lanesInUse := rfl
@[simp] theorem setQueue_laneCount (q : List Request) (s : State) :
    (setQueue q s).budget.laneCount = s.budget.laneCount := rfl
@[simp] theorem setQueue_allowance (q : List Request) (s : State) :
    (setQueue q s).budget.allowance = s.budget.allowance := rfl
@[simp] theorem setQueue_margin (q : List Request) (s : State) : (setQueue q s).budget.margin = s.budget.margin := rfl

/-! ### State.modSlot -/

@[simp] theorem State.modSlot_timing (s : State) (i : Slot) (f : SlotRecord → SlotRecord) :
    (s.modSlot i f).timing = s.timing := rfl
@[simp] theorem State.modSlot_admissionTable (s : State) (i : Slot) (f : SlotRecord → SlotRecord) :
    (s.modSlot i f).admissionTable = s.admissionTable := rfl
@[simp] theorem State.modSlot_admissionDefault (s : State) (i : Slot) (f : SlotRecord → SlotRecord) :
    (s.modSlot i f).admissionDefault = s.admissionDefault := rfl
@[simp] theorem State.modSlot_stations (s : State) (i : Slot) (f : SlotRecord → SlotRecord) :
    (s.modSlot i f).stations = s.stations := rfl
@[simp] theorem State.modSlot_bays (s : State) (i : Slot) (f : SlotRecord → SlotRecord) :
    (s.modSlot i f).bays = s.bays := rfl
@[simp] theorem State.modSlot_supply (s : State) (i : Slot) (f : SlotRecord → SlotRecord) :
    (s.modSlot i f).supply = s.supply := rfl
@[simp] theorem State.modSlot_budget (s : State) (i : Slot) (f : SlotRecord → SlotRecord) :
    (s.modSlot i f).budget = s.budget := rfl
@[simp] theorem State.modSlot_sweep (s : State) (i : Slot) (f : SlotRecord → SlotRecord) :
    (s.modSlot i f).sweep = s.sweep := rfl
@[simp] theorem State.modSlot_channels (s : State) (i : Slot) (f : SlotRecord → SlotRecord) :
    (s.modSlot i f).channels = s.channels := rfl
@[simp] theorem State.modSlot_zones (s : State) (i : Slot) (f : SlotRecord → SlotRecord) :
    (s.modSlot i f).zones = s.zones := rfl
@[simp] theorem State.modSlot_thermal (s : State) (i : Slot) (f : SlotRecord → SlotRecord) :
    (s.modSlot i f).thermal = s.thermal := rfl
@[simp] theorem State.modSlot_fans (s : State) (i : Slot) (f : SlotRecord → SlotRecord) :
    (s.modSlot i f).fans = s.fans := rfl
@[simp] theorem State.modSlot_fanReservation (s : State) (i : Slot) (f : SlotRecord → SlotRecord) :
    (s.modSlot i f).fanReservation = s.fanReservation := rfl
@[simp] theorem State.modSlot_tachGate (s : State) (i : Slot) (f : SlotRecord → SlotRecord) :
    (s.modSlot i f).tachGate = s.tachGate := rfl
@[simp] theorem State.modSlot_fwd (s : State) (i : Slot) (f : SlotRecord → SlotRecord) :
    (s.modSlot i f).fwd = s.fwd := rfl
@[simp] theorem State.modSlot_counters (s : State) (i : Slot) (f : SlotRecord → SlotRecord) :
    (s.modSlot i f).counters = s.counters := rfl
@[simp] theorem State.modSlot_uplinkA (s : State) (i : Slot) (f : SlotRecord → SlotRecord) :
    (s.modSlot i f).uplinkA = s.uplinkA := rfl
@[simp] theorem State.modSlot_uplinkB (s : State) (i : Slot) (f : SlotRecord → SlotRecord) :
    (s.modSlot i f).uplinkB = s.uplinkB := rfl
@[simp] theorem State.modSlot_freeCells (s : State) (i : Slot) (f : SlotRecord → SlotRecord) :
    (s.modSlot i f).freeCells = s.freeCells := rfl
@[simp] theorem State.modSlot_trapQueue (s : State) (i : Slot) (f : SlotRecord → SlotRecord) :
    (s.modSlot i f).trapQueue = s.trapQueue := rfl
@[simp] theorem State.modSlot_mgmt (s : State) (i : Slot) (f : SlotRecord → SlotRecord) :
    (s.modSlot i f).mgmt = s.mgmt := rfl
@[simp] theorem State.modSlot_pending (s : State) (i : Slot) (f : SlotRecord → SlotRecord) :
    (s.modSlot i f).pending = s.pending := rfl
@[simp] theorem State.modSlot_uplink (s : State) (i : Slot) (f : SlotRecord → SlotRecord) (v : Uplink) :
    (s.modSlot i f).uplink v = s.uplink v := by
  cases v <;> rfl

/-! ### State.modBay -/

@[simp] theorem State.modBay_slots (s : State) (b : Bay) (f : BayRecord → BayRecord) :
    (s.modBay b f).slots = s.slots := rfl
@[simp] theorem State.modBay_timing (s : State) (b : Bay) (f : BayRecord → BayRecord) :
    (s.modBay b f).timing = s.timing := rfl
@[simp] theorem State.modBay_admissionTable (s : State) (b : Bay) (f : BayRecord → BayRecord) :
    (s.modBay b f).admissionTable = s.admissionTable := rfl
@[simp] theorem State.modBay_admissionDefault (s : State) (b : Bay) (f : BayRecord → BayRecord) :
    (s.modBay b f).admissionDefault = s.admissionDefault := rfl
@[simp] theorem State.modBay_stations (s : State) (b : Bay) (f : BayRecord → BayRecord) :
    (s.modBay b f).stations = s.stations := rfl
@[simp] theorem State.modBay_supply (s : State) (b : Bay) (f : BayRecord → BayRecord) :
    (s.modBay b f).supply = s.supply := rfl
@[simp] theorem State.modBay_budget (s : State) (b : Bay) (f : BayRecord → BayRecord) :
    (s.modBay b f).budget = s.budget := rfl
@[simp] theorem State.modBay_sweep (s : State) (b : Bay) (f : BayRecord → BayRecord) :
    (s.modBay b f).sweep = s.sweep := rfl
@[simp] theorem State.modBay_channels (s : State) (b : Bay) (f : BayRecord → BayRecord) :
    (s.modBay b f).channels = s.channels := rfl
@[simp] theorem State.modBay_zones (s : State) (b : Bay) (f : BayRecord → BayRecord) :
    (s.modBay b f).zones = s.zones := rfl
@[simp] theorem State.modBay_thermal (s : State) (b : Bay) (f : BayRecord → BayRecord) :
    (s.modBay b f).thermal = s.thermal := rfl
@[simp] theorem State.modBay_fans (s : State) (b : Bay) (f : BayRecord → BayRecord) :
    (s.modBay b f).fans = s.fans := rfl
@[simp] theorem State.modBay_fanReservation (s : State) (b : Bay) (f : BayRecord → BayRecord) :
    (s.modBay b f).fanReservation = s.fanReservation := rfl
@[simp] theorem State.modBay_tachGate (s : State) (b : Bay) (f : BayRecord → BayRecord) :
    (s.modBay b f).tachGate = s.tachGate := rfl
@[simp] theorem State.modBay_fwd (s : State) (b : Bay) (f : BayRecord → BayRecord) : (s.modBay b f).fwd = s.fwd := rfl
@[simp] theorem State.modBay_counters (s : State) (b : Bay) (f : BayRecord → BayRecord) :
    (s.modBay b f).counters = s.counters := rfl
@[simp] theorem State.modBay_uplinkA (s : State) (b : Bay) (f : BayRecord → BayRecord) :
    (s.modBay b f).uplinkA = s.uplinkA := rfl
@[simp] theorem State.modBay_uplinkB (s : State) (b : Bay) (f : BayRecord → BayRecord) :
    (s.modBay b f).uplinkB = s.uplinkB := rfl
@[simp] theorem State.modBay_freeCells (s : State) (b : Bay) (f : BayRecord → BayRecord) :
    (s.modBay b f).freeCells = s.freeCells := rfl
@[simp] theorem State.modBay_trapQueue (s : State) (b : Bay) (f : BayRecord → BayRecord) :
    (s.modBay b f).trapQueue = s.trapQueue := rfl
@[simp] theorem State.modBay_mgmt (s : State) (b : Bay) (f : BayRecord → BayRecord) :
    (s.modBay b f).mgmt = s.mgmt := rfl
@[simp] theorem State.modBay_pending (s : State) (b : Bay) (f : BayRecord → BayRecord) :
    (s.modBay b f).pending = s.pending := rfl
@[simp] theorem State.modBay_slot (s : State) (b : Bay) (f : BayRecord → BayRecord) (j : Slot) :
    (s.modBay b f).slot j = s.slot j := rfl
@[simp] theorem State.modBay_uplink (s : State) (b : Bay) (f : BayRecord → BayRecord) (v : Uplink) :
    (s.modBay b f).uplink v = s.uplink v := by
  cases v <;> rfl

/-! ### State.modZone -/

@[simp] theorem State.modZone_slots (s : State) (z : Zone) (f : ZoneRecord → ZoneRecord) :
    (s.modZone z f).slots = s.slots := rfl
@[simp] theorem State.modZone_timing (s : State) (z : Zone) (f : ZoneRecord → ZoneRecord) :
    (s.modZone z f).timing = s.timing := rfl
@[simp] theorem State.modZone_admissionTable (s : State) (z : Zone) (f : ZoneRecord → ZoneRecord) :
    (s.modZone z f).admissionTable = s.admissionTable := rfl
@[simp] theorem State.modZone_admissionDefault (s : State) (z : Zone) (f : ZoneRecord → ZoneRecord) :
    (s.modZone z f).admissionDefault = s.admissionDefault := rfl
@[simp] theorem State.modZone_stations (s : State) (z : Zone) (f : ZoneRecord → ZoneRecord) :
    (s.modZone z f).stations = s.stations := rfl
@[simp] theorem State.modZone_bays (s : State) (z : Zone) (f : ZoneRecord → ZoneRecord) :
    (s.modZone z f).bays = s.bays := rfl
@[simp] theorem State.modZone_supply (s : State) (z : Zone) (f : ZoneRecord → ZoneRecord) :
    (s.modZone z f).supply = s.supply := rfl
@[simp] theorem State.modZone_budget (s : State) (z : Zone) (f : ZoneRecord → ZoneRecord) :
    (s.modZone z f).budget = s.budget := rfl
@[simp] theorem State.modZone_sweep (s : State) (z : Zone) (f : ZoneRecord → ZoneRecord) :
    (s.modZone z f).sweep = s.sweep := rfl
@[simp] theorem State.modZone_channels (s : State) (z : Zone) (f : ZoneRecord → ZoneRecord) :
    (s.modZone z f).channels = s.channels := rfl
@[simp] theorem State.modZone_thermal (s : State) (z : Zone) (f : ZoneRecord → ZoneRecord) :
    (s.modZone z f).thermal = s.thermal := rfl
@[simp] theorem State.modZone_fans (s : State) (z : Zone) (f : ZoneRecord → ZoneRecord) :
    (s.modZone z f).fans = s.fans := rfl
@[simp] theorem State.modZone_fanReservation (s : State) (z : Zone) (f : ZoneRecord → ZoneRecord) :
    (s.modZone z f).fanReservation = s.fanReservation := rfl
@[simp] theorem State.modZone_tachGate (s : State) (z : Zone) (f : ZoneRecord → ZoneRecord) :
    (s.modZone z f).tachGate = s.tachGate := rfl
@[simp] theorem State.modZone_fwd (s : State) (z : Zone) (f : ZoneRecord → ZoneRecord) :
    (s.modZone z f).fwd = s.fwd := rfl
@[simp] theorem State.modZone_counters (s : State) (z : Zone) (f : ZoneRecord → ZoneRecord) :
    (s.modZone z f).counters = s.counters := rfl
@[simp] theorem State.modZone_uplinkA (s : State) (z : Zone) (f : ZoneRecord → ZoneRecord) :
    (s.modZone z f).uplinkA = s.uplinkA := rfl
@[simp] theorem State.modZone_uplinkB (s : State) (z : Zone) (f : ZoneRecord → ZoneRecord) :
    (s.modZone z f).uplinkB = s.uplinkB := rfl
@[simp] theorem State.modZone_freeCells (s : State) (z : Zone) (f : ZoneRecord → ZoneRecord) :
    (s.modZone z f).freeCells = s.freeCells := rfl
@[simp] theorem State.modZone_trapQueue (s : State) (z : Zone) (f : ZoneRecord → ZoneRecord) :
    (s.modZone z f).trapQueue = s.trapQueue := rfl
@[simp] theorem State.modZone_mgmt (s : State) (z : Zone) (f : ZoneRecord → ZoneRecord) :
    (s.modZone z f).mgmt = s.mgmt := rfl
@[simp] theorem State.modZone_pending (s : State) (z : Zone) (f : ZoneRecord → ZoneRecord) :
    (s.modZone z f).pending = s.pending := rfl
@[simp] theorem State.modZone_slot (s : State) (z : Zone) (f : ZoneRecord → ZoneRecord) (j : Slot) :
    (s.modZone z f).slot j = s.slot j := rfl
@[simp] theorem State.modZone_uplink (s : State) (z : Zone) (f : ZoneRecord → ZoneRecord) (v : Uplink) :
    (s.modZone z f).uplink v = s.uplink v := by
  cases v <;> rfl

/-! ### State.modChannel -/

@[simp] theorem State.modChannel_slots (s : State) (c : Channel) (f : ChannelRecord → ChannelRecord) :
    (s.modChannel c f).slots = s.slots := rfl
@[simp] theorem State.modChannel_timing (s : State) (c : Channel) (f : ChannelRecord → ChannelRecord) :
    (s.modChannel c f).timing = s.timing := rfl
@[simp] theorem State.modChannel_admissionTable (s : State) (c : Channel) (f : ChannelRecord → ChannelRecord) :
    (s.modChannel c f).admissionTable = s.admissionTable := rfl
@[simp] theorem State.modChannel_admissionDefault (s : State) (c : Channel) (f : ChannelRecord → ChannelRecord) :
    (s.modChannel c f).admissionDefault = s.admissionDefault := rfl
@[simp] theorem State.modChannel_stations (s : State) (c : Channel) (f : ChannelRecord → ChannelRecord) :
    (s.modChannel c f).stations = s.stations := rfl
@[simp] theorem State.modChannel_bays (s : State) (c : Channel) (f : ChannelRecord → ChannelRecord) :
    (s.modChannel c f).bays = s.bays := rfl
@[simp] theorem State.modChannel_supply (s : State) (c : Channel) (f : ChannelRecord → ChannelRecord) :
    (s.modChannel c f).supply = s.supply := rfl
@[simp] theorem State.modChannel_budget (s : State) (c : Channel) (f : ChannelRecord → ChannelRecord) :
    (s.modChannel c f).budget = s.budget := rfl
@[simp] theorem State.modChannel_sweep (s : State) (c : Channel) (f : ChannelRecord → ChannelRecord) :
    (s.modChannel c f).sweep = s.sweep := rfl
@[simp] theorem State.modChannel_zones (s : State) (c : Channel) (f : ChannelRecord → ChannelRecord) :
    (s.modChannel c f).zones = s.zones := rfl
@[simp] theorem State.modChannel_thermal (s : State) (c : Channel) (f : ChannelRecord → ChannelRecord) :
    (s.modChannel c f).thermal = s.thermal := rfl
@[simp] theorem State.modChannel_fans (s : State) (c : Channel) (f : ChannelRecord → ChannelRecord) :
    (s.modChannel c f).fans = s.fans := rfl
@[simp] theorem State.modChannel_fanReservation (s : State) (c : Channel) (f : ChannelRecord → ChannelRecord) :
    (s.modChannel c f).fanReservation = s.fanReservation := rfl
@[simp] theorem State.modChannel_tachGate (s : State) (c : Channel) (f : ChannelRecord → ChannelRecord) :
    (s.modChannel c f).tachGate = s.tachGate := rfl
@[simp] theorem State.modChannel_fwd (s : State) (c : Channel) (f : ChannelRecord → ChannelRecord) :
    (s.modChannel c f).fwd = s.fwd := rfl
@[simp] theorem State.modChannel_counters (s : State) (c : Channel) (f : ChannelRecord → ChannelRecord) :
    (s.modChannel c f).counters = s.counters := rfl
@[simp] theorem State.modChannel_uplinkA (s : State) (c : Channel) (f : ChannelRecord → ChannelRecord) :
    (s.modChannel c f).uplinkA = s.uplinkA := rfl
@[simp] theorem State.modChannel_uplinkB (s : State) (c : Channel) (f : ChannelRecord → ChannelRecord) :
    (s.modChannel c f).uplinkB = s.uplinkB := rfl
@[simp] theorem State.modChannel_freeCells (s : State) (c : Channel) (f : ChannelRecord → ChannelRecord) :
    (s.modChannel c f).freeCells = s.freeCells := rfl
@[simp] theorem State.modChannel_trapQueue (s : State) (c : Channel) (f : ChannelRecord → ChannelRecord) :
    (s.modChannel c f).trapQueue = s.trapQueue := rfl
@[simp] theorem State.modChannel_mgmt (s : State) (c : Channel) (f : ChannelRecord → ChannelRecord) :
    (s.modChannel c f).mgmt = s.mgmt := rfl
@[simp] theorem State.modChannel_pending (s : State) (c : Channel) (f : ChannelRecord → ChannelRecord) :
    (s.modChannel c f).pending = s.pending := rfl
@[simp] theorem State.modChannel_slot (s : State) (c : Channel) (f : ChannelRecord → ChannelRecord) (j : Slot) :
    (s.modChannel c f).slot j = s.slot j := rfl
@[simp] theorem State.modChannel_uplink (s : State) (c : Channel) (f : ChannelRecord → ChannelRecord) (v : Uplink) :
    (s.modChannel c f).uplink v = s.uplink v := by
  cases v <;> rfl

/-! ### State.modFan -/

@[simp] theorem State.modFan_slots (s : State) (f : Fan) (g : FanRecord → FanRecord) :
    (s.modFan f g).slots = s.slots := rfl
@[simp] theorem State.modFan_timing (s : State) (f : Fan) (g : FanRecord → FanRecord) :
    (s.modFan f g).timing = s.timing := rfl
@[simp] theorem State.modFan_admissionTable (s : State) (f : Fan) (g : FanRecord → FanRecord) :
    (s.modFan f g).admissionTable = s.admissionTable := rfl
@[simp] theorem State.modFan_admissionDefault (s : State) (f : Fan) (g : FanRecord → FanRecord) :
    (s.modFan f g).admissionDefault = s.admissionDefault := rfl
@[simp] theorem State.modFan_stations (s : State) (f : Fan) (g : FanRecord → FanRecord) :
    (s.modFan f g).stations = s.stations := rfl
@[simp] theorem State.modFan_bays (s : State) (f : Fan) (g : FanRecord → FanRecord) :
    (s.modFan f g).bays = s.bays := rfl
@[simp] theorem State.modFan_supply (s : State) (f : Fan) (g : FanRecord → FanRecord) :
    (s.modFan f g).supply = s.supply := rfl
@[simp] theorem State.modFan_budget (s : State) (f : Fan) (g : FanRecord → FanRecord) :
    (s.modFan f g).budget = s.budget := rfl
@[simp] theorem State.modFan_sweep (s : State) (f : Fan) (g : FanRecord → FanRecord) :
    (s.modFan f g).sweep = s.sweep := rfl
@[simp] theorem State.modFan_channels (s : State) (f : Fan) (g : FanRecord → FanRecord) :
    (s.modFan f g).channels = s.channels := rfl
@[simp] theorem State.modFan_zones (s : State) (f : Fan) (g : FanRecord → FanRecord) :
    (s.modFan f g).zones = s.zones := rfl
@[simp] theorem State.modFan_thermal (s : State) (f : Fan) (g : FanRecord → FanRecord) :
    (s.modFan f g).thermal = s.thermal := rfl
@[simp] theorem State.modFan_fanReservation (s : State) (f : Fan) (g : FanRecord → FanRecord) :
    (s.modFan f g).fanReservation = s.fanReservation := rfl
@[simp] theorem State.modFan_tachGate (s : State) (f : Fan) (g : FanRecord → FanRecord) :
    (s.modFan f g).tachGate = s.tachGate := rfl
@[simp] theorem State.modFan_fwd (s : State) (f : Fan) (g : FanRecord → FanRecord) : (s.modFan f g).fwd = s.fwd := rfl
@[simp] theorem State.modFan_counters (s : State) (f : Fan) (g : FanRecord → FanRecord) :
    (s.modFan f g).counters = s.counters := rfl
@[simp] theorem State.modFan_uplinkA (s : State) (f : Fan) (g : FanRecord → FanRecord) :
    (s.modFan f g).uplinkA = s.uplinkA := rfl
@[simp] theorem State.modFan_uplinkB (s : State) (f : Fan) (g : FanRecord → FanRecord) :
    (s.modFan f g).uplinkB = s.uplinkB := rfl
@[simp] theorem State.modFan_freeCells (s : State) (f : Fan) (g : FanRecord → FanRecord) :
    (s.modFan f g).freeCells = s.freeCells := rfl
@[simp] theorem State.modFan_trapQueue (s : State) (f : Fan) (g : FanRecord → FanRecord) :
    (s.modFan f g).trapQueue = s.trapQueue := rfl
@[simp] theorem State.modFan_mgmt (s : State) (f : Fan) (g : FanRecord → FanRecord) :
    (s.modFan f g).mgmt = s.mgmt := rfl
@[simp] theorem State.modFan_pending (s : State) (f : Fan) (g : FanRecord → FanRecord) :
    (s.modFan f g).pending = s.pending := rfl
@[simp] theorem State.modFan_slot (s : State) (f : Fan) (g : FanRecord → FanRecord) (j : Slot) :
    (s.modFan f g).slot j = s.slot j := rfl
@[simp] theorem State.modFan_uplink (s : State) (f : Fan) (g : FanRecord → FanRecord) (v : Uplink) :
    (s.modFan f g).uplink v = s.uplink v := by
  cases v <;> rfl

/-! ### State.modCounters -/

@[simp] theorem State.modCounters_slots (s : State) (p : Port) (f : PortCounters → PortCounters) :
    (s.modCounters p f).slots = s.slots := rfl
@[simp] theorem State.modCounters_timing (s : State) (p : Port) (f : PortCounters → PortCounters) :
    (s.modCounters p f).timing = s.timing := rfl
@[simp] theorem State.modCounters_admissionTable (s : State) (p : Port) (f : PortCounters → PortCounters) :
    (s.modCounters p f).admissionTable = s.admissionTable := rfl
@[simp] theorem State.modCounters_admissionDefault (s : State) (p : Port) (f : PortCounters → PortCounters) :
    (s.modCounters p f).admissionDefault = s.admissionDefault := rfl
@[simp] theorem State.modCounters_stations (s : State) (p : Port) (f : PortCounters → PortCounters) :
    (s.modCounters p f).stations = s.stations := rfl
@[simp] theorem State.modCounters_bays (s : State) (p : Port) (f : PortCounters → PortCounters) :
    (s.modCounters p f).bays = s.bays := rfl
@[simp] theorem State.modCounters_supply (s : State) (p : Port) (f : PortCounters → PortCounters) :
    (s.modCounters p f).supply = s.supply := rfl
@[simp] theorem State.modCounters_budget (s : State) (p : Port) (f : PortCounters → PortCounters) :
    (s.modCounters p f).budget = s.budget := rfl
@[simp] theorem State.modCounters_sweep (s : State) (p : Port) (f : PortCounters → PortCounters) :
    (s.modCounters p f).sweep = s.sweep := rfl
@[simp] theorem State.modCounters_channels (s : State) (p : Port) (f : PortCounters → PortCounters) :
    (s.modCounters p f).channels = s.channels := rfl
@[simp] theorem State.modCounters_zones (s : State) (p : Port) (f : PortCounters → PortCounters) :
    (s.modCounters p f).zones = s.zones := rfl
@[simp] theorem State.modCounters_thermal (s : State) (p : Port) (f : PortCounters → PortCounters) :
    (s.modCounters p f).thermal = s.thermal := rfl
@[simp] theorem State.modCounters_fans (s : State) (p : Port) (f : PortCounters → PortCounters) :
    (s.modCounters p f).fans = s.fans := rfl
@[simp] theorem State.modCounters_fanReservation (s : State) (p : Port) (f : PortCounters → PortCounters) :
    (s.modCounters p f).fanReservation = s.fanReservation := rfl
@[simp] theorem State.modCounters_tachGate (s : State) (p : Port) (f : PortCounters → PortCounters) :
    (s.modCounters p f).tachGate = s.tachGate := rfl
@[simp] theorem State.modCounters_fwd (s : State) (p : Port) (f : PortCounters → PortCounters) :
    (s.modCounters p f).fwd = s.fwd := rfl
@[simp] theorem State.modCounters_uplinkA (s : State) (p : Port) (f : PortCounters → PortCounters) :
    (s.modCounters p f).uplinkA = s.uplinkA := rfl
@[simp] theorem State.modCounters_uplinkB (s : State) (p : Port) (f : PortCounters → PortCounters) :
    (s.modCounters p f).uplinkB = s.uplinkB := rfl
@[simp] theorem State.modCounters_freeCells (s : State) (p : Port) (f : PortCounters → PortCounters) :
    (s.modCounters p f).freeCells = s.freeCells := rfl
@[simp] theorem State.modCounters_trapQueue (s : State) (p : Port) (f : PortCounters → PortCounters) :
    (s.modCounters p f).trapQueue = s.trapQueue := rfl
@[simp] theorem State.modCounters_mgmt (s : State) (p : Port) (f : PortCounters → PortCounters) :
    (s.modCounters p f).mgmt = s.mgmt := rfl
@[simp] theorem State.modCounters_pending (s : State) (p : Port) (f : PortCounters → PortCounters) :
    (s.modCounters p f).pending = s.pending := rfl
@[simp] theorem State.modCounters_slot (s : State) (p : Port) (f : PortCounters → PortCounters) (j : Slot) :
    (s.modCounters p f).slot j = s.slot j := rfl
@[simp] theorem State.modCounters_uplink (s : State) (p : Port) (f : PortCounters → PortCounters) (v : Uplink) :
    (s.modCounters p f).uplink v = s.uplink v := by
  cases v <;> rfl

/-! ### State.modUplink -/

@[simp] theorem State.modUplink_slots (s : State) (u : Uplink) (f : UplinkRecord → UplinkRecord) :
    (s.modUplink u f).slots = s.slots := by cases u <;> rfl
@[simp] theorem State.modUplink_timing (s : State) (u : Uplink) (f : UplinkRecord → UplinkRecord) :
    (s.modUplink u f).timing = s.timing := by cases u <;> rfl
@[simp] theorem State.modUplink_admissionTable (s : State) (u : Uplink) (f : UplinkRecord → UplinkRecord) :
    (s.modUplink u f).admissionTable = s.admissionTable := by cases u <;> rfl
@[simp] theorem State.modUplink_admissionDefault (s : State) (u : Uplink) (f : UplinkRecord → UplinkRecord) :
    (s.modUplink u f).admissionDefault = s.admissionDefault := by cases u <;> rfl
@[simp] theorem State.modUplink_stations (s : State) (u : Uplink) (f : UplinkRecord → UplinkRecord) :
    (s.modUplink u f).stations = s.stations := by cases u <;> rfl
@[simp] theorem State.modUplink_bays (s : State) (u : Uplink) (f : UplinkRecord → UplinkRecord) :
    (s.modUplink u f).bays = s.bays := by cases u <;> rfl
@[simp] theorem State.modUplink_supply (s : State) (u : Uplink) (f : UplinkRecord → UplinkRecord) :
    (s.modUplink u f).supply = s.supply := by cases u <;> rfl
@[simp] theorem State.modUplink_budget (s : State) (u : Uplink) (f : UplinkRecord → UplinkRecord) :
    (s.modUplink u f).budget = s.budget := by cases u <;> rfl
@[simp] theorem State.modUplink_sweep (s : State) (u : Uplink) (f : UplinkRecord → UplinkRecord) :
    (s.modUplink u f).sweep = s.sweep := by cases u <;> rfl
@[simp] theorem State.modUplink_channels (s : State) (u : Uplink) (f : UplinkRecord → UplinkRecord) :
    (s.modUplink u f).channels = s.channels := by cases u <;> rfl
@[simp] theorem State.modUplink_zones (s : State) (u : Uplink) (f : UplinkRecord → UplinkRecord) :
    (s.modUplink u f).zones = s.zones := by cases u <;> rfl
@[simp] theorem State.modUplink_thermal (s : State) (u : Uplink) (f : UplinkRecord → UplinkRecord) :
    (s.modUplink u f).thermal = s.thermal := by cases u <;> rfl
@[simp] theorem State.modUplink_fans (s : State) (u : Uplink) (f : UplinkRecord → UplinkRecord) :
    (s.modUplink u f).fans = s.fans := by cases u <;> rfl
@[simp] theorem State.modUplink_fanReservation (s : State) (u : Uplink) (f : UplinkRecord → UplinkRecord) :
    (s.modUplink u f).fanReservation = s.fanReservation := by cases u <;> rfl
@[simp] theorem State.modUplink_tachGate (s : State) (u : Uplink) (f : UplinkRecord → UplinkRecord) :
    (s.modUplink u f).tachGate = s.tachGate := by cases u <;> rfl
@[simp] theorem State.modUplink_fwd (s : State) (u : Uplink) (f : UplinkRecord → UplinkRecord) :
    (s.modUplink u f).fwd = s.fwd := by cases u <;> rfl
@[simp] theorem State.modUplink_counters (s : State) (u : Uplink) (f : UplinkRecord → UplinkRecord) :
    (s.modUplink u f).counters = s.counters := by cases u <;> rfl
@[simp] theorem State.modUplink_freeCells (s : State) (u : Uplink) (f : UplinkRecord → UplinkRecord) :
    (s.modUplink u f).freeCells = s.freeCells := by cases u <;> rfl
@[simp] theorem State.modUplink_trapQueue (s : State) (u : Uplink) (f : UplinkRecord → UplinkRecord) :
    (s.modUplink u f).trapQueue = s.trapQueue := by cases u <;> rfl
@[simp] theorem State.modUplink_mgmt (s : State) (u : Uplink) (f : UplinkRecord → UplinkRecord) :
    (s.modUplink u f).mgmt = s.mgmt := by cases u <;> rfl
@[simp] theorem State.modUplink_pending (s : State) (u : Uplink) (f : UplinkRecord → UplinkRecord) :
    (s.modUplink u f).pending = s.pending := by cases u <;> rfl
@[simp] theorem State.modUplink_slot (s : State) (u : Uplink) (f : UplinkRecord → UplinkRecord) (j : Slot) :
    (s.modUplink u f).slot j = s.slot j := by cases u <;> rfl

/-! ### setQueue -/

@[simp] theorem setQueue_slots (s : State) (q : List Request) : (setQueue q s).slots = s.slots := rfl
@[simp] theorem setQueue_timing (s : State) (q : List Request) : (setQueue q s).timing = s.timing := rfl
@[simp] theorem setQueue_admissionTable (s : State) (q : List Request) :
    (setQueue q s).admissionTable = s.admissionTable := rfl
@[simp] theorem setQueue_admissionDefault (s : State) (q : List Request) :
    (setQueue q s).admissionDefault = s.admissionDefault := rfl
@[simp] theorem setQueue_stations (s : State) (q : List Request) : (setQueue q s).stations = s.stations := rfl
@[simp] theorem setQueue_bays (s : State) (q : List Request) : (setQueue q s).bays = s.bays := rfl
@[simp] theorem setQueue_supply (s : State) (q : List Request) : (setQueue q s).supply = s.supply := rfl
@[simp] theorem setQueue_sweep (s : State) (q : List Request) : (setQueue q s).sweep = s.sweep := rfl
@[simp] theorem setQueue_channels (s : State) (q : List Request) : (setQueue q s).channels = s.channels := rfl
@[simp] theorem setQueue_zones (s : State) (q : List Request) : (setQueue q s).zones = s.zones := rfl
@[simp] theorem setQueue_thermal (s : State) (q : List Request) : (setQueue q s).thermal = s.thermal := rfl
@[simp] theorem setQueue_fans (s : State) (q : List Request) : (setQueue q s).fans = s.fans := rfl
@[simp] theorem setQueue_fanReservation (s : State) (q : List Request) :
    (setQueue q s).fanReservation = s.fanReservation := rfl
@[simp] theorem setQueue_tachGate (s : State) (q : List Request) : (setQueue q s).tachGate = s.tachGate := rfl
@[simp] theorem setQueue_fwd (s : State) (q : List Request) : (setQueue q s).fwd = s.fwd := rfl
@[simp] theorem setQueue_counters (s : State) (q : List Request) : (setQueue q s).counters = s.counters := rfl
@[simp] theorem setQueue_uplinkA (s : State) (q : List Request) : (setQueue q s).uplinkA = s.uplinkA := rfl
@[simp] theorem setQueue_uplinkB (s : State) (q : List Request) : (setQueue q s).uplinkB = s.uplinkB := rfl
@[simp] theorem setQueue_freeCells (s : State) (q : List Request) : (setQueue q s).freeCells = s.freeCells := rfl
@[simp] theorem setQueue_trapQueue (s : State) (q : List Request) : (setQueue q s).trapQueue = s.trapQueue := rfl
@[simp] theorem setQueue_mgmt (s : State) (q : List Request) : (setQueue q s).mgmt = s.mgmt := rfl
@[simp] theorem setQueue_pending (s : State) (q : List Request) : (setQueue q s).pending = s.pending := rfl
@[simp] theorem setQueue_slot (s : State) (q : List Request) (j : Slot) : (setQueue q s).slot j = s.slot j := rfl
@[simp] theorem setQueue_uplink (s : State) (q : List Request) (v : Uplink) : (setQueue q s).uplink v = s.uplink v := by
  cases v <;> rfl

end Sys2Proof.Machine
end

