-- ==== Sys2Proof/Laws/Queues.lean ====
section
/-! SUPPORT. What the queue operations can change, each said once: offers, pauses, releases, transmissions. -/

namespace Sys2Proof.Machine

/-- A fold of steps that touch the slot records alone touches the slot records alone. -/
theorem foldl_slots {α : Type} (l : List α) (step : State → α → State)
    (h : ∀ s a, ∃ ss, step s a = { s with slots := ss }) (s : State) : ∃ ss, l.foldl step s = { s with slots := ss } := by
  induction l generalizing s with
  | nil => exact ⟨s.slots, rfl⟩
  | cons a l ih =>
    obtain ⟨ss, h1⟩ := h s a
    obtain ⟨ts, h2⟩ := ih (step s a)
    exact ⟨ts, by rw [List.foldl_cons, h2, h1]⟩

theorem modUplink_frame (u : Uplink) (f : UplinkRecord → UplinkRecord) (s : State) :
    ∃ a b, s.modUplink u f = { s with uplinkA := a, uplinkB := b } := by
  cases u
  · exact ⟨_, s.uplinkB, rfl⟩
  · exact ⟨s.uplinkA, _, rfl⟩

theorem modClass_frame (u : Uplink) (c : Cls) (f : ClassQueue → ClassQueue) (s : State) :
    ∃ a b, s.modClass u c f = { s with uplinkA := a, uplinkB := b } := modUplink_frame u _ s

/-- A slot that is paused changes in its flag, its pending pause and its refresh timer (R153). -/
theorem pauseSlot_frame (i : Slot) (s : State) : ∃ ss, pauseSlot i s = { s with slots := ss } := by
  unfold pauseSlot
  split
  · exact ⟨s.slots, rfl⟩
  · exact ⟨_, rfl⟩

theorem releaseSlot_frame (i : Slot) (s : State) : ∃ ss, releaseSlot i s = { s with slots := ss } := ⟨_, rfl⟩

/-- The end of a congestion touches the slots and the uplinks (R153). -/
theorem endCongestion_frame (u : Uplink) (c : Cls) (s : State) :
    ∃ ss a b, endCongestion u c s = { s with slots := ss, uplinkA := a, uplinkB := b } := by
  obtain ⟨a, b, h1⟩ := modClass_frame u c clearCongestion s
  simp only [endCongestion, h1]
  obtain ⟨ss, h2⟩ := foldl_slots allSlots
    (fun (t : State) i => if inSlotSet (s.uplink u).queues[c].held i && (t.slot i).que.backpressure &&
      !heldAnywhere t i then releaseSlot i t else t)
    (by
      intro t i
      split
      · exact releaseSlot_frame i t
      · exact ⟨t.slots, rfl⟩) { s with uplinkA := a, uplinkB := b }
  exact ⟨ss, a, b, h2⟩

theorem downwardTest_frame (u : Uplink) (c : Cls) (s : State) :
    ∃ ss a b, downwardTest u c s = { s with slots := ss, uplinkA := a, uplinkB := b } := by
  unfold downwardTest
  split
  · exact endCongestion_frame u c s
  · exact ⟨s.slots, s.uplinkA, s.uplinkB, rfl⟩

/-- A watermark test after an admission touches the slots and the uplinks (R153). -/
theorem upwardTest_frame (u : Uplink) (c : Cls) (source : Option Slot) (s : State) :
    ∃ ss a b, upwardTest u c source s = { s with slots := ss, uplinkA := a, uplinkB := b } := by
  simp only [upwardTest]
  split
  · split
    · exact ⟨s.slots, s.uplinkA, s.uplinkB, rfl⟩
    · rename_i i
      obtain ⟨a, b, h1⟩ := modClass_frame u c (fun q => { q with held := slotSetInsert q.held i }) s
      obtain ⟨ss, h2⟩ := pauseSlot_frame i { s with uplinkA := a, uplinkB := b }
      exact ⟨ss, a, b, by rw [h1, h2]⟩
  · split
    · obtain ⟨a, b, h1⟩ := modClass_frame u c
        (fun q => { q with congested := true, held := sourcesOf ((s.uplink u).held c) }) s
      obtain ⟨ss, h2⟩ := foldl_slots allSlots
        (fun t i => if inSlotSet (sourcesOf ((s.uplink u).held c)) i then pauseSlot i t else t)
        (by
          intro t i
          split
          · exact pauseSlot_frame i t
          · exact ⟨t.slots, rfl⟩) { s with uplinkA := a, uplinkB := b }
      exact ⟨ss, a, b, by rw [h1, h2]⟩
    · exact ⟨s.slots, s.uplinkA, s.uplinkB, rfl⟩

/-- An offer to a class queue is refused by one of the conditions of R149, or takes the frame's cells and places it at
the tail, the watermarks tested. -/
theorem offerClass_cases (u : Uplink) (c : Cls) (e : QueueEntry) (s : State) :
    (classAdmits s u c s.freeCells e.frame.cells = false ∧ offerClass u c e s = none) ∨
      (classAdmits s u c s.freeCells e.frame.cells = true ∧ offerClass u c e s =
        some (upwardTest u c e.source ({ s with freeCells := s.freeCells - e.frame.cells }.modClass u c
          fun q => { q with entries := q.entries ++ [e] }))) := by
  unfold offerClass
  cases h : classAdmits s u c s.freeCells e.frame.cells
  · exact .inl ⟨rfl, rfl⟩
  · exact .inr ⟨rfl, rfl⟩

/-- An admission to a class queue touches the slots, the uplinks and the free cells. -/
theorem offerClass_frame (u : Uplink) (c : Cls) (e : QueueEntry) (s t : State) (h : offerClass u c e s = some t) :
    ∃ ss a b n, t = { s with slots := ss, uplinkA := a, uplinkB := b, freeCells := n } := by
  obtain ⟨-, h1⟩ | ⟨-, h1⟩ := offerClass_cases u c e s
  · rw [h1] at h
    cases h
  · rw [h1] at h
    cases h
    obtain ⟨a, b, h2⟩ := modClass_frame u c (fun q => { q with entries := q.entries ++ [e] })
      { s with freeCells := s.freeCells - e.frame.cells }
    obtain ⟨ss, a', b', h3⟩ := upwardTest_frame u c e.source
      { s with freeCells := s.freeCells - e.frame.cells, uplinkA := a, uplinkB := b }
    exact ⟨ss, a', b', _, by rw [h2, h3]⟩

/-- A transmission that begins on an uplink touches the uplinks. -/
theorem beginUplink_frame (u : Uplink) (s : State) :
    ∃ a b, beginUplink u s = { s with uplinkA := a, uplinkB := b } := by
  simp only [beginUplink]
  split
  · split
    · exact ⟨s.uplinkA, s.uplinkB, rfl⟩
    · split
      · exact ⟨s.uplinkA, s.uplinkB, rfl⟩
      · rename_i c _ _ e rest _
        obtain ⟨a, b, h1⟩ := modClass_frame u c (fun q => { q with entries := rest }) s
        obtain ⟨a', b', h2⟩ := modUplink_frame u
          (fun r => { r with
            flight := some
              ({ cls := c, entry := { e with frame := sealFrame e.frame }, duration := transmissionTime e.frame }
                : UplinkFlight) }) { s with uplinkA := a, uplinkB := b }
        exact ⟨a', b', by rw [h1, h2]⟩
  · exact ⟨s.uplinkA, s.uplinkB, rfl⟩

/-- The transmissions that begin at the end of an event touch the slots and the uplinks (R150, R152). -/
theorem beginAll_frame (s : State) : ∃ ss a b, beginAll s = { s with slots := ss, uplinkA := a, uplinkB := b } := by
  obtain ⟨a, b, h1⟩ := beginUplink_frame .A s
  obtain ⟨a', b', h2⟩ := beginUplink_frame .B { s with uplinkA := a, uplinkB := b }
  obtain ⟨ss, h3⟩ := foldl_slots allSlots (fun s i => beginSlot i s) (fun _ _ => ⟨_, rfl⟩)
    { s with uplinkA := a', uplinkB := b' }
  exact ⟨ss, a', b', by rw [beginAll, h1, h2, h3]⟩

/-- A NOTICE that is sent touches the slots, the uplinks, the free cells and the notice number (R168). -/
theorem sendNotice_frame (before after : State) :
    ∃ ss a b n k, sendNotice before after =
      { after with
        slots := ss, uplinkA := a, uplinkB := b, freeCells := n, mgmt := { after.mgmt with notice := k } } := by
  unfold sendNotice
  split
  · split
    · exact ⟨after.slots, after.uplinkA, after.uplinkB, after.freeCells, after.mgmt.notice, rfl⟩
    · split
      · exact ⟨after.slots, after.uplinkA, after.uplinkB, after.freeCells, after.mgmt.notice, rfl⟩
      · rename_i t h
        obtain ⟨ss, a, b, n, rfl⟩ := offerClass_frame _ _ _ _ _ h
        exact ⟨ss, a, b, n, _, rfl⟩
  · exact ⟨after.slots, after.uplinkA, after.uplinkB, after.freeCells, after.mgmt.notice, rfl⟩

/-- One RESPONSE frame touches the slots, the uplinks and the free cells, or the counters where it is dropped (R165). -/
theorem offerResponse_frame (o : Origin) (status : Status) (items : Octets) (s : State) :
    ∃ ss a b n k, offerResponse o status items s =
      { s with slots := ss, uplinkA := a, uplinkB := b, freeCells := n, counters := k } := by
  unfold offerResponse
  split
  · rename_i t h
    obtain ⟨ss, a, b, n, rfl⟩ := offerClass_frame _ _ _ _ _ h
    exact ⟨ss, a, b, n, s.counters, rfl⟩
  · exact ⟨s.slots, s.uplinkA, s.uplinkB, s.freeCells, _, rfl⟩

/-- A RESPONSE of any number of frames touches the slots, the uplinks, the free cells and the counters (R165, R182). -/
theorem respond_frame (o : Origin) (status : Status) (results : List (List Octets)) (s : State) :
    ∃ ss a b n k, respond o status results s =
      { s with slots := ss, uplinkA := a, uplinkB := b, freeCells := n, counters := k } := by
  unfold respond
  generalize packItems [] (resultItems 1 results) = l
  induction l generalizing s with
  | nil => exact ⟨s.slots, s.uplinkA, s.uplinkB, s.freeCells, s.counters, rfl⟩
  | cons x l ih =>
    obtain ⟨ss, a, b, n, k, h1⟩ := offerResponse_frame o status x s
    obtain ⟨ss', a', b', n', k', h2⟩ := ih (offerResponse o status x s)
    exact ⟨ss', a', b', n', k', by rw [List.foldl_cons, h2, h1]⟩

end Sys2Proof.Machine
end

