-- ==== Sys2Proof/Laws/Thermal.lean ====
section
/-! SUPPORT. What the thermal and fan operations can change, said once: alerts, fans, the override, zone temperatures
and F, and nothing else. -/

namespace Sys2Proof.Machine

/-- A raise touches the alert set alone. -/
theorem raise_frame (a : Alert) (s : State) :
    ∃ al, raise a s = { s with mgmt := { s.mgmt with alerts := al } } := by
  unfold raise
  split
  · exact ⟨s.mgmt.alerts, rfl⟩
  · exact ⟨_, rfl⟩

/-- A raised alert stands in the set (R168). -/
theorem mem_insertAlert (a b : Alert) (l : List Alert) : b ∈ insertAlert a l ↔ b = a ∨ b ∈ l := by
  induction l with
  | nil => simp [insertAlert]
  | cons x l ih =>
    simp only [insertAlert]
    split
    · rw [List.mem_cons]
    · rw [List.mem_cons, List.mem_cons, ih]; tauto

theorem mem_raise (a b : Alert) (s : State) : b ∈ (raise a s).mgmt.alerts ↔ b = a ∨ b ∈ s.mgmt.alerts := by
  unfold raise
  split
  · constructor
    · exact Or.inr
    · rintro (rfl | h)
      · assumption
      · exact h
  · exact mem_insertAlert a b s.mgmt.alerts

/-- A fold of steps that touch the fans alone touches the fans alone. -/
theorem foldl_fans {α : Type} (l : List α) (step : State → α → State)
    (h : ∀ s a, ∃ fs, step s a = { s with fans := fs }) (s : State) : ∃ fs, l.foldl step s = { s with fans := fs } := by
  induction l generalizing s with
  | nil => exact ⟨s.fans, rfl⟩
  | cons a l ih =>
    obtain ⟨fs, h1⟩ := h s a
    obtain ⟨gs, h2⟩ := ih (step s a)
    exact ⟨gs, by rw [List.foldl_cons, h2, h1]⟩

theorem changeFan_frame (f : Fan) (g : FanRecord → FanRecord) (s : State) :
    ∃ fs, changeFan f g s = { s with fans := fs } := ⟨_, rfl⟩

theorem retarget_frame (f : Fan) (s : State) : ∃ fs, retarget f s = { s with fans := fs } := by
  simp only [retarget]
  split
  · exact ⟨s.fans, rfl⟩
  · exact ⟨_, rfl⟩

theorem settleAll_frame (s : State) : ∃ fs, settleAll s = { s with fans := fs } :=
  foldl_fans allFans _ (fun _ _ => ⟨_, rfl⟩) s

theorem retemp_frame (zs : List Zone) (s : State) : ∃ z, retemp zs s = { s with zones := z } := by
  induction zs generalizing s with
  | nil => exact ⟨s.zones, rfl⟩
  | cons a l ih =>
    obtain ⟨z, h⟩ := ih (s.modZone a fun r => { r with temp := zoneTemp s a })
    exact ⟨z, by rw [retemp, List.foldl_cons]; exact h⟩

/-- An evaluation of the override touches the fans, the override and the alert set (R105, R119, R120). -/
theorem evaluateOverride_frame (s : State) :
    ∃ fs b al, evaluateOverride s =
      { s with fans := fs, thermal := { s.thermal with overrideOn := b }, mgmt := { s.mgmt with alerts := al } } := by
  unfold evaluateOverride
  split
  · split
    · obtain ⟨fs, h⟩ := settleAll_frame { s with thermal := { s.thermal with overrideOn := false } }
      exact ⟨fs, false, s.mgmt.alerts, h⟩
    · exact ⟨s.fans, s.thermal.overrideOn, s.mgmt.alerts, rfl⟩
  · split
    · obtain ⟨al, h1⟩ := raise_frame { kind := .override, index := 0 }
        { s with thermal := { s.thermal with overrideOn := true } }
      obtain ⟨fs, h2⟩ := settleAll_frame
        (raiseChassis .override { s with thermal := { s.thermal with overrideOn := true } })
      exact ⟨fs, true, al, by rw [h2, raiseChassis, h1]⟩
    · exact ⟨s.fans, s.thermal.overrideOn, s.mgmt.alerts, rfl⟩

/-- A thermal change handed on touches the fans, the override, F and the alert set. -/
theorem propagate_frame (before after : State) :
    ∃ fs b F al, propagate before after =
      { after with
        fans := fs, thermal := { after.thermal with overrideOn := b }, fanReservation := F,
        mgmt := { after.mgmt with alerts := al } } := by
  simp only [propagate]
  split
  · exact ⟨after.fans, after.thermal.overrideOn, after.fanReservation, after.mgmt.alerts, rfl⟩
  · obtain ⟨fs, h1⟩ := foldl_fans allFans
      (fun s f => if allZones.any (fun z => zoneChanged before after z && follows s.fans[f] z) then retarget f s else s)
      (by
        intro s f
        split
        · exact retarget_frame f s
        · exact ⟨s.fans, rfl⟩) after
    rw [h1]
    split
    · obtain ⟨gs, b, al, h2⟩ := evaluateOverride_frame { after with fans := fs }
      rw [h2]
      exact ⟨gs, b, _, al, rfl⟩
    · exact ⟨fs, after.thermal.overrideOn, _, after.mgmt.alerts, rfl⟩

/-- A zone recomputation touches the zone temperatures and what they lead to: fans, override, F and alerts. -/
theorem rezone_frame (zs : List Zone) (s : State) :
    ∃ z fs b F al, rezone zs s =
      { s with
        zones := z, fans := fs, thermal := { s.thermal with overrideOn := b }, fanReservation := F,
        mgmt := { s.mgmt with alerts := al } } := by
  obtain ⟨z, h1⟩ := retemp_frame zs s
  obtain ⟨fs, b, F, al, h2⟩ := propagate_frame s (retemp zs s)
  exact ⟨z, fs, b, F, al, by rw [rezone, h2, h1]⟩

theorem rezoneSlot_frame (i : Slot) (s : State) :
    ∃ z fs b F al, rezoneSlot i s =
      { s with
        zones := z, fans := fs, thermal := { s.thermal with overrideOn := b }, fanReservation := F,
        mgmt := { s.mgmt with alerts := al } } := rezone_frame _ s

@[simp] theorem rezone_slots (zs : List Zone) (s : State) : (rezone zs s).slots = s.slots := by
  obtain ⟨_, _, _, _, _, h⟩ := rezone_frame zs s
  rw [h]

@[simp] theorem rezoneSlot_slots (i : Slot) (s : State) : (rezoneSlot i s).slots = s.slots := rezone_slots _ s

@[simp] theorem rezoneSlot_slot (i j : Slot) (s : State) : (rezoneSlot i s).slot j = s.slot j := by
  rw [State.slot, rezoneSlot_slots, State.slot]

@[simp] theorem rezoneSlot_budget (i : Slot) (s : State) : (rezoneSlot i s).budget = s.budget := by
  obtain ⟨_, _, _, _, _, h⟩ := rezoneSlot_frame i s
  rw [h]

@[simp] theorem raise_slot (a : Alert) (s : State) (j : Slot) : (raise a s).slot j = s.slot j := by
  obtain ⟨_, h⟩ := raise_frame a s
  rw [h]
  rfl

@[simp] theorem raiseSlot_slot (k : AlertKind) (i : Slot) (s : State) (j : Slot) :
    (raiseSlot k i s).slot j = s.slot j := raise_slot _ s j

@[simp] theorem raiseChassis_slot (k : AlertKind) (s : State) (j : Slot) : (raiseChassis k s).slot j = s.slot j :=
  raise_slot _ s j

/-- `largest` says once what it can answer: nothing for no values, and else the value that none exceeds. -/
theorem largest_eq_none (l : List Int) : largest l = none ↔ l = [] := by
  cases l with
  | nil => simp [largest]
  | cons a l => simp only [largest]; split <;> simp

theorem largest_eq_some (l : List Int) (t : Int) : largest l = some t ↔ t ∈ l ∧ ∀ v ∈ l, v ≤ t := by
  induction l generalizing t with
  | nil => simp [largest]
  | cons a l ih =>
    simp only [largest]
    split
    next h => rw [largest_eq_none] at h; subst h; simp; constructor <;> (intro h; try constructor) <;> omega
    next y h =>
      have hy := (ih y).mp h
      simp only [Option.some.injEq, List.mem_cons, forall_eq_or_imp]
      constructor
      · rintro rfl
        refine ⟨?_, by omega, fun v hv => by have := hy.2 v hv; omega⟩
        rcases le_total a y with h' | h'
        · right; rw [max_eq_right h']; exact hy.1
        · left; omega
      · rintro ⟨h1, h2, h3⟩
        have := h3 y hy.1
        rcases h1 with rfl | h1
        · omega
        · have := hy.2 t h1; omega

/-- The valid readings of a slot are the readings its channels hold. -/
theorem mem_validReadings (t : TelemetryPart) (v : Int) :
    v ∈ validReadings t ↔ ∃ k : Channel, t.readings[k] = some v := by
  have h : ∀ k : Channel, k ∈ allChannels := by decide
  simp only [validReadings, List.mem_filterMap, h, true_and]

end Sys2Proof.Machine
end

