-- ==== Sys2Proof/Laws/Slots.lean ====
section
/-! SUPPORT. What the slot operations of the Budget Arbiter and the Rail Sequencer do, each said once: the state moves,
the main-off, a power-off, caps, grants. -/

namespace Sys2Proof.Machine

/-- A move to a state changes that slot's state and the grant queue alone. -/
theorem moveTo_frame (i : Slot) (st : SlotState) (s : State) :
    ∃ q, moveTo i st s = setQueue q (s.modAdm i fun a => { a with state := st }) := by
  cases st <;> exact ⟨_, rfl⟩

theorem moveTo_slot (i : Slot) (st : SlotState) (s : State) (j : Slot) :
    (moveTo i st s).slot j =
      if j = i then { s.slot i with adm := { (s.slot i).adm with state := st } } else s.slot j := by
  obtain ⟨q, h⟩ := moveTo_frame i st s
  rw [h, setQueue_slot, State.modAdm_eq, State.slot_modSlot]

@[simp] theorem moveTo_slot_same (i : Slot) (st : SlotState) (s : State) :
    (moveTo i st s).slot i = { s.slot i with adm := { (s.slot i).adm with state := st } } := by
  rw [moveTo_slot, if_pos rfl]

theorem moveTo_slot_ne (i : Slot) (st : SlotState) (s : State) {j : Slot} (h : j ≠ i) :
    (moveTo i st s).slot j = s.slot j := by
  rw [moveTo_slot, if_neg h]

/-- The grant queue after a move: the slot's request gone, and a new one for STANDBY_WAIT and POWER_WAIT (R14). -/
theorem moveTo_queue (i : Slot) (st : SlotState) (s : State) :
    (moveTo i st s).budget.queue =
      match st with
      | .standbyWait =>
        insertStandby { slot := i, kind := .standby, short := false } (withoutRequest i s.budget.queue)
      | .powerWait =>
        insertMain (s.modAdm i fun a => { a with state := st }).priorityOf { slot := i, kind := .main, short := false }
          (withoutRequest i s.budget.queue)
      | .empty | .announceWait | .unidentified | .denied | .standby | .powering | .online | .capped | .shuttingDown
      | .fault => withoutRequest i s.budget.queue := by
  cases st <;> rfl

theorem moveTo_lanes (i : Slot) (st : SlotState) (s : State) :
    (moveTo i st s).budget.lanesInUse = s.budget.lanesInUse := by
  obtain ⟨q, h⟩ := moveTo_frame i st s
  rw [h]
  rfl

/-- A lane freed touches the lanes in use alone. -/
theorem freeLane_frame (i : Slot) (s : State) :
    ∃ n, freeLane i s = { s with budget := { s.budget with lanesInUse := n } } := by
  unfold freeLane
  split
  · exact ⟨_, rfl⟩
  · exact ⟨s.budget.lanesInUse, rfl⟩

@[simp] theorem freeLane_slot (i : Slot) (s : State) (j : Slot) : (freeLane i s).slot j = s.slot j := by
  obtain ⟨n, h⟩ := freeLane_frame i s
  rw [h]
  rfl

/-- The record of a slot after a main-off (R76). -/
def offRecord (st : SlotState) (r : SlotRecord) : SlotRecord :=
  { r with
    rail := railsOff r.rail, bud := releaseMain r.bud, que := discardPowerFrames r.que,
    adm := { r.adm with state := st } }

/-- A main-off changes the record of its slot alone (R76). -/
theorem mainOff_slot (i : Slot) (st : SlotState) (s : State) (j : Slot) :
    (mainOff i st s).slot j = if j = i then offRecord st (s.slot i) else s.slot j := by
  simp only [mainOff, rezoneSlot_slot, moveTo_slot]
  by_cases h : j = i
  · subst h
    simp [offRecord]
  · simp [h, State.slot_modSlot_ne]

@[simp] theorem mainOff_slot_same (i : Slot) (st : SlotState) (s : State) :
    (mainOff i st s).slot i = offRecord st (s.slot i) := by
  rw [mainOff_slot, if_pos rfl]

/-- A slot that gives up main power through the main-off holds its standby W alone. -/
theorem commitment_offRecord (st : SlotState) (r : SlotRecord) : commitment (offRecord st r) = r.bud.standbyW := rfl

/-- The lanes in use after a main-off: one fewer where the slot was in POWERING (R57, R76). -/
theorem mainOff_lanes (i : Slot) (st : SlotState) (s : State) :
    (mainOff i st s).budget.lanesInUse =
      if s.slotState i = .powering then s.budget.lanesInUse - 1 else s.budget.lanesInUse := by
  simp only [mainOff, rezoneSlot_budget, moveTo_lanes, State.modSlot_budget, freeLane]
  split <;> rfl

end Sys2Proof.Machine
end

