-- ==== Sys2Proof/Tests/Slice0.lean ====
section
/-! SUPPORT. Tests. First what the check of well-formed commands refuses; then values that the spec's own tables and
worked examples give; then, for each statement of Certificates/Slice0/Obligations.lean that has hypotheses, a state and
operands that meet them, clause by clause. Every small state is written from the reset state by the updates of Ops. -/

namespace Sys2Proof.Tests

open Sys2Proof Sys2Proof.Machine

/-! ### Helpers -/

/-- An untagged control frame to the part's own address, padded with 44 octets. -/
def envelope : Envelope where
  destination := 0x02E56A000000#48
  source := 0x0A0000000001#48
  tag := none
  frameType := 0x88B6#16
  sequence := 7
  padding := List.replicate 44 0
  fcs := 0
  crcMatches := true

def item (field : Nat) (value : Octets) : Item := { field := BitVec.ofNat 8 field, value := value }

/-- The reset state with slot 1 in a state. -/
def at1 (st : SlotState) : State := State.reset.modAdm 0 fun a => { a with state := st }

theorem arrives (s : State) (h : s.fwd = State.reset.fwd) (n : Nat) (hn : n ≤ 1000) : ControlArrives s envelope n := by
  have hs : s.station = 0x02E56A000000#48 := by rw [State.station, h]; decide
  have hl : envelopeLength envelope n = 68 + n := by simp [envelopeLength, envelope, tagOctets]; omega
  refine ⟨rfl, by omega, ?_, .inl hs.symm, ?_, ?_, by omega⟩
  · rw [hl, h]; show 68 + n ≤ 1522; omega
  · rw [h]; rfl
  · rw [h]; exact ⟨by decide, by decide⟩

/-- The arrival premise of every COMMAND statement, for each state below: they keep the reset frame types and flags. -/
theorem command (s : State) (h : s.fwd = State.reset.fwd) (hm : s.uplinkA.management = true) (items : List Item)
    (hn : itemsLength items ≤ 998) : CommandArrives s .A envelope items :=
  ⟨arrives s h _ (by omega), hm⟩

/-! ### Well-formed commands -/

theorem test_wellFormed_refuses_announce_of_256 :
    (Instr.announce 0 envelope ⟨1, Vector.replicate 16 0, 1, 300, 100, List.replicate 256 0⟩).wellFormed = false := by
  simp only [Instr.wellFormed, List.length_replicate]
  decide

theorem test_wellFormed_refuses_telemetry_of_256 :
    (Instr.telemetry 0 envelope (List.replicate 256 ⟨0, 0⟩)).wellFormed = false := by
  simp only [Instr.wellFormed, List.length_replicate]
  decide

theorem test_wellFormed_refuses_unknown_with_known_code :
    (Instr.unknownCommand .A envelope 0x10#16 []).wellFormed = false := by decide

theorem test_wellFormed_refuses_items_past_length :
    (Instr.setSlot .A envelope [item 1 (List.replicate 65531 0)]).wellFormed = false := by
  simp only [Instr.wellFormed, itemsWellFormed, itemsLength, item, List.length_replicate]
  decide

theorem test_wellFormed_accepts :
    (Instr.setSlot .A envelope [item 1 [9]]).wellFormed = true ∧
      (Instr.unknownCommand .A envelope 0x0A#16 []).wellFormed = true := by decide

/-! ### Values of the spec -/

/-- The table of the reset curve (chapter 7). -/
theorem test_reset_curve :
    [0, 64, 96, 128, 180, 192, 207, 255].map (curveAt FanRecord.reset.curve) = [0, 3, 6, 9, 18, 20, 24, 36] := by decide

/-- The worked curve 0, 4, 11, 24, 47 (chapter 7). -/
theorem test_worked_curve :
    [96, 159, 180, 205, 207, 223].map (curveAt ⟨0, 4, 11, 24, 47⟩) = [8, 18, 22, 29, 30, 36] := by decide

/-- The demands of the worked case: lower temperature 40, range 10, minimum duty 96 (chapter 7). -/
theorem test_demand :
    [38, 39, 44, 47, 48, 50].map (fun t => demand { ZoneRecord.reset with temp := t, low := 40, range := 10 }
      { FanRecord.reset with minDuty := 96 }) = [96, 96, 159, 207, 223, 255] ∧
    demand { ZoneRecord.reset with temp := 39, low := 40, range := 10 }
      { FanRecord.reset with minDuty := 96, below := .stop } = 0 := by decide

/-- A frame of n octets with its CRC. -/
def frameOf (n : Nat) : Frame := { octets := List.replicate (n - 4) 0, fcs := none }

/-- Cells of 128 octets and transmission times at 8 ns an octet with 20 octets around the frame (R148, R150). -/
theorem test_cells_and_times :
    [64, 128, 129, 1522, 2000].map (fun n => (frameOf n).cells) = [1, 1, 2, 12, 16] ∧
      [64, 1500, 1522].map (fun n => (flightOf (frameOf n) true).duration) = [672, 12160, 12336] := by
  simp only [List.map, frameOf, Frame.cells, Frame.length, flightOf, transmissionTime, List.length_replicate]
  decide

/-- The refresh length is half the pause time in whole milliseconds, at least 1 (R154). -/
theorem test_refresh : [1, 4096, 65535].map refreshLength = [1, 1, 16] := by decide

/-- READ_POWER right after reset: F is 216 W with no capacity, so H is -216 W in two's complement (R49, R72, R181). -/
theorem test_negative_headroom : [[0xFF, 0x28]] ∈ powerResults State.reset := by decide

/-- SET_QUEUE that carries one watermark answers the pair that it stores (R160). -/
theorem test_set_queue_answers_the_pair :
    (setClassQueue .A 3 none (some 100) none State.reset).results = [[], [[0, 100]], [[0, 32]], [[0]]] := by decide

/-- N1 with one bay delivering gives 0, with two the smaller one (R38). -/
theorem test_n1 :
    rawFigure .n1 (State.reset.modBay 0 fun b => { b with present := true, good := true }).bays = 0 ∧
      rawFigure .n1 ((State.reset.modBay 0 fun b => { b with present := true, good := true }).modBay 3 fun b =>
        { b with present := true, good := true, rating := 700 }).bays = 700 := by decide

/-- The worked SET_SLOT of chapter 11: its octets, its content of 39 octets with the CRC, and its fields after the
clamps. -/
def workedItems : List Item := [item 1 [9], item 3 [7], item 7 [0, 0]]

def workedEnvelope : Envelope := { envelope with sequence := 0x0107, padding := List.replicate 25 0 }

theorem test_worked_set_slot_octets :
    (composeControl workedEnvelope 0x21#8 (commandOctets 0x10#16 workedItems)).octets =
      [0x02, 0xE5, 0x6A, 0, 0, 0, 0x0A, 0, 0, 0, 0, 1, 0x88, 0xB6, 1, 0x21, 0x01, 0x07, 0, 15, 0, 0x10,
        1, 0, 1, 9, 3, 0, 1, 7, 7, 0, 2, 0, 0] ++ List.replicate 25 0 := by decide

theorem test_worked_set_slot_is_taken :
    frameClass State.reset (.uplink .A) (composeControl workedEnvelope 0x21#8 (commandOctets 0x10#16 workedItems)).octets =
      .command .A 0x0A0000000001#48 0x0107#16 0x10#16 workedItems ∧
    slotArgs workedItems = some (8, ⟨none, some 3, none, none, none, some 1⟩) ∧
    slotArgs (workedItems ++ [item 4 [5]]) = none := by decide

/-- With the control length written as 16 the frame is malformed (chapter 11). -/
theorem test_worked_length_16_is_malformed :
    frameClass State.reset (.uplink .A)
      ([0x02, 0xE5, 0x6A, 0, 0, 0, 0x0A, 0, 0, 0, 0, 1, 0x88, 0xB6, 1, 0x21, 0x01, 0x07, 0, 16, 0, 0x10,
        1, 0, 1, 9, 3, 0, 1, 7, 7, 0, 2, 0, 0] ++ List.replicate 25 0) = .malformed := by decide

/-- SET_SLOT ends with the settings stored and the manager's station as destination of notices (chapter 11). -/
theorem test_worked_set_slot_runs :
    ∃ t, exec (.setSlot .A workedEnvelope workedItems) State.reset = .next t ∧ (t.slot 8).adm.priority = 3 ∧
      (t.slot 8).adm.quanta = 1 ∧ t.mgmt.destination = some (0x0A0000000001#48, .A) :=
  ⟨_, rfl, by decide⟩

/-- No word spells a command, so a placed word changes nothing. -/
theorem test_no_word_spells_a_command (s : State) : s.withFetchWord 8 0 = s := rfl

/-! ### A state that meets every invariant, with something in every table and queue -/

def frame1 : Frame := frameOf 64

/-- Slot 1 waits for main power and holds class 3 of uplink A congested, slot 2 waits for standby power, slot 1 owns one
station; one entry stands in the segment and admission tables. -/
def busy : State :=
  let s := { State.reset with
    budget := { State.reset.budget with
      queue := [{ slot := 1, kind := .standby, short := false }, { slot := 0, kind := .main, short := true }] }
    supply := { State.reset.supply with raw := 1000, capacity := 1000 }
    stations := [{ address := 0x0A0000000001#48, owner := 0 }]
    admissionTable := [{ bladeType := 5, rule := { action := .allow, maximum := 200, priority := some 0 } }]
    fwd := { State.reset.fwd with segments := [⟨10, 1, .a, .forward, false, none⟩] }
    freeCells := 510, pending := [.tachPulse 0] }
  let s := s.modClass .A 3 fun q => { q with
    entries := [⟨frame1, some 0⟩, ⟨frame1, some 0⟩], marks := { high := 2, low := 1 }, congested := true, held := 1 }
  let s := s.modSlot 0 fun r => { r with
    adm := { r.adm with state := .powerWait, presenceLine := true, filtered := true }
    inv := { r.inv with present := true, announced := true, addresses := [⟨0x0A0000000001#48, .entered⟩] }
    bud := { r.bud with standbyW := 20 }, rail := { r.rail with standbyRail := true }
    que := { r.que with backpressure := true, refresh := .running 1 } }
  s.modSlot 1 fun r => { r with
    adm := { r.adm with state := .standbyWait, presenceLine := true, filtered := true }
    inv := { r.inv with present := true } }

theorem busy_runs : ∃ t, step busy = .next t := ⟨_, rfl⟩

theorem busy_poolBalance : PoolBalance busy := by unfold PoolBalance; decide

theorem busy_powerConsistent : PowerConsistent busy := by
  unfold PowerConsistent QueueMatches LanesMatch SlotsConsistent OutputsFollow BudgetFollows FiltersFollow
  decide

theorem busy_queueOrdered : QueueOrdered busy := by unfold QueueOrdered standsBefore; decide

theorem busy_budgetSafe : BudgetSafe busy := by unfold BudgetSafe; exact .inl (by decide)

theorem busy_stations : StationsConsistent busy := by unfold StationsConsistent; decide

theorem busy_lanes : LanesBounded busy := by unfold LanesBounded; decide

theorem busy_owners : StationOwners busy := by unfold StationOwners; decide

theorem busy_thermal :
    ZonesCurrent busy ∧ OverrideConsistent busy ∧ TargetsCurrent busy ∧ PowersCurrent busy ∧ FansHeld busy := by
  unfold ZonesCurrent OverrideConsistent TargetsCurrent PowersCurrent FansHeld FanHeld; decide

theorem busy_congestion : CongestionConsistent busy ∧ BackpressureConsistent busy ∧ ControlLists busy := by
  refine ⟨fun u => ?_, ?_, ?_⟩
  · cases u <;> unfold QueueCongestion <;> decide
  · unfold BackpressureConsistent; decide
  · unfold ControlLists; decide

theorem busy_orders :
    AlertsOrdered busy ∧ SegmentsOrdered busy ∧ AdmissionOrdered busy ∧ PeriodArmed busy.sweep ∧ LinksBusy busy := by
  refine ⟨?_, ?_, ?_, ?_, fun u => ?_, ?_⟩
  · unfold AlertsOrdered; decide
  · unfold SegmentsOrdered; decide
  · unfold AdmissionOrdered; decide
  · unfold PeriodArmed; decide
  · cases u <;> unfold UplinkBusy <;> decide
  · unfold SlotLinkBusy; decide

/-! ### Steps, lines and slot timers -/

theorem witness_step : ({ State.reset with pending := [.periodTimerExpiry] } : State).pending = .periodTimerExpiry :: [] ∧
    State.reset.pending = [] := ⟨rfl, rfl⟩

/-- PresenceRiseInserts and PresenceFallRemoves, at the last slot. -/
theorem witness_presence :
    (∃ s : State, (s.slot 15).adm.window.isRunning = true ∧ (s.slot 15).adm.presenceLine = true ∧
      (s.slot 15).adm.filtered = false ∧ (s.slot 15).adm.state = .empty) ∧
    ∃ s : State, (s.slot 15).adm.window.isRunning = true ∧ (s.slot 15).adm.presenceLine = false ∧
      (s.slot 15).adm.filtered = true ∧ (s.slot 15).adm.state ≠ .empty :=
  ⟨⟨State.reset.modAdm 15 fun a => { a with window := .running 100, presenceLine := true }, by decide⟩,
    State.reset.modAdm 15 fun a => { a with window := .running 10, filtered := true, state := .standbyWait }, by decide⟩

/-- BayExpiryRecomputesCapacity for both lines of the last bay. -/
theorem witness_bay (line : BayLine) : ∃ s : State, (s.bays[(5 : Bay)].window line).isRunning = true ∧
    s.bays[(5 : Bay)].line line ≠ s.bays[(5 : Bay)].level line :=
  ⟨State.reset.modBay 5 fun b =>
    { b with presentLine := true, goodLine := true, presentWindow := .running 100, goodWindow := .running 100 },
    by cases line <;> decide⟩

/-- SupplyFiguresFollowTheBays: a bay that contributes, bays of which none does, ratings at the bound. -/
theorem witness_supply :
    ((State.reset.modBay 0 fun b => { b with present := true, good := true }).bays[(0 : Bay)].contributes = true) ∧
    (∀ b : Bay, State.reset.bays[b].contributes = false) ∧ ∀ b : Bay, (State.reset.modBay 0 fun b =>
      { b with present := true, good := true, rating := 4000 }).bays[b].rating ≤ 4000 := by decide

/-- Slot 1 in a state, its power-good window running to the given level. -/
def powerGood1 (st : SlotState) (g : Stage) (level : Bool) : State := (at1 st).modRail 0 fun r =>
  { r with powerGoodLine := level, powerGood := !level, powerGoodWindow := .running 100, stage := g }

/-- PowerGoodExpiryBySlotState: the premises and each clause. -/
theorem witness_powerGood :
    (∀ (st : SlotState) (g : Stage) (level : Bool),
      ((powerGood1 st g level).slot 0).rail.powerGoodWindow.isRunning = true ∧
      ((powerGood1 st g level).slot 0).rail.powerGoodLine ≠ ((powerGood1 st g level).slot 0).rail.powerGood) ∧
    (((powerGood1 .powering .railUp true).slot 0).rail.powerGoodLine = true ∧
      ((powerGood1 .powering .railUp true).slot 0).adm.state = .powering ∧
      ((powerGood1 .powering .railUp true).slot 0).rail.stage = .railUp) ∧
    ¬(((powerGood1 .powering .resetHold true).slot 0).adm.state = .powering ∧
      ((powerGood1 .powering .resetHold true).slot 0).rail.stage = .railUp) ∧
    losesPower ((powerGood1 .powering .resetHold false).slot 0) = true ∧
    losesPower ((powerGood1 .shuttingDown .none false).slot 0) = true ∧
    losesPower ((powerGood1 .powering .railUp false).slot 0) = false ∧
    losesPower ((powerGood1 .fault .none false).slot 0) = false := by
  refine ⟨fun st g level => ⟨rfl, ?_⟩, by decide⟩
  show level ≠ !level
  cases level <;> decide

/-- StaleExpirySubstitutes: slot 1 with two readings, fresh or stale, under its main rail or not. -/
def warm (rail stale : Bool) : State := State.reset.modSlot 0 fun r => { r with
  rail := { r.rail with mainRail := rail }
  tel := { r.tel with readings := (Vector.replicate 8 none).set 2 (some 50) |>.set 7 (some (-60)), stale := stale } }

theorem witness_contributions :
    ((warm false false).slot 0).rail.mainRail = false ∧ ((warm true true).slot 0).rail.mainRail = true ∧
    ((warm true true).slot 0).tel.stale = true ∧ ((warm true false).slot 0).tel.stale = false ∧
    (∃ k : Channel, ((warm true false).slot 0).tel.readings[k] ≠ none) ∧
    (∀ k : Channel, (State.reset.slot 0).tel.readings[k] = none) ∧
    contributions (warm true false) 0 ≠ [] ∧ contributions (warm false false) 0 = [] := by
  refine ⟨rfl, rfl, rfl, rfl, ⟨2, ?_⟩, ?_, ?_, ?_⟩ <;> decide

/-- R103, R104: 50 is the larger reading; without a contribution the zone has its stale substitute. -/
theorem test_zoneTemp : zoneTemp (warm true false) 0 = 50 ∧
    zoneTemp (warm false false) 0 = State.reset.zones[(0 : Zone)].substitute := by decide

/-- AnnounceWindowExpiryUnidentifies. -/
theorem witness_announceWindow : ∃ s : State, (s.slot 0).adm.announceWindow.isRunning = true ∧
    s.slotState 0 = .announceWait :=
  ⟨(at1 .announceWait).modAdm 0 fun a => { a with announceWindow := .running 30000 }, by decide⟩

/-- PowerTimersMakeTheirMainOff, ResetHoldExpiryGoesOnline: slot 1 in a state with a stage and every rail timer. -/
def timed (st : SlotState) (g : Stage) : State := (at1 st).modSlot 0 fun r => { r with
  bud := { r.bud with capped := true, capAck := .running 5000 }
  rail := { r.rail with
    stage := g, powerGoodTimer := .running 500, resetHold := .running 200, shutdown := .running 120000 } }

theorem witness_powerTimers :
    (∀ (st : SlotState) (g : Stage), ((timed st g).slot 0).bud.capAck.isRunning = true ∧
      ((timed st g).slot 0).rail.powerGoodTimer.isRunning = true ∧
      ((timed st g).slot 0).rail.resetHold.isRunning = true ∧ ((timed st g).slot 0).rail.shutdown.isRunning = true ∧
      (timed st g).slotState 0 = st ∧ ((timed st g).slot 0).rail.stage = g ∧
      ((timed st g).slot 0).bud.capped = true) := fun _ _ => ⟨rfl, rfl, rfl, rfl, rfl, rfl, rfl⟩

/-- StaleExpirySubstitutes and RefreshExpiryPausesAgain. -/
theorem witness_stale_refresh :
    (∃ s : State, (s.slot 0).tel.staleTimer.isRunning = true) ∧ (∃ r : SlotRecord, r.tel.stale = true) ∧
    (∃ s : State, (s.slot 0).que.refresh.isRunning = true ∧ (s.slot 0).que.backpressure = true) ∧ 3906 < 3907 :=
  ⟨⟨State.reset.modTel 0 fun t => { t with staleTimer := .running 10000 }, rfl⟩,
    ⟨(State.reset.modTel 0 fun t => { t with stale := true }).slot 0, rfl⟩, ⟨State.reset.modQue 0 fun q =>
      { q with refresh := .running 1, backpressure := true }, by decide⟩, by decide⟩

/-! ### Sweep, thermal, fans -/

def sweeping (g : Engine) (staged : Option SweepSettings) : State :=
  { State.reset with sweep := { State.reset.sweep with engine := g, staged := staged } }

/-- SweepTimersDriveTheEngine: its premises and clauses. -/
theorem witness_sweepTimers :
    State.reset.sweep.periodTimer.isRunning = true ∧ State.reset.sweep.current.select = .period ∧
    State.reset.sweep.engine = .idle ∧ State.reset.sweep.staged = none ∧
    (sweeping .idle (some State.reset.sweep.current)).sweep.engine = .idle ∧
    (sweeping .idle (some State.reset.sweep.current)).sweep.staged = some State.reset.sweep.current ∧
    (sweeping .starting none).sweep.engine ≠ .idle ∧ (sweeping .starting none).sweep.engine = .starting := by decide

/-- SweepTimersDriveTheEngine on a filtered line change: another select, and CHANGE with each engine and staging. -/
theorem witness_changeTrigger (g : Engine) (staged : Option SweepSettings) : ∃ s : State,
    s.sweep.current.select = .change ∧ s.sweep.engine = g ∧ s.sweep.staged = staged ∧
      State.reset.sweep.current.select ≠ .change :=
  ⟨{ State.reset with sweep := { State.reset.sweep with
      engine := g, staged := staged, current := { State.reset.sweep.current with select := .change } } },
    rfl, rfl, rfl, by decide⟩

/-- ConversionStoresChecksAndGoesOn: on the first, fourth, fifth and last channel, at the low limit and beside it. -/
theorem witness_conversion :
    (∀ c : Channel, (sweeping (.converting c) none).sweep.engine = .converting c) ∧
    ¬((3 : Channel).val < 4 ∧ (0x81#8 : Byte) = 0x80#8) ∧ ¬((4 : Channel).val < 4 ∧ (0x80#8 : Byte) = 0x80#8) ∧
    ((3 : Channel).val < 4 ∧ (0x80#8 : Byte) = 0x80#8) ∧
    (0 : Int) ≤ State.reset.channels[(4 : Channel)].low ∧ ¬(1 : Int) ≤ State.reset.channels[(4 : Channel)].low ∧
    State.reset.channels[(7 : Channel)].high < 256 ∧ State.reset.channels[(0 : Channel)].zone = some 0 := by decide

/-- FanTimersMoveTheDuty and TachGateMeasuresEveryFan: timers running, the gate, an early end of a spin-up at the
minimum speed itself, and a stall one below it. -/
theorem witness_fanTimers :
    (State.reset.modFan 5 fun f => { f with ramp := .running 100 }).fans[(5 : Fan)].ramp.isRunning = true ∧
    (State.reset.modFan 5 fun f => { f with spin := .running 100 }).fans[(5 : Fan)].spin.isRunning = true ∧
    State.reset.tachGate.isRunning = true ∧ 600 ≤ 10 * 120 / State.reset.fans[(0 : Fan)].pulsesPerRev ∧
    0 < State.reset.fans[(0 : Fan)].minSpeed ∧ 9 * 120 / State.reset.fans[(0 : Fan)].pulsesPerRev < 600 ∧
    0 < State.reset.fans[(0 : Fan)].actual ∧ State.reset.fans[(0 : Fan)].spin.isRunning = false ∧
    State.reset.fans[(0 : Fan)].mode ≠ .off ∧ ({ FanRecord.reset with mode := .off } : FanRecord).mode = .off ∧
    ({ FanRecord.reset with spin := .running 100 } : FanRecord).spin.isRunning = true ∧
    FanRecord.reset.spin.isRunning = false := by decide

/-- DemandFollowsTheZone: below the lower temperature, at it, under and at the end of the range; the reset fan in
every mode. -/
theorem witness_demand :
    (34 : Int) < ZoneRecord.reset.low ∧ ZoneRecord.reset.low ≤ 35 ∧
    (54 : Int) < ZoneRecord.reset.low + ZoneRecord.reset.range ∧ ZoneRecord.reset.low + ZoneRecord.reset.range ≤ 55 ∧
    FanRecord.reset.minDuty ≤ 255 ∧ 1 ≤ ZoneRecord.reset.range ∧
    FanRecord.reset.zoneSet ≠ 0 ∧
    ∀ m : FanMode, ({ FanRecord.reset with mode := m } : FanRecord).mode = m := by
  refine ⟨?_, ?_, ?_, ?_, ?_, ?_, ?_, fun _ => rfl⟩ <;> decide

/-- PowerCurveIsInterpolated: the reset curve is in its order, and the pieces agree where they meet: 3, 9 and 20 W. -/
theorem witness_curve :
    FanRecord.reset.curve.p0 ≤ FanRecord.reset.curve.p1 ∧ FanRecord.reset.curve.p1 ≤ FanRecord.reset.curve.p2 ∧
    FanRecord.reset.curve.p2 ≤ FanRecord.reset.curve.p3 ∧ FanRecord.reset.curve.p3 ≤ FanRecord.reset.curve.p4 ∧
    curveAt FanRecord.reset.curve 64 = 3 ∧ curveAt FanRecord.reset.curve 128 = 9 ∧
    curveAt FanRecord.reset.curve 192 = 20 := by decide

/-! ### Arrivals -/

/-- An ANNOUNCE body that asks for watts. -/
def announceBody (watts : Word16) : AnnounceBody where
  bladeType := 5
  serial := Vector.replicate 16 0
  firmware := 1
  requested := watts
  floor := 100
  addresses := [0x0A0000000001#48]

/-- AnnounceByTheSlotState: a frame that arrives in every slot state, with and without requested power. -/
theorem witness_announce (st : SlotState) (watts : Word16) : (announceBody watts).addresses.length < 256 ∧
    ControlArrives (at1 st) envelope (25 + 6 * (announceBody watts).addresses.length) ∧ (at1 st).slotState 0 = st ∧
    (announceBody 0).requested = 0 ∧ (announceBody 1).requested ≠ 0 :=
  ⟨by show 1 < 256; decide, arrives (at1 st) rfl _ (by show 31 ≤ 1000; decide), rfl, rfl, by decide⟩

/-- AnnounceIsJudgedByItsRecord: a slot that waits for its announce, under a maximum below, at and above its power, and
under both actions. -/
def announcing (g : AdmissionRule) : State :=
  { State.reset with admissionDefault := g }.modSlot 0 fun r => { r with
    adm := { r.adm with state := .announceWait, presenceLine := true, filtered := true }
    inv := { r.inv with present := true }, bud := { r.bud with standbyW := 20 }
    rail := { r.rail with standbyRail := true } }

theorem announcing_consistent (g : AdmissionRule) : PowerConsistent (announcing g) := by
  have h : PowerConsistent (announcing State.reset.admissionDefault) := by
    unfold PowerConsistent QueueMatches LanesMatch SlotsConsistent OutputsFollow BudgetFollows FiltersFollow
    decide
  exact h

theorem witness_judged (action : AdmissionAction) :
    PowerConsistent (announcing ⟨action, 299, none⟩) ∧
    (announcing ⟨action, 299, none⟩).slotState 0 ∈ [SlotState.announceWait, .unidentified, .denied, .standby, .powerWait] ∧
    governing (announcing ⟨action, 299, none⟩) 5 = ⟨action, 299, none⟩ ∧ 299 < (announcedPair (announceBody 300)).requested ∧
    (announcedPair (announceBody 299)).requested ≤ 299 ∧ (announcing ⟨action, 0, some 0⟩).admissionDefault.maximum = 0 :=
  ⟨announcing_consistent _, List.mem_cons_self, rfl, by decide, by decide, rfl⟩

/-- AnnounceIsJudgedByItsRecord for a slot in POWER_WAIT, with a record of its blade type that moves its priority and
one that keeps it; the lists around a slot's entries; a type with a record and one without. -/
theorem witness_judged_waiting :
    busy.slotState 0 ∈ [SlotState.announceWait, .unidentified, .denied, .standby, .powerWait] ∧
    AdmissionOrdered busy ∧ (∃ x ∈ busy.admissionTable, x.bladeType = 5) ∧ (∀ x ∈ busy.admissionTable, x.bladeType ≠ 6) ∧
    (evaluateAnnounce 0 (announceBody 300) busy).state.priorityOf 0 ≠ busy.priorityOf 0 ∧
    (evaluateAnnounce 0 { announceBody 300 with bladeType := 6 } busy).state.priorityOf 0 = busy.priorityOf 0 ∧
    (∃ x ∈ busy.budget.queue, x.slot = 0) ∧
    (∀ x ∈ ([⟨1, 2⟩] : List StationEntry), x.owner < 3) ∧ ∀ x ∈ ([⟨2, 4⟩] : List StationEntry), 3 < x.owner := by
  refine ⟨by decide, busy_orders.2.2.1, by decide⟩

/-- TelemetryFillsTheCache, AcksEndTheirWaits. -/
theorem witness_telemetry (st : SlotState) :
    ControlArrives (at1 st) envelope (1 + 2 * 2) ∧ (at1 st).slotState 0 = st ∧
    ([{ sensor := 7, reading := 0x80 }, { sensor := 7, reading := 40 }] : List TelemetryItem).length < 256 :=
  ⟨arrives (at1 st) rfl 5 (by decide), rfl, by decide⟩

theorem witness_acks : ∃ s : State, ControlArrives s envelope 0 ∧ (s.slot 0).bud.capped = true ∧
    (s.slot 0).bud.capAck.isRunning = true ∧ envelope.sequence = (s.slot 0).bud.capSeq ∧
    envelope.sequence ≠ (s.slot 1).bud.capSeq ∧ s.slotState 0 = .shuttingDown ∧ s.slotState 1 ≠ .shuttingDown :=
  ⟨(at1 .shuttingDown).modBud 0 fun b => { b with capped := true, capAck := .running 5000, capSeq := 7 },
    arrives (State.modBud _ 0 _) rfl 0 (by decide), rfl, rfl, rfl, by decide, rfl, by decide⟩

/-- A frame of n octets with its CRC whose addresses, type at octet 12 and rest are given. -/
def received (destination : Station) (outer : Word16) (n : Nat) : Reception where
  octets := be48 destination ++ be48 0x0A0000000001#48 ++ be16 outer ++ List.replicate (n - 18) 0
  fcs := 0
  crcMatches := true

/-- ArrivalsAreChecked: lengths 63, 64, 1522 and 1523 beside the limits, and a control frame of version 0. -/
theorem witness_lengths :
    (received 0 0x0800#16 63).octets.length + 4 = 63 ∧ (received 0 0x0800#16 64).octets.length + 4 = 64 ∧
    (received 0 0x0800#16 1522).octets.length + 4 = 1522 ∧ (received 0 0x0800#16 1523).octets.length + 4 = 1523 ∧
    State.reset.fwd.maxLength = 1522 := by
  refine ⟨?_, ?_, ?_, ?_, rfl⟩ <;>
    simp only [received, List.length_append, be48, be16, List.length_cons, List.length_nil, List.length_replicate]

theorem witness_malformed (o : Octets) (h : o = (received State.reset.station 0x88B6#16 64).octets) :
    o.length + 4 = 64 ∧ word16At o 12 ≠ 0x8808#16 ∧ stationAt o 0 = State.reset.station ∧
    word16At o 12 ≠ State.reset.fwd.tagType ∧ octetAt o 14 ≠ 1 := by subst h; decide

/-- ArrivalsAreChecked on a tagged frame whose inner type is not the control type, to the group address. -/
theorem witness_malformed_tagged (o : Octets) (h : o = (received 0x07E56A000001#48 0x8100#16 64).octets) :
    word16At o 12 = State.reset.fwd.tagType ∧ stationAt o 0 = 0x07E56A000001#48 ∧
    word16At o 16 ≠ State.reset.fwd.controlType := by subst h; decide

/-- A control frame of sequence 0 to the part from its kind, the length that it says and its body. -/
def controlOctets (kind : Byte) (length : Word16) (body : Octets) : Octets :=
  be48 State.reset.station ++ be48 0x0A0000000001#48 ++ [0x88, 0xB6, 1, kind, 0, 0] ++ be16 length ++ body ++
    List.replicate 44 0

/-- ArrivalsAreChecked on the counts of a body: an ANNOUNCE and a TELEMETRY one octet off their counts, an acknowledge
with a body, and a COMMAND whose last item runs past its body; each is malformed. -/
theorem witness_malformed_counts :
    (octetAt (controlOctets 1 26 []) 15 = 1 ∧ (word16At (controlOctets 1 26 []) 18).toNat ≠
      25 + 6 * (octetAt (controlOctets 1 26 []) 44).toNat) ∧
    (octetAt (controlOctets 2 4 [1]) 15 = 2 ∧ (word16At (controlOctets 2 4 [1]) 18).toNat ≠
      1 + 2 * (octetAt (controlOctets 2 4 [1]) 20).toNat) ∧
    word16At (controlOctets 4 1 []) 18 ≠ 0 ∧
    [controlOctets 1 26 [], controlOctets 2 4 [1], controlOctets 4 1 []].map (frameClass State.reset (.slot 15)) =
      [.malformed, .malformed, .malformed] ∧
    frameClass State.reset (.uplink .A) (controlOctets 0x21 6 [0, 3, 1, 0, 2, 0]) = .malformed := by decide

/-- ArrivalsAreChecked on flow control: 64 octets long, with opcodes 0 and 1. -/
theorem witness_flow (opcode quanta : Word16) : ∃ f : FlowFrame, f.crcMatches = true ∧ 64 ≤ 22 + f.rest.length ∧
    22 + f.rest.length ≤ State.reset.fwd.maxLength ∧ f.opcode = opcode ∧ f.quanta = quanta :=
  ⟨⟨0, 0, opcode, quanta, List.replicate 42 0, 0, true⟩, rfl, by show 64 ≤ 64; decide, by show 64 ≤ 1522; decide, rfl, rfl⟩

/-! ### Forwarding -/

/-- A segment table of one entry, slot 1 in a state with it as default segment, uplinks A and B up. -/
def forwarding (st : SlotState) (g : Segment) : State :=
  let s := (at1 st).modAdm 0 fun a => { a with segment := some g.tagId }
  { s with
    fwd := { s.fwd with segments := [g] }
    uplinkA := { s.uplinkA with linkUp := true, segment := some g.tagId }
    uplinkB := { s.uplinkB with linkUp := true } }

def header1 : TrafficHeader := { destination := 0x0A0000000009#48, source := 0x0A0000000001#48, control := none }

/-- UpstreamFramesAreForwarded: the frame meets its premises, and each step has a state that reaches it. -/
theorem witness_upstream (o : Octets) (h : o = (received 0x0A0000000009#48 0x0800#16 64).octets) :
    o.length + 4 = 64 ∧ word16At o 12 ≠ 0x8808#16 ∧ stationAt o 0 ≠ State.reset.station ∧
    stationAt o 0 ≠ 0x07E56A000001#48 ∧
    (at1 .powering).slotState 0 ≠ .online ∧ frameSegment (at1 .online) none header1 = none ∧
    (∀ strict : Bool, frameSegment (forwarding .online ⟨4094, 1, .a, .forward, strict, none⟩) (some 4094) header1 =
      some ⟨4094, 1, .a, .forward, strict, none⟩) ∧
    inSlotSet 0 0 = false ∧ inSlotSet 1 0 = true ∧ ownerOf [] header1.source ≠ some 0 ∧
    chooseUplink State.reset .a = none ∧ chooseUplink (forwarding .online ⟨1, 1, .pairB, .forward, false, none⟩) .pairB =
      some .B := by
  subst h
  decide

/-- UpstreamFramesAreForwarded on the segment of a frame and the uplink of a pair. -/
theorem witness_segments (g : Segment) (h : 1 ≤ g.tagId ∧ g.tagId ≤ 4094) : SegmentsOrdered (forwarding .online g) :=
  ⟨List.pairwise_singleton _ _, by show 1 ≤ 32; decide, fun x hx => by
    rw [List.mem_singleton.1 (show x ∈ [g] from hx)]; exact h⟩

/-- The owner of an address: a table of two entries, none twice. -/
theorem witness_owner :
    (([⟨0x0A0000000001#48, 0⟩, ⟨0x0A0000000002#48, 15⟩] : List StationEntry).map (·.address)).Nodup := by decide

theorem witness_pairs : State.reset.uplinkA.linkUp = false ∧ State.reset.uplinkB.linkUp = false ∧
    (forwarding .online ⟨1, 1, .pairA, .forward, false, none⟩).uplinkA.linkUp = true ∧
    (forwarding .online ⟨1, 1, .pairA, .forward, false, none⟩).uplinkB.linkUp = true := by decide

/-- The queues that the forwarding statements offer to, with and without room. -/
theorem witness_offers :
    (offerTrap ⟨frame1, .slot 0⟩ State.reset).isSome = true ∧
    offerTrap ⟨frame1, .slot 0⟩ { State.reset with freeCells := 0 } = none ∧
    (offerEgress 0 frame1 State.reset).isSome = true ∧ offerEgress 0 frame1 { State.reset with freeCells := 0 } = none ∧
    (offerClass .A 3 ⟨frame1, some 0⟩ (forwarding .online ⟨1, 1, .a, .forward, false, none⟩)).isSome = true ∧
    offerClass .A 3 ⟨frame1, some 0⟩ State.reset = none := by decide

/-- DownstreamFramesAreDelivered: no segment, a select without the uplink, an owner that is a member, one that is not,
a destination without owner and a group destination. -/
theorem witness_downstream :
    frameSegment State.reset (State.reset.uplink .B).segment header1 = none ∧
    (frameSegment (forwarding .online ⟨1, 1, .b, .forward, false, none⟩) (some 1) header1 =
      some ⟨1, 1, .b, .forward, false, none⟩) ∧
    ownerOf [⟨header1.destination, 0⟩] header1.destination = some 0 ∧ isGroup header1.destination = false ∧
    ownerOf [] header1.destination = none ∧ isGroup 0x010000000000#48 = true ∧
    (∀ i : Slot, inSlotSet 0 i = true → State.reset.slotState i ≠ .online) ∧
    (∃ i : Slot, inSlotSet 1 i = true ∧ (forwarding .capped ⟨1, 1, .a, .trap, false, none⟩).slotState i = .capped) := by
  decide

/-! ### Transmission and queues -/

/-- Uplink A up with a frame of class 0 in flight, one of class 3 waiting, and a hold. -/
def sending (hold : Timer) (flight : Option UplinkFlight) : State :=
  (State.reset.modClass .A 3 fun q => { q with entries := [⟨frame1, none⟩] }).modUplink .A fun r =>
    { r with linkUp := true, hold := hold, flight := flight }

/-- CompletionsReturnCells: with and without the notice destination's uplink, the highest class and the lowest. -/
theorem witness_completions :
    (∀ c : Cls, (∃ s : State, (s.uplink .A).flight = some ⟨c, ⟨frame1, none⟩, 672⟩ ∧
        ∃ a, s.mgmt.destination = some (a, Uplink.A)) ∧
      ((sending .stopped (some ⟨c, ⟨frame1, none⟩, 672⟩)).uplink .A).flight = some ⟨c, ⟨frame1, none⟩, 672⟩ ∧
      ¬∃ a, (sending .stopped (some ⟨c, ⟨frame1, none⟩, 672⟩)).mgmt.destination = some (a, Uplink.A)) ∧
    ((State.reset.modQue 15 fun q => { q with flight := some (flightOf frame1 true) }).slot 15).que.flight =
      some (flightOf frame1 true) ∧
    ((sending (.running 512) none).uplink .A).hold.isRunning = true := by
  refine ⟨fun c => ⟨⟨{ sending .stopped (some ⟨c, ⟨frame1, none⟩, 672⟩) with
    mgmt := { State.reset.mgmt with destination := some (1, .A) } }, rfl, 1, rfl⟩, rfl, ?_⟩, rfl, rfl⟩
  rintro ⟨a, h⟩
  cases h

/-- CompletionsReturnCells on the carrier try: a destination and a trapped frame, on an uplink that admits the carrier
and on one that is down. -/
theorem witness_carrier (u : Uplink) : ∃ s : State, s.mgmt.destination = some (1, u) ∧
    s.trapQueue = [⟨frame1, .uplink .B⟩] ∧
    (offerClass u 0 ⟨{ octets := List.replicate 90 0, fcs := none }, none⟩ s).isSome =
      decide (u = .A) :=
  ⟨{ sending .stopped none with
    mgmt := { State.reset.mgmt with destination := some (1, u) }, trapQueue := [⟨frame1, .uplink .B⟩]
    freeCells := 510 }, rfl, rfl, by cases u <;> decide⟩

/-- LinksServeTheirQueuesInOrder: each clause. -/
theorem witness_links :
    ((sending .stopped none).uplink .A).flight = none ∧ ((sending .stopped none).uplink .A).linkUp = true ∧
    ((sending .stopped none).uplink .A).hold = .stopped ∧
    ((sending .stopped none).uplink .A).queues[(3 : Cls)].entries = [⟨frame1, none⟩] ∧
    (∀ d : Cls, d < 3 → ((sending .stopped none).uplink .A).queues[d].entries = []) ∧
    (State.reset.uplink .B).linkUp = false ∧
    ((State.reset.modQue 0 fun q => { q with pendingPause := some 65535 }).slot 0).que.pendingPause = some 65535 ∧
    ((State.reset.modQue 0 fun q => { q with control := [⟨.cap, []⟩] }).slot 0).que.control = [⟨.cap, []⟩] ∧
    ((State.reset.modQue 0 fun q => { q with egress := [frame1] }).slot 0).que.egress = [frame1] ∧
    (State.reset.slot 0).que.flight = none ∧ (State.reset.slot 0).que.pendingPause = none := by decide

/-- LinkFallFlushesTheUplink and the link rise. -/
theorem witness_linkFall : ((sending .stopped none).uplink .A).linkUp = true ∧ (State.reset.uplink .B).linkUp = false :=
  ⟨rfl, rfl⟩

/-- QueuesAdmitByTheirConditions at the limits: 128 cells of a class queue, 32 of an egress queue, 16 trapped frames. -/
theorem witness_admission :
    ((sending .stopped none).uplink .A).occupancy 3 + 127 ≤ ((sending .stopped none).uplink .A).queues[(3 : Cls)].limit ∧
    ¬((sending .stopped none).uplink .A).occupancy 3 + 128 ≤ ((sending .stopped none).uplink .A).queues[(3 : Cls)].limit ∧
    (State.reset.slot 0).que.occupancy + 32 ≤ (State.reset.slot 0).que.egressLimit ∧
    ¬(State.reset.slot 0).que.occupancy + 33 ≤ (State.reset.slot 0).que.egressLimit ∧
    frame1.cells ≤ State.reset.freeCells ∧
    (List.replicate 15 (⟨frame1, .slot 0⟩ : TrapEntry)).length < 16 ∧
    ¬(List.replicate 16 (⟨frame1, .slot 0⟩ : TrapEntry)).length < 16 ∧ frame1.length ≤ 2000 := by decide

/-- QueuesAdmitByTheirConditions: a frame in flight of the class and of another, from the egress queue and not. -/
theorem witness_occupancy :
    (∀ c : Cls, ∃ (r : UplinkRecord) (f : UplinkFlight), r.flight = some f ∧ f.cls = c) ∧
    (∀ e : Bool, ∃ (q : QueuePart) (f : SlotFlight), q.flight = some f ∧ f.fromEgress = e) :=
  ⟨fun c => ⟨{ State.reset.uplinkA with flight := some ⟨c, ⟨frame1, none⟩, 672⟩ }, _, rfl, rfl⟩,
    fun e => ⟨{ (State.reset.slot 0).que with flight := some ⟨frame1, e, 672⟩ }, _, rfl, rfl⟩⟩

/-- WatermarksPauseAndRelease: at and above the high watermark, at and above the low one. -/
theorem witness_watermarks :
    (∀ high : Nat, high ∈ [1, 2] → ∃ s : State, (s.uplink .A).queues[(3 : Cls)].congested = false ∧
      (s.uplink .A).queues[(3 : Cls)].marks.high = high ∧ (s.uplink .A).occupancy 3 = 2) ∧
    (∀ low : Nat, low ∈ [1, 2] → ∃ s : State, (s.uplink .A).queues[(3 : Cls)].congested = true ∧
      (s.uplink .A).queues[(3 : Cls)].marks.low = low ∧ (s.uplink .A).occupancy 3 = 2) := by
  refine ⟨fun n h => ⟨State.reset.modClass .A 3 fun q =>
    { q with entries := [⟨frame1, some 0⟩, ⟨frame1, none⟩], marks := { high := n, low := 0 } }, rfl, rfl, ?_⟩,
    fun n h => ⟨State.reset.modClass .A 3 fun q =>
    { q with entries := [⟨frame1, some 0⟩, ⟨frame1, none⟩], marks := { high := 64, low := n }, congested := true },
    rfl, rfl, ?_⟩⟩ <;> fin_cases h <;> decide

/-- ControlListsTakeTheirFrames: a list without the kind, one with it, and one with the opposite power frame. -/
theorem witness_controlLists :
    ((State.reset.slot 0).que.control.map (·.kind)).Nodup ∧
    (([⟨.admitResult, []⟩, ⟨.cap, []⟩] : List ControlFrame).map (·.kind)).Nodup ∧
    ([⟨.admitResult, []⟩, ⟨.cap, []⟩] : List ControlFrame) = [⟨.admitResult, []⟩] ++ ⟨.cap, []⟩ :: [] ∧
    (∃ g ∈ ([⟨.admitResult, []⟩, ⟨.cap, []⟩] : List ControlFrame), g.kind = .cap) := by decide

/-- OneNoticeForAnEventThatAddsAlerts: a destination, an alert added, and class 0 of its uplink admitting or not. -/
theorem witness_notice :
    State.reset.mgmt.destination = none ∧
    (∃ x ∈ (raiseSlot .insert 0 State.reset).mgmt.alerts, x ∉ State.reset.mgmt.alerts) ∧
    (offerClass .A 0 ⟨frame1, none⟩ (sending .stopped none)).isSome = true ∧
    offerClass .A 0 ⟨frame1, none⟩ State.reset = none := by decide

/-- GrantsServeTheHeadOfTheQueue: a standby head and a main head, with power for it to the watt and one watt short. -/
def granting (kind : RequestKind) (capacity : Nat) : State :=
  { (State.reset.modInv 0 fun r => { r with effectivePair := some ⟨300, 100⟩ }) with
    budget := { State.reset.budget with queue := [{ slot := 0, kind := kind, short := false }] }
    supply := { State.reset.supply with capacity := capacity } }

theorem witness_grants :
    (granting .standby 236).budget.queue = [{ slot := 0, kind := .standby, short := false }] ∧
    (20 : Int) ≤ headroom (granting .standby 236) ∧ ¬(20 : Int) ≤ headroom (granting .standby 235) ∧
    (effectiveRequested ((granting .main 516).slot 0) : Int) ≤ headroom (granting .main 516) ∧
    headroom (granting .main 515) < effectiveRequested ((granting .main 515).slot 0) ∧
    (∀ i : Slot, ((granting .main 516).slot i).bud.capped = false) ∧ (granting .main 516).supply.brownout = false ∧
    (granting .main 516).budget.lanesInUse < (granting .main 516).budget.laneCount ∧
    1 ≤ (granting .standby 236).budget.allowance := by decide

/-- GrantsServeTheHeadOfTheQueue on a new request: the two parts of a queue around it. -/
theorem witness_insert :
    (∀ x ∈ ([⟨1, .standby, false⟩] : List Request), x.kind = .standby) ∧
    (∀ x ∈ ([⟨0, .main, true⟩] : List Request), x.kind = .main) ∧
    (∀ x ∈ ([⟨1, .standby, false⟩, ⟨2, .main, false⟩] : List Request), x.kind = .standby ∨
      State.reset.priorityOf x.slot ≤ State.reset.priorityOf 3) ∧
    (∀ x ∈ ([⟨4, .main, false⟩] : List Request), x.kind = .main ∧
      State.reset.priorityOf 3 < (State.reset.modAdm 4 fun a => { a with priority := 3 }).priorityOf x.slot) := by decide

/-- ShedAndRestoreActOnTheirSlots: the states of a cap and an uncap. -/
theorem witness_shed (st : SlotState) : (at1 st).slotState 0 = st := rfl

/-- Slot 1 in a state with a grant of 300 W, a floor of 100 W and a main W between them. -/
def holding (st : SlotState) (mainW : Nat) (capped : Bool) : State := (at1 st).modSlot 0 fun r => { r with
  inv := { r.inv with effectivePair := some ⟨300, 100⟩ }
  bud := { r.bud with mainW := mainW, grantW := 300, capped := capped } }

/-- ShedAndRestoreActOnTheirSlots: a state for each case of shedding in its order, and a capped slot whose difference of
200 W and margin of 100 W H covers to the watt and one watt short. -/
theorem witness_shedding :
    pickWorst (holding .online 101 false) capCandidate = some 0 ∧
    (∀ st ∈ [SlotState.powering, .capped, .standby, .empty], ∀ i : Slot,
      capCandidate ((holding st 100 true).slot i) = false) ∧
    pickHighest (holding .powering 300 false) isPowering = some 0 ∧
    (∀ i : Slot, (holding .capped 100 true).slotState i ≠ .powering) ∧
    pickWorst (holding .capped 100 true) isMainPowered = some 0 ∧
    (∀ i : Slot, isMainPowered ((holding .standby 0 false).slot i) = false) ∧
    pickWorst (holding .standby 0 false) isStandbyOnly = some 0 ∧
    (∀ i : Slot, isStandbyOnly (State.reset.slot i) = false) ∧ shedOne State.reset = none ∧
    headroom State.reset < 0 ∧ pickBest (holding .capped 100 true) isCapped = some 0 ∧
    (holding .capped 100 true).supply.brownout = false := by decide

theorem witness_restore (short : Nat) (h : short ≤ 1) : ∃ s : State, pickBest s isCapped = some 0 ∧
    ((s.slot 0).bud.grantW - (s.slot 0).bud.mainW + s.budget.margin ≤ headroom s ↔ short = 0) :=
  ⟨{ holding .capped 100 true with supply := { State.reset.supply with capacity := 616 - short } },
    by interval_cases short <;> decide⟩

/-- TheEndOfAnEventKeepsTheSettings: an evaluation that ends with H below 0 and one that does not, and a RESPONSE that
class 0 of its uplink admits and one that it refuses. -/
theorem witness_evaluate :
    headroom (grants 0 (restore 16 (shed 48 State.reset))) < 0 ∧
    0 ≤ headroom (grants 1 (restore 16 (shed 48 (granting .standby 236)))) ∧
    (offerClass .A 0 ⟨{ octets := List.replicate 60 0, fcs := none }, none⟩ (sending .stopped none)).isSome = true ∧
    offerClass .A 0 ⟨{ octets := List.replicate 60 0, fcs := none }, none⟩ State.reset = none ∧
    ([[1], [2, 3]] : List Octets).flatten.length ≤ 2003 ∧ ∀ v ∈ ([[1], [2, 3]] : List Octets), v.length ≤ 2003 := by decide

theorem witness_noCause : ∃ s m : State, m ≠ s ∧ m.fanReservation = s.fanReservation ∧
    m.supply.capacity = s.supply.capacity := ⟨State.reset, at1 .online, by decide, rfl, rfl⟩

/-! ### COMMAND frames -/

/-- Every COMMAND statement: frames of every state that keeps the reset frame types and the management flag of A. -/
theorem witness_command (st : SlotState) (items : List Item) (h : itemsLength items ≤ 998) :
    CommandArrives (at1 st) .A envelope items ∧ (at1 st).slotState 0 = st :=
  ⟨command (at1 st) rfl rfl items h, rfl⟩

/-- RefusedCommandsChangeNothing: a code outside the table, items that a command without fields does not list, and
items that each reader of arguments turns away. -/
theorem witness_refused :
    (0x0A#16 : Word16).toNat ∉ knownCodes ∧ slotField [item 1 [0]] = none ∧ slotField [item 1 [17]] = none ∧
    ([item 1 [1]] : List Item) ≠ [] ∧ counterPorts [item 1 [19]] = none ∧ tableArgs [] = none ∧
    slotArgs [item 3 [0]] = none ∧ supplyArgs [item 2 [3]] = none ∧ timingArgs [item 10 [0, 1]] = none ∧
    zoneArgs [item 2 [0, 1]] = none ∧ fanArgs [item 1 [7]] = none ∧
    curveArgs [item 1 [1], item 2 [0, 4, 0, 3, 0, 11, 0, 24, 0, 47]] = none ∧ dutyArgs [item 1 [1]] = none ∧
    channelArgs [item 1 [4], item 4 [1]] = none ∧ sweepArgs [item 1 [2]] = none ∧
    uplinkArgs [item 1 [1], item 4 [2, 0]] = none ∧ queueArgs [item 1 [1]] = none ∧ classMapArgs [] = none ∧
    segmentArgs [item 1 [0, 0], item 2 [0, 1], item 3 [1], item 4 [1], item 5 [0]] = none ∧
    deleteSegmentArgs [] = none ∧ admissionArgs [] = none ∧ deleteAdmissionArgs [item 1 [5]] = none ∧
    powerOffArgs [item 2 [1]] = none ∧ slotAdmitArgs [item 1 [1], item 2 [0, 0], item 3 [0, 0]] = none ∧
    injectArgs [item 1 [1], item 2 (List.replicate 59 0)] = none ∧ clearAlertsArgs [] = none := by decide

/-- ReadsAnswerFromTheState: the last slot, the last port, the default record and an index of each other table. -/
theorem witness_reads :
    slotField [item 1 [16]] = some 15 ∧ [item 1 [octet ((portIndex (.uplink .B)).val + 1)]] = [item 1 [18]] ∧
    tableArgs [item 1 [0], item 3 []] = some (.admission, none) ∧
    tableArgs [item 1 [1], item 2 [0, 0]] = some (.station, some 0) ∧
    tableArgs [item 1 [2], item 2 [0, 32]] = some (.segment, some 32) := by decide

/-- SetSlotStoresItsSettings: a priority and a zone that move, ones that stay, and a command that carries nothing. -/
theorem witness_setSlot :
    slotArgs [item 1 [1], item 3 [2], item 4 [1]] = some (0, ⟨none, some 2, some 0, none, none, none⟩) ∧
    slotArgs [item 1 [1], item 3 [0], item 4 [4]] = some (0, ⟨none, some 0, some 3, none, none, none⟩) ∧
    slotArgs [item 1 [16]] = some (15, ⟨none, none, none, none, none, none⟩) ∧
    (State.reset.slot 0).adm.priority = 2 ∧ (State.reset.slot 0).adm.zone = 0 := by decide

/-- SetSupplyAndTimingStoreTheirSettings: a lane count with and without a lane in use, the supply settings carried and
not, and the power-good timeout with a slot in POWERING and with none. -/
theorem witness_setSupply_setTiming :
    (supplyArgs [item 6 [0, 4]]).map (·.lanes) = some (some 4) ∧ 0 < ({ State.reset with
      budget := { State.reset.budget with lanesInUse := 1 } } : State).budget.lanesInUse ∧
    State.reset.budget.lanesInUse = 0 ∧
    supplyArgs [item 1 [6, 0x0F, 0xA0], item 2 [1], item 3 [0xEA, 0x60]] =
      some ⟨[(5, 4000)], some .n1, some 60000, none, none, none⟩ ∧
    supplyArgs [item 4 [0, 0]] = some ⟨[], none, none, some 0, none, none⟩ ∧
    timingArgs [item 6 [0, 0], item 7 [0xFF, 0xFF]] =
      some ⟨none, none, none, none, none, some 10, some 2550, none, none⟩ ∧
    timingArgs [item 1 [0, 109]] = some ⟨some 100, none, none, none, none, none, none, none, none⟩ ∧
    (at1 .powering).slotState 0 = .powering ∧ ∀ i : Slot, State.reset.slotState i ≠ .powering := by decide

/-- SetZoneAndChannelStoreTheirSettings: a zone with a new and an old substitute, the hysteresis alone, a channel with a
new zone map and one without. -/
theorem witness_setZone_setChannel :
    zoneArgs [item 1 [4], item 5 [0, 81]] = some ⟨some 3, none, none, none, some 81, none⟩ ∧
    zoneArgs [item 1 [4], item 5 [0, 80]] = some ⟨some 3, none, none, none, some 80, none⟩ ∧
    State.reset.zones[(3 : Zone)].substitute = 80 ∧
    zoneArgs [item 6 [0, 16]] = some ⟨none, none, none, none, none, some 15⟩ ∧
    channelArgs [item 1 [0], item 4 [4]] = some (0, ⟨none, none, some (some 3)⟩) ∧
    channelArgs [item 1 [7], item 3 [0xFF, 0xFF]] = some (7, ⟨none, some 0, none⟩) := by decide

/-- FanCommandsSettleTheFan: the arguments, a fan in MANUAL at its duty and away from it, and a fan for each row of the
settle table. -/
theorem witness_fanCommands :
    fanArgs [item 1 [6]] = some (5, noFanSettings) ∧ (fanArgs [item 1 [1], item 2 [0]]).isSome = true ∧
    curveArgs [item 1 [1], item 2 [0, 0, 0, 4, 0, 11, 0, 24, 1, 0]] = some (0, ⟨0, 4, 11, 24, 255⟩) ∧
    dutyArgs [item 1 [1], item 2 [1, 0]] = some (0, 255) ∧ State.reset.fans[(0 : Fan)].mode ≠ .manual ∧
    State.reset.fans[(0 : Fan)].target = 255 ∧ State.reset.fans[(0 : Fan)].spin.isRunning = false ∧
    State.reset.fans[(0 : Fan)].spinOn = true ∧ 0 < State.reset.fans[(0 : Fan)].spinN ∧
    State.reset.fans[(0 : Fan)].actual ≠ 0 ∧ State.reset.fans[(0 : Fan)].rampOn = true ∧
    State.reset.fans[(0 : Fan)].ramp.isRunning = false := by decide

/-- SweepCommandsDriveTheEngine: a command that carries settings and one that carries nothing, the engine in IDLE and in
a sweep, with and without staged settings. -/
theorem witness_sweepCommands :
    sweepArgs [] = some ⟨none, none, none, none⟩ ∧
    sweepArgs [item 2 [0], item 4 [0, 0]] = some ⟨none, some 0, none, some 10⟩ ∧
    (⟨none, some 0, none, none⟩ : SweepArgs).anyCarried = true ∧
    (⟨none, none, none, none⟩ : SweepArgs).anyCarried = false ∧ State.reset.sweep.engine = .idle ∧
    (sweeping (.converting 7) (some State.reset.sweep.current)).sweep.engine ≠ .idle := by decide

/-- SetUplinkAndQueueStoreTheirSettings: the flag of A cleared while B's is clear and while it is set, types that clash
and that do not, watermarks at and beyond their bounds, and an egress limit. -/
theorem witness_setUplink_setQueue :
    uplinkArgs [item 1 [1], item 2 [0]] = some (.uplink .A (some false) none) ∧
    (State.reset.uplink (otherUplink .A)).management = false ∧
    (State.reset.uplink (otherUplink .B)).management = true ∧
    uplinkArgs [item 5 [0x88, 0xB6]] = some (.chassis none (some 0x88B6#16) none) ∧
    uplinkArgs [item 4 [0, 63], item 6 [0x88, 0x09]] = some (.chassis (some 64) none (some 0x8809#16)) ∧
    queueArgs [item 1 [1], item 2 [3], item 5 [0, 129]] = some (.classQueue .A 3 none (some 129) none) ∧
    ¬129 ≤ (State.reset.uplink .A).queues[(3 : Cls)].limit ∧
    queueArgs [item 1 [1], item 2 [3], item 5 [0, 128], item 6 [0, 127]] =
      some (.classQueue .A 3 none (some 128) (some 127)) ∧
    (State.reset.uplink .A).queues[(3 : Cls)].congested = false ∧
    queueArgs [item 3 [16], item 4 [0, 65]] = some (.egress 15 (some 64)) := by decide

/-- TableCommandsEditTheirTables: the arguments, at the ends of the tag IDs, and a table with the key and without. -/
theorem witness_tableCommands :
    classMapArgs [item 1 [7, 4]] = some [(7, 3)] ∧
    segmentArgs [item 1 [0x0F, 0xFE], item 2 [0x80, 1], item 3 [0], item 4 [0], item 5 [1]] =
      some ⟨4094, 0x8001, .a, .forward, true, none⟩ ∧
    deleteSegmentArgs [item 1 [0, 1]] = some 1 ∧
    admissionArgs [item 2 [0], item 3 [0x0F, 0xA1], item 4 [0xFF]] = some (none, ⟨.allow, 4000, none⟩) ∧
    admissionArgs [item 1 [0, 5], item 2 [0], item 3 [0, 0], item 4 [9]] = some (some 5, ⟨.allow, 0, some 3⟩) ∧
    deleteAdmissionArgs [] = some none ∧ deleteAdmissionArgs [item 1 [0, 5]] = some (some 5) ∧
    (∀ x ∈ State.reset.fwd.segments, x.tagId ≠ 1) ∧ (∀ x ∈ State.reset.admissionTable, x.bladeType ≠ 5) ∧
    State.reset.fwd.segments.length < 32 ∧ State.reset.admissionTable.length < 16 := by decide

/-- A segment table of 32 entries in its order, as the clause of FULL takes it. -/
theorem witness_fullSegments : ∃ s : State, SegmentsOrdered s ∧ s.fwd.segments.length = 32 ∧
    ∀ x ∈ s.fwd.segments, x.tagId ≠ 4094 := by
  refine ⟨{ State.reset with fwd := { State.reset.fwd with
    segments := (List.range 32).map fun k => ⟨k + 1, 0, .a, .drop, false, none⟩ } }, ?_, ?_, ?_⟩
  · unfold SegmentsOrdered; decide
  · decide
  · decide

/-- An admission table of 16 entries in its order. -/
theorem witness_fullAdmission : ∃ s : State, AdmissionOrdered s ∧ s.admissionTable.length = 16 ∧
    ∀ x ∈ s.admissionTable, x.bladeType ≠ 0xFFFF#16 := by
  refine ⟨{ State.reset with
    admissionTable := (List.range 16).map fun k => ⟨BitVec.ofNat 16 k, ⟨.deny, 0, none⟩⟩ }, ?_, ?_, ?_⟩
  · unfold AdmissionOrdered; decide
  · decide
  · decide

/-- SlotPowerCommandsFollowTheirTables, AdmitAndReleaseFollowTheSlotState, InjectClearAndRestart: the arguments. The
states are those of `witness_command`. -/
theorem witness_actions :
    powerOffArgs [item 1 [1]] = some (0, .off) ∧ powerOffArgs [item 1 [1], item 2 [1]] = some (0, .eject) ∧
    slotAdmitArgs [item 1 [1], item 2 [0, 1], item 3 [0, 2]] = some (0, ⟨1, 1⟩) ∧
    slotAdmitArgs [item 1 [1], item 2 [0x0F, 0xA1], item 3 [0, 0]] = some (0, ⟨4000, 0⟩) ∧
    injectArgs [item 1 [1], item 2 (List.replicate 60 0)] = some (0, List.replicate 60 0) ∧
    (offerEgress 0 { octets := List.replicate 60 0, fcs := none } State.reset).isSome = true ∧
    offerEgress 0 { octets := List.replicate 60 0, fcs := none } { State.reset with freeCells := 0 } = none ∧
    clearAlertsArgs [item 2 []] = some none ∧ clearAlertsArgs [item 1 [12, 0]] = some (some [⟨.override, 0⟩]) := by
  decide

/-- ComposedFramesAreReadBack: a tagged frame to the group address, its tag of the tag type in force. -/
theorem witness_tagged : ControlArrives State.reset
    { envelope with destination := 0x07E56A000001#48, tag := some ⟨0x8100#16, 0xFFFF#16⟩ } 0 :=
  ⟨rfl, by decide, by decide, .inr rfl, rfl, ⟨rfl, by decide⟩, by decide⟩

/-- ComposedFramesAreReadBack with 255 addresses and 255 readings, at a maximum length of 2048. -/
theorem witness_longest : ∃ s : State, ControlArrives s envelope (25 + 6 * 255) ∧ ControlArrives s envelope (1 + 2 * 255) :=
  ⟨{ State.reset with fwd := { State.reset.fwd with maxLength := 2048 } },
    ⟨rfl, by decide, by decide, .inl (by decide), rfl, ⟨by decide, by decide⟩, by decide⟩,
    ⟨rfl, by decide, by decide, .inl (by decide), rfl, ⟨by decide, by decide⟩, by decide⟩⟩

/-- The octets of an UNCAP of sequence 258 and 300 W, by R174, R176 and R179, at straps 0. -/
theorem test_uncap_octets : (uncapFrame State.reset 0x0102#16 300).octets =
    [0x07, 0xE5, 0x6A, 0, 0, 1, 0x02, 0xE5, 0x6A, 0, 0, 0, 0x88, 0xB6, 1, 0x13, 1, 2, 0, 2, 1, 0x2C] ++
      List.replicate 38 0 := by decide

/-- The octets of a pause of 65535 quanta, by R175. -/
theorem test_pause_octets : State.reset.pauseOctets 65535 =
    [0x01, 0x80, 0xC2, 0, 0, 1, 0x02, 0xE5, 0x6A, 0, 0, 0, 0x88, 0x08, 0, 1, 0xFF, 0xFF] ++
      List.replicate 42 0 := by decide

/-- ComposedFramesAreReadBack: bodies shorter than the padding and longer. -/
theorem witness_bodies : ([] : Octets).length < 65536 ∧ (List.replicate 2030 (0 : Byte)).length < 65536 := by
  refine ⟨?_, ?_⟩
  · decide
  · rw [List.length_replicate]; decide

end Sys2Proof.Tests
end

section
/-! SUPPORT. What a step can do, said once: the changes that each event makes by itself, how an event ends, and from
both what an invariant has to be shown for. -/

namespace Sys2Proof.Machine

/-- The own changes of an event that ends with `close`, with whether its rule asks for an evaluation. -/
inductive OwnChange (s : State) : State → Bool → Prop
  | presence (i : Slot) : (s.slot i).adm.window.isRunning = true →
      OwnChange s (presenceExpiry i s).state (presenceExpiry i s).cause
  | announceWindow (i : Slot) : (s.slot i).adm.announceWindow.isRunning = true → OwnChange s (announceExpiry i s) false
  | uplinkComplete (u : Uplink) (f : UplinkFlight) : (s.uplink u).flight = some f →
      OwnChange s (uplinkComplete u f s) false
  | slotComplete (i : Slot) (f : SlotFlight) : (s.slot i).que.flight = some f → OwnChange s (slotComplete i f s) false
  | holdEnd (u : Uplink) : OwnChange s (s.modUplink u fun r => { r with hold := .stopped }) false
  | pauseRefresh (i : Slot) : OwnChange s (s.modQue i (refreshPause (s.slot i).adm.quanta)) false
  | linkFall (u : Uplink) : OwnChange s (linkFall u s) false
  | linkRise (u : Uplink) : OwnChange s (s.modUplink u fun r => { r with linkUp := true }) false
  | bay (b : Bay) (line : BayLine) : OwnChange s (bayExpiry b line s) false
  | capAck (i : Slot) : OwnChange s (capAckExpiry i s).state (capAckExpiry i s).cause
  | powerGood (i : Slot) : (s.slot i).rail.powerGoodWindow.isRunning = true →
      OwnChange s (powerGoodExpiry i s).state (powerGoodExpiry i s).cause
  | powerGoodTimer (i : Slot) : OwnChange s (powerGoodTimeout i s).state (powerGoodTimeout i s).cause
  | resetHold (i : Slot) : OwnChange s (resetHoldEnd i s).state (resetHoldEnd i s).cause
  | shutdown (i : Slot) : OwnChange s (shutdownExpiry i s).state (shutdownExpiry i s).cause
  | stale (i : Slot) : OwnChange s (staleExpiry i s) false
  | conversion (c : Channel) (code : Byte) : s.sweep.engine = .converting c →
      OwnChange s (completeConversion c code s).state (completeConversion c code s).cause
  | ramp (f : Fan) : s.fans[f].ramp.isRunning = true → OwnChange s (rampExpiry f s) false
  | spinUp (f : Fan) : s.fans[f].spin.isRunning = true → OwnChange s (spinUpExpiry f s) false
  | tachGate : OwnChange s (gateExpiry s) false
  | flow (p : Port) (opcode quanta : Word16) : OwnChange s (takeFlow p opcode quanta s) false
  | malformed (p : Port) : OwnChange s (drop p .malformed s) false
  | announce (i : Slot) (b : AnnounceBody) : OwnChange s (takeAnnounce i b s).state (takeAnnounce i b s).cause
  | telemetry (i : Slot) (l : List TelemetryItem) : OwnChange s (takeTelemetry i l s).state (takeTelemetry i l s).cause
  | ackCap (i : Slot) (sequence : Word16) : OwnChange s (takeCapAck i sequence s).state (takeCapAck i sequence s).cause
  | ackShutdown (i : Slot) : OwnChange s (takeShutdownAck i s).state (takeShutdownAck i s).cause
  | upstream (i : Slot) (h : TrafficHeader) (rx : Reception) : OwnChange s (upstream i h rx s) false
  | downstream (u : Uplink) (h : TrafficHeader) (rx : Reception) : OwnChange s (downstream u h rx s) false

/-- The moves after which nothing else happens: line moves, the sweep engine's timers, a pulse, and a drop of a frame
whose length is out of range. -/
inductive PlainMove (s : State) : State → Prop
  | none : PlainMove s s
  | presenceLine (i : Slot) (level : Bool) : level ≠ (s.slot i).adm.presenceLine →
      PlainMove s (s.modAdm i (movePresence level s.timing.presenceFilter))
  | bayLine (b : Bay) (line : BayLine) (level : Bool) :
      PlainMove s (s.modBay b (moveBayLine line level s.timing.bayFilter))
  | powerGoodLine (i : Slot) (level : Bool) : level ≠ (s.slot i).rail.powerGoodLine →
      PlainMove s (s.modRail i (movePowerGood level s.timing.powerGoodFilter))
  | period : s.sweep.periodTimer.isRunning = true → PlainMove s { s with sweep := periodExpiry s.sweep }
  | startDelay : s.sweep.engine = .starting → PlainMove s { s with sweep := advanceEngine s.sweep 0 }
  | pulse (f : Fan) : PlainMove s (s.modFan f countPulse)
  | tooLong (p : Port) : PlainMove s (drop p .tooLong s)

/-- How a command of the block ends. -/
inductive Ends (s : State) : State → Prop
  | reset (straps : Byte) : Ends s (afterReset straps s)
  | plain (t : State) : PlainMove s t → Ends s t
  | closed (m : State) (cause : Bool) : OwnChange s m cause → Ends s (close s m cause)
  | handled (p : Port) (m : State) (cause : Bool) : OwnChange (countReceived p s) m cause →
      Ends s (close (countReceived p s) m cause)
  | command (p : Port) (o : Origin) (items : List Item) : Ends s (runCommand o items (countReceived p s))

/-- A frame that arrives leaves no trace, is dropped for its length, or is counted and handled by its class
(R130 to R135, R140). -/
theorem receive_ends (p : Port) (rx : Reception) (s : State) : Ends s (receive p rx s) := by
  unfold receive
  split
  · exact .plain _ .none
  · split
    · exact .plain _ (.tooLong p)
    · unfold handle
      split
      next opcode quanta _ => exact .handled p _ _ (.flow p opcode quanta)
      next => exact .handled p _ _ (.malformed p)
      next i body _ => exact .handled p _ _ (.announce i body)
      next i readings _ => exact .handled p _ _ (.telemetry i readings)
      next i sequence _ => exact .handled p _ _ (.ackCap i sequence)
      next i _ => exact .handled p _ _ (.ackShutdown i)
      next u source sequence code items _ => exact .command p _ items
      next i h _ => exact .handled p _ _ (.upstream i h rx)
      next u h _ => exact .handled p _ _ (.downstream u h rx)

/-- A change made only where a condition holds. -/
theorem ends_ite (s t : State) (c : Prop) [Decidable c] (h : c → Ends s t) : Ends s (if c then t else s) := by
  split
  next hc => exact h hc
  next => exact .plain _ .none

/-- Every command of the block ends in one of these ways. -/
theorem exec_ends (c : Instr) (s t : State) (h : exec c s = .next t) : Ends s t := by
  cases c with
  | chassisReset straps => cases h; exact .reset straps
  | presenceLineChange i level =>
    cases h
    split
    next => exact .plain _ .none
    next hl => exact .plain _ (.presenceLine i level hl)
  | presenceFilterExpiry i => cases h; exact ends_ite _ _ _ fun hr => .closed _ _ (.presence i hr)
  | announceWindowExpiry i => cases h; exact ends_ite _ _ _ fun hr => .closed _ _ (.announceWindow i hr)
  | uplinkTransmissionComplete u =>
    cases h
    split
    next => exact .plain _ .none
    next f hf => exact .closed _ _ (.uplinkComplete u f hf)
  | slotTransmissionComplete i =>
    cases h
    split
    next => exact .plain _ .none
    next f hf => exact .closed _ _ (.slotComplete i f hf)
  | transmitHoldEnd u => cases h; exact ends_ite _ _ _ fun _ => .closed _ _ (.holdEnd u)
  | pauseRefreshExpiry i => cases h; exact ends_ite _ _ _ fun _ => .closed _ _ (.pauseRefresh i)
  | uplinkLinkFall u => cases h; exact ends_ite _ _ _ fun _ => .closed _ _ (.linkFall u)
  | uplinkLinkRise u =>
    cases h
    split
    next => exact .plain _ .none
    next => exact .closed _ _ (.linkRise u)
  | bayLineChange b line level =>
    cases h
    split
    next => exact .plain _ .none
    next => exact .plain _ (.bayLine b line level)
  | bayLineFilterExpiry b line => cases h; exact ends_ite _ _ _ fun _ => .closed _ _ (.bay b line)
  | capAckTimerExpiry i => cases h; exact ends_ite _ _ _ fun _ => .closed _ _ (.capAck i)
  | powerGoodLineChange i level =>
    cases h
    split
    next => exact .plain _ .none
    next hl => exact .plain _ (.powerGoodLine i level hl)
  | powerGoodFilterExpiry i => cases h; exact ends_ite _ _ _ fun hr => .closed _ _ (.powerGood i hr)
  | powerGoodTimerExpiry i => cases h; exact ends_ite _ _ _ fun _ => .closed _ _ (.powerGoodTimer i)
  | resetHoldExpiry i => cases h; exact ends_ite _ _ _ fun _ => .closed _ _ (.resetHold i)
  | shutdownTimerExpiry i => cases h; exact ends_ite _ _ _ fun _ => .closed _ _ (.shutdown i)
  | staleTimerExpiry i => cases h; exact ends_ite _ _ _ fun _ => .closed _ _ (.stale i)
  | periodTimerExpiry => cases h; exact ends_ite _ _ _ fun hr => .plain _ (.period hr)
  | startDelayEnd =>
    cases h
    split
    next he => exact .plain _ (.startDelay he)
    next => exact .plain _ .none
    next => exact .plain _ .none
  | conversionComplete code =>
    cases h
    split
    next c hc => exact .closed _ _ (.conversion c code hc)
    next => exact .plain _ .none
    next => exact .plain _ .none
  | rampExpiry f => cases h; exact ends_ite _ _ _ fun hr => .closed _ _ (.ramp f hr)
  | spinUpExpiry f => cases h; exact ends_ite _ _ _ fun hr => .closed _ _ (.spinUp f hr)
  | tachPulse f => cases h; exact .plain _ (.pulse f)
  | tachGateExpiry => cases h; exact ends_ite _ _ _ fun _ => .closed _ _ .tachGate
  | _ => cases h; exact receive_ends _ _ _

/-- A step idles, or runs the front command on the state with the queue's rest. -/
theorem step_cases (s t : State) (h : step s = .next t) :
    t = s ∨ ∃ rest, Ends { s with pending := rest } t := by
  unfold step at h
  split at h
  next => cases h; exact .inl rfl
  next c rest _ => exact .inr ⟨rest, exec_ends c _ t h⟩

/-! ### What a command can change -/

/-- The own changes of a COMMAND: none, or those of its rule for the arguments that its items carry (R166). -/
inductive CommandChange (s : State) (items : List Item) : State → Prop
  | none : CommandChange s items s
  | setSlot (i : Slot) (x : SlotSettings) : slotArgs items = some (i, x) → CommandChange s items (setSlot i x s).state
  | setSupply (x : SupplySettings) : supplyArgs items = some x → CommandChange s items (setSupply x s).state
  | setTiming (x : TimingSettings) : timingArgs items = some x → CommandChange s items (setTiming x s).state
  | setZone (x : ZoneSettings) : zoneArgs items = some x → CommandChange s items (setZone x s).state
  | setFan (f : Fan) (x : FanSettings) : fanArgs items = some (f, x) → CommandChange s items (setFan f x s).state
  | setFanCurve (f : Fan) (c : Curve) : curveArgs items = some (f, c) → CommandChange s items (setFanCurve f c s).state
  | setFanDuty (f : Fan) (d : Nat) : dutyArgs items = some (f, d) → CommandChange s items (setFanDuty f d s).state
  | setChannel (c : Channel) (x : ChannelSettings) : channelArgs items = some (c, x) →
      CommandChange s items (setChannel c x s).state
  | setSweep (x : SweepArgs) : sweepArgs items = some x → CommandChange s items (setSweep x s).state
  | setUplink (a : UplinkArgs) : uplinkArgs items = some a → CommandChange s items (setUplink a s).state
  | setQueue (a : QueueArgs) : queueArgs items = some a → CommandChange s items (setQueueLimits a s).state
  | setClassMap (l : List (Fin 8 × Cls)) : classMapArgs items = some l → CommandChange s items (setClassMap l s).state
  | loadSegment (g : Segment) : segmentArgs items = some g → CommandChange s items (loadSegment g s).state
  | deleteSegment (id : Nat) : deleteSegmentArgs items = some id → CommandChange s items (deleteSegment id s).state
  | loadAdmission (k : Option Word16) (g : AdmissionRule) : admissionArgs items = some (k, g) →
      CommandChange s items (loadAdmission k g s).state
  | deleteAdmission (k : Option Word16) : deleteAdmissionArgs items = some k →
      CommandChange s items (deleteAdmission k s).state
  | slotPowerOn (i : Slot) : slotField items = some i → CommandChange s items (slotPowerOn i s).state
  | slotPowerOff (i : Slot) (form : ShutdownForm) : powerOffArgs items = some (i, form) →
      CommandChange s items (slotPowerOff i form s).state
  | slotKill (i : Slot) : slotField items = some i → CommandChange s items (slotKill i s).state
  | slotAdmit (i : Slot) (pair : PowerPair) : slotAdmitArgs items = some (i, pair) →
      CommandChange s items (slotAdmit i pair s).state
  | slotRelease (i : Slot) : slotField items = some i → CommandChange s items (slotRelease i s).state
  | inject (i : Slot) (o : Octets) : injectArgs items = some (i, o) → CommandChange s items (injectFrame i o s).state
  | clearAlerts (l : Option (List Alert)) : clearAlertsArgs items = some l →
      CommandChange s items (clearAlerts l s).state
  | startSweep : CommandChange s items { s with sweep := triggerSweep s.sweep }
  | stopSweep : CommandChange s items { s with sweep := stopSweeping s.sweep }
  | clearCounters : CommandChange s items (zeroCounters s)
  | restart : CommandChange s items (restart s).state

theorem withArgs_change {α : Type} {items : List Item} {args : Option α} {s : State} {run : α → Answer}
    (h : ∀ a, args = some a → CommandChange s items (run a).state) :
    CommandChange s items (withArgs args s run).state := by
  cases args with
  | none => exact .none
  | some a => exact h a rfl

theorem readPlain_state (items : List Item) (s : State) (results : List (List Octets)) :
    (readPlain items s results).state = s := by
  unfold readPlain
  split <;> rfl

theorem plainCommand_change {items : List Item} {s : State} {run : State → Answer}
    (h : CommandChange s items (run s).state) : CommandChange s items (plainCommand items s run).state := by
  unfold plainCommand
  split
  next => exact h
  next => exact .none

theorem tableEntry_state {α : Type} (s : State) (table : List α) (k : Nat) (encode : α → Octets) (b : Bool) :
    (tableEntry s table k encode b).state = s := by
  unfold tableEntry
  dsimp only
  split <;> rfl

theorem readTable_state (s : State) (table : TableSelector) (k : Option Nat) : (readTable s table k).state = s := by
  cases k with
  | none => cases table <;> rfl
  | some k => cases table <;> exact tableEntry_state s _ k _ _

theorem cmdReadTable_state (items : List Item) (s : State) : (cmdReadTable items s).state = s := by
  unfold cmdReadTable withArgs
  split
  next a _ => exact readTable_state s a.1 a.2
  next => rfl

/-- Every code changes what its command changes; a read, a refusal and an unknown code change nothing (R166, R167). -/
theorem runCode_change (code : Word16) (items : List Item) (s : State) :
    CommandChange s items (runCode code items s).state := by
  have hplain (results : List (List Octets)) : CommandChange s items (readPlain items s results).state := by
    rw [readPlain_state]; exact .none
  have hread {α : Type} (args : Option α) (results : α → List (List Octets)) :
      CommandChange s items (withArgs args s fun a => answerOk s (results a) false).state :=
    withArgs_change fun _ _ => .none
  unfold runCode
  split
  · exact hread _ _
  · exact hread _ _
  · exact hplain _
  · exact hplain _
  · exact hplain _
  · exact hplain _
  · exact hread _ _
  · exact hplain _
  · rw [cmdReadTable_state]; exact .none
  · exact withArgs_change fun ⟨i, x⟩ h => .setSlot i x h
  · exact withArgs_change fun x h => .setSupply x h
  · exact withArgs_change fun x h => .setTiming x h
  · exact withArgs_change fun x h => .setZone x h
  · exact withArgs_change fun ⟨f, x⟩ h => .setFan f x h
  · exact withArgs_change fun ⟨f, c⟩ h => .setFanCurve f c h
  · exact withArgs_change fun ⟨f, d⟩ h => .setFanDuty f d h
  · exact withArgs_change fun ⟨c, x⟩ h => .setChannel c x h
  · exact withArgs_change fun x h => .setSweep x h
  · exact withArgs_change fun a h => .setUplink a h
  · exact withArgs_change fun a h => .setQueue a h
  · exact withArgs_change fun l h => .setClassMap l h
  · exact withArgs_change fun g h => .loadSegment g h
  · exact withArgs_change fun id h => .deleteSegment id h
  · exact withArgs_change fun ⟨k, g⟩ h => .loadAdmission k g h
  · exact withArgs_change fun k h => .deleteAdmission k h
  · exact plainCommand_change .startSweep
  · exact plainCommand_change .stopSweep
  · exact withArgs_change fun i h => .slotPowerOn i h
  · exact withArgs_change fun ⟨i, form⟩ h => .slotPowerOff i form h
  · exact withArgs_change fun i h => .slotKill i h
  · exact withArgs_change fun ⟨i, pair⟩ h => .slotAdmit i pair h
  · exact withArgs_change fun i h => .slotRelease i h
  · exact withArgs_change fun ⟨i, o⟩ h => .inject i o h
  · exact withArgs_change fun l h => .clearAlerts l h
  · exact plainCommand_change .clearCounters
  · exact plainCommand_change .restart
  · exact .none

/-! ### What an invariant has to be shown for -/

/-- The five ways in which a command ends, for an invariant. -/
structure KeptAtEnds (P : State → Prop) : Prop where
  pending : ∀ s l, P s → P { s with pending := l }
  received : ∀ p s, P s → P (countReceived p s)
  reset : ∀ straps s, P (afterReset straps s)
  plain : ∀ s t, P s → PlainMove s t → P t
  closed : ∀ s m cause, P s → OwnChange s m cause → P (close s m cause)
  command : ∀ o items s, P s → P (runCommand o items s)

/-- An invariant that every way of ending keeps is kept by every step. -/
theorem KeptAtEnds.step {P : State → Prop} (K : KeptAtEnds P) {s t : State} (hs : P s) (h : step s = .next t) : P t := by
  obtain rfl | ⟨rest, hends⟩ := step_cases s t h
  · exact hs
  · have hr := K.pending s rest hs
    cases hends with
    | reset straps => exact K.reset straps _
    | plain _ hm => exact K.plain _ _ hr hm
    | closed m cause hm => exact K.closed _ m cause hr hm
    | handled p m cause hm => exact K.closed _ m cause (K.received p _ hr) hm
    | command p o items => exact K.command o items _ (K.received p _ hr)

/-- The actions of an evaluation, each under the conditions in which it is taken, for an invariant (R50). -/
structure KeptByEvaluation (P : State → Prop) : Prop where
  cap : ∀ i s, P s → capCandidate (s.slot i) = true → P (capSlot i s)
  powerOff : ∀ i s, P s → (s.slotState i).mainPowered = true → P (powerOff i s)
  standbyCut : ∀ i s, P s → isStandbyOnly (s.slot i) = true → P (standbyCut i s)
  uncap : ∀ i s, P s → (s.slot i).bud.capped = true → P (uncapSlot i s)
  grantStandby : ∀ e rest s, P s → s.budget.queue = e :: rest → e.kind = .standby → standbyServed s = true →
    P (grantStandby e.slot s)
  grantMain : ∀ e rest s, P s → s.budget.queue = e :: rest → e.kind = .main → mainServed s e.slot = true →
    P (grantMain e.slot s)
  short : ∀ s, P s → P (markShort s)

/-- One step of a fold that picks a slot: one that the test holds of takes the place of the best so far where it is
chosen over it. -/
def pickStep (p : Slot → Bool) (choose : Slot → Slot → Bool) (best : Option Slot) (i : Slot) : Option Slot :=
  if p i then
    match best with
    | none => some i
    | some j => if choose i j then some i else some j
  else best

theorem pickWorst_eq (s : State) (p : SlotRecord → Bool) : pickWorst s p =
    allSlots.foldl (pickStep (fun i => p (s.slot i)) fun i j => decide (s.priorityOf j ≤ s.priorityOf i)) none := by
  unfold pickWorst
  congr 1
  funext best i
  cases best <;> simp [pickStep]

theorem pickBest_eq (s : State) (p : SlotRecord → Bool) : pickBest s p =
    allSlots.foldl (pickStep (fun i => p (s.slot i)) fun i j => decide (s.priorityOf i < s.priorityOf j)) none := by
  unfold pickBest
  congr 1
  funext best i
  cases best <;> simp [pickStep]

theorem pickHighest_eq (s : State) (p : SlotRecord → Bool) : pickHighest s p =
    allSlots.foldl (pickStep (fun i => p (s.slot i)) fun _ _ => true) none := by
  unfold pickHighest
  congr 1
  funext best i
  cases best <;> simp [pickStep]

/-- A fold that picks slots of an ascending list picks none where the test holds of none, and else the slot of the
largest key, where the later of two slots is chosen exactly if its key is larger. -/
theorem foldl_pickStep {p : Slot → Bool} {choose : Slot → Slot → Bool} {k : Slot → Nat}
    (hk : ∀ i j, j < i → (choose i j = true ↔ k j < k i)) (l : List Slot) (hl : l.Pairwise (· < ·))
    (best : Option Slot) (hb : ∀ j, best = some j → ∀ i ∈ l, j < i) :
    (l.foldl (pickStep p choose) best = none ↔ best = none ∧ ∀ i ∈ l, p i = false) ∧
    ∀ i, l.foldl (pickStep p choose) best = some i → (best = some i ∨ p i = true) ∧
      (∀ j, best = some j → k j ≤ k i) ∧ ∀ j ∈ l, p j = true → k j ≤ k i := by
  induction l generalizing best with
  | nil => simp +contextual
  | cons a l ih =>
    obtain ⟨ha, hl⟩ := List.pairwise_cons.mp hl
    rw [List.foldl_cons]
    by_cases hp : p a = true
    · cases best with
      | none =>
        have hs : pickStep p choose none a = some a := by simp [pickStep, hp]
        rw [hs]
        obtain ⟨hn, hi⟩ := ih hl (some a) (by rintro j ⟨⟩; exact ha)
        refine ⟨by simp [hn, hp], fun i h => ?_⟩
        obtain ⟨h1, h2, h3⟩ := hi i h
        refine ⟨.inr (h1.elim (by rintro ⟨⟩; exact hp) id), by simp, ?_⟩
        simpa [h2 a rfl] using h3
      | some j =>
        have hja := hb j rfl a (by simp)
        by_cases hc : choose a j = true
        · have hs : pickStep p choose (some j) a = some a := by simp [pickStep, hp, hc]
          rw [hs]
          obtain ⟨hn, hi⟩ := ih hl (some a) (by rintro j ⟨⟩; exact ha)
          refine ⟨by simp [hn], fun i h => ?_⟩
          obtain ⟨h1, h2, h3⟩ := hi i h
          have h4 := h2 a rfl
          have h5 := (hk a j hja).mp hc
          refine ⟨.inr (h1.elim (by rintro ⟨⟩; exact hp) id), by rintro _ ⟨⟩; omega, ?_⟩
          simpa [h4] using h3
        · have hs : pickStep p choose (some j) a = some j := by simp [pickStep, hp, hc]
          rw [hs]
          obtain ⟨hn, hi⟩ := ih hl (some j) (fun x hx i h => hb x hx i (List.mem_cons_of_mem _ h))
          refine ⟨by simp [hn], fun i h => ?_⟩
          obtain ⟨h1, h2, h3⟩ := hi i h
          have h4 := h2 j rfl
          have h5 := (hk a j hja).not.mp hc
          refine ⟨h1, h2, ?_⟩
          simp only [List.mem_cons, forall_eq_or_imp]
          exact ⟨fun _ => by omega, h3⟩
    · have hs : pickStep p choose best a = best := by simp [pickStep, hp]
      rw [hs]
      obtain ⟨hn, hi⟩ := ih hl best (fun j hj i h => hb j hj i (List.mem_cons_of_mem _ h))
      refine ⟨by simpa [hp] using hn, fun i h => ?_⟩
      obtain ⟨h1, h2, h3⟩ := hi i h
      refine ⟨h1, h2, ?_⟩
      simpa [hp] using h3

theorem allSlots_ascending : allSlots.Pairwise (· < ·) := by decide

theorem mem_allSlots (i : Slot) : i ∈ allSlots := by revert i; decide

/-- A fold over all slots picks a slot exactly if the test holds of it and of no slot of a larger key. -/
theorem pick_eq_some {p : Slot → Bool} {choose : Slot → Slot → Bool} {k : Slot → Nat} (hinj : ∀ i j, k i = k j → i = j)
    (hk : ∀ i j, j < i → (choose i j = true ↔ k j < k i)) (i : Slot) :
    allSlots.foldl (pickStep p choose) none = some i ↔ p i = true ∧ ∀ j, p j = true → k j ≤ k i := by
  obtain ⟨hn, hs⟩ := foldl_pickStep (p := p) hk allSlots allSlots_ascending none (by simp)
  constructor
  · intro h
    obtain ⟨h1, -, h3⟩ := hs i h
    exact ⟨h1.resolve_left (by simp), fun j hj => h3 j (mem_allSlots j) hj⟩
  · rintro ⟨hp, hmax⟩
    cases hr : allSlots.foldl (pickStep p choose) none with
    | none => have h2 := (hn.mp hr).2 i (mem_allSlots i); simp [hp] at h2
    | some j =>
      obtain ⟨h1, -, h3⟩ := hs j hr
      have h4 := hmax j (h1.resolve_left (by simp))
      have h5 := h3 i (mem_allSlots i) hp
      rw [hinj j i (by omega)]

theorem pick_eq_none {p : Slot → Bool} {choose : Slot → Slot → Bool} {k : Slot → Nat}
    (hk : ∀ i j, j < i → (choose i j = true ↔ k j < k i)) :
    allSlots.foldl (pickStep p choose) none = none ↔ ∀ i, p i = false := by
  rw [(foldl_pickStep (p := p) hk allSlots allSlots_ascending none (by simp)).1]
  simp [mem_allSlots]

/-- The key of `pickWorst`: the priority, then the slot number. -/
def worstKey (s : State) (i : Slot) : Nat := (s.priorityOf i).val * 16 + i.val

/-- The key of `pickBest`: the better priority, then the lower slot number. -/
def bestKey (s : State) (i : Slot) : Nat := (3 - (s.priorityOf i).val) * 16 + (15 - i.val)

theorem worstKey_chooses (s : State) (i j : Slot) (h : j < i) :
    decide (s.priorityOf j ≤ s.priorityOf i) = true ↔ worstKey s j < worstKey s i := by
  simp only [decide_eq_true_eq, Fin.le_def, Fin.lt_def, worstKey] at h ⊢
  omega

theorem bestKey_chooses (s : State) (i j : Slot) (h : j < i) :
    decide (s.priorityOf i < s.priorityOf j) = true ↔ bestKey s j < bestKey s i := by
  simp only [decide_eq_true_eq, Fin.lt_def, bestKey] at h ⊢
  omega

theorem pickWorst_eq_none (s : State) (p : SlotRecord → Bool) :
    pickWorst s p = none ↔ ∀ i : Slot, p (s.slot i) = false := by
  rw [pickWorst_eq, pick_eq_none (worstKey_chooses s)]

theorem pickBest_eq_none (s : State) (p : SlotRecord → Bool) :
    pickBest s p = none ↔ ∀ i : Slot, p (s.slot i) = false := by
  rw [pickBest_eq, pick_eq_none (bestKey_chooses s)]

theorem pickHighest_eq_none (s : State) (p : SlotRecord → Bool) :
    pickHighest s p = none ↔ ∀ i : Slot, p (s.slot i) = false := by
  rw [pickHighest_eq, pick_eq_none (k := Fin.val) (fun i j h => by simpa using h)]

theorem pickWorst_eq_some (s : State) (p : SlotRecord → Bool) (i : Slot) :
    pickWorst s p = some i ↔ p (s.slot i) = true ∧ ∀ j : Slot, p (s.slot j) = true →
      s.priorityOf j < s.priorityOf i ∨ (s.priorityOf j = s.priorityOf i ∧ j ≤ i) := by
  rw [pickWorst_eq, pick_eq_some (k := worstKey s) (fun i j h => Fin.ext (by simp only [worstKey] at h; omega)) (worstKey_chooses s)]
  have hkey (j : Slot) : worstKey s j ≤ worstKey s i ↔
      s.priorityOf j < s.priorityOf i ∨ (s.priorityOf j = s.priorityOf i ∧ j ≤ i) := by
    simp only [worstKey, Fin.lt_def, Fin.ext_iff, Fin.le_def]
    omega
  simp only [hkey]

theorem pickBest_eq_some (s : State) (p : SlotRecord → Bool) (i : Slot) :
    pickBest s p = some i ↔ p (s.slot i) = true ∧ ∀ j : Slot, p (s.slot j) = true →
      s.priorityOf i < s.priorityOf j ∨ (s.priorityOf j = s.priorityOf i ∧ i ≤ j) := by
  rw [pickBest_eq, pick_eq_some (k := bestKey s) (fun i j h => Fin.ext (by simp only [bestKey] at h; omega)) (bestKey_chooses s)]
  have hkey (j : Slot) : bestKey s j ≤ bestKey s i ↔
      s.priorityOf i < s.priorityOf j ∨ (s.priorityOf j = s.priorityOf i ∧ i ≤ j) := by
    simp only [bestKey, Fin.lt_def, Fin.ext_iff, Fin.le_def]
    omega
  simp only [hkey]

theorem pickHighest_eq_some (s : State) (p : SlotRecord → Bool) (i : Slot) :
    pickHighest s p = some i ↔ p (s.slot i) = true ∧ ∀ j : Slot, p (s.slot j) = true → j ≤ i := by
  rw [pickHighest_eq, pick_eq_some (k := Fin.val) (fun i j h => Fin.ext h) (fun i j h => by simpa using h)]
  simp only [Fin.le_def]

theorem pickWorst_holds {s : State} {p : SlotRecord → Bool} {i : Slot} (h : pickWorst s p = some i) :
    p (s.slot i) = true := ((pickWorst_eq_some s p i).mp h).1

theorem pickBest_holds {s : State} {p : SlotRecord → Bool} {i : Slot} (h : pickBest s p = some i) :
    p (s.slot i) = true := ((pickBest_eq_some s p i).mp h).1

theorem pickHighest_holds {s : State} {p : SlotRecord → Bool} {i : Slot} (h : pickHighest s p = some i) :
    p (s.slot i) = true := ((pickHighest_eq_some s p i).mp h).1

theorem isPowering_mainPowered {r : SlotRecord} (h : isPowering r = true) : r.adm.state.mainPowered = true := by
  rw [isPowering, beq_iff_eq] at h
  rw [h]
  rfl

namespace KeptByEvaluation

variable {P : State → Prop} (K : KeptByEvaluation P)
include K

theorem shedOne {s t : State} (hs : P s) (h : shedOne s = some t) : P t := by
  unfold Machine.shedOne at h
  split at h
  next i hi => cases h; exact K.cap i s hs (pickWorst_holds hi)
  next =>
    split at h
    next i hi => cases h; exact K.powerOff i s hs (isPowering_mainPowered (pickHighest_holds hi))
    next =>
      split at h
      next i hi => cases h; exact K.powerOff i s hs (pickWorst_holds hi)
      next =>
        split at h
        next i hi => cases h; exact K.standbyCut i s hs (pickWorst_holds hi)
        next => cases h

theorem shed (n : Nat) {s : State} (hs : P s) : P (shed n s) := by
  induction n generalizing s with
  | zero => exact hs
  | succ n ih =>
    unfold Machine.shed
    split
    next =>
      split
      next => exact hs
      next t ht => exact ih (K.shedOne hs ht)
    next => exact hs

theorem restore (n : Nat) {s : State} (hs : P s) : P (restore n s) := by
  induction n generalizing s with
  | zero => exact hs
  | succ n ih =>
    unfold Machine.restore
    split
    next => exact hs
    next =>
      split
      next => exact hs
      next i hi =>
        split
        next => exact ih (K.uncap i s hs (pickBest_holds hi))
        next => exact hs

theorem grants (n : Nat) {s : State} (hs : P s) : P (grants n s) := by
  induction n generalizing s with
  | zero => exact hs
  | succ n ih =>
    unfold Machine.grants
    split
    next => exact hs
    next e rest hq =>
      split
      next hk =>
        split
        next h => exact ih (K.grantStandby e rest s hs hq hk h)
        next => exact hs
      next hk =>
        split
        next h => exact ih (K.grantMain e rest s hs hq hk h)
        next => exact K.short s hs

/-- An invariant that each action keeps is kept by an evaluation (R50). -/
theorem evaluate {s : State} (hs : P s) : P (evaluate s) := by
  unfold Machine.evaluate
  have h := K.grants (Machine.restore 16 (Machine.shed shedBound s)).budget.queue.length
    (K.restore 16 (K.shed shedBound hs))
  dsimp only
  split
  next => exact K.shed shedBound h
  next => exact h

theorem evaluateIfDue (before : State) (cause : Bool) {s : State} (hs : P s) : P (evaluateIfDue before s cause) := by
  unfold Machine.evaluateIfDue
  split
  next => exact K.evaluate hs
  next => exact hs

end KeptByEvaluation

end Sys2Proof.Machine
end

section
/-! SUPPORT. The state without its Queue Manager: what no offer, transmission, flush, pause or count changes. -/

namespace Sys2Proof.Machine

/-- A slot record without its Queue Manager part. -/
def quietRecord (r : SlotRecord) : SlotRecord := { r with que := (SlotRecord.reset 0).que }

/-- The state without frames, uplinks, counters, cells, notice number and notice destination. -/
def State.quiet (s : State) : State :=
  { s with
    slots := s.slots.map quietRecord, counters := Vector.replicate 18 PortCounters.reset,
    uplinkA := UplinkRecord.reset true, uplinkB := UplinkRecord.reset true, freeCells := 0, trapQueue := [],
    mgmt := { s.mgmt with destination := none, notice := 0 } }

theorem quiet_slot (s : State) (i : Slot) : s.quiet.slot i = quietRecord (s.slot i) := by
  simp [State.slot, State.quiet]

/-- A change of a slot's Queue Manager part alone is quiet. -/
theorem quiet_modQue (s : State) (i : Slot) (f : QueuePart → QueuePart) : (s.modQue i f).quiet = s.quiet := by
  have h : (s.slots.set i { s.slots[i] with que := f s.slots[i].que }).map quietRecord = s.slots.map quietRecord := by
    ext j hj
    simp only [Vector.getElem_map, Fin.getElem_fin, Vector.getElem_set]
    split
    next h => subst h; rfl
    next => rfl
  simp only [State.quiet, State.modQue, State.modSlot, h]

@[simp] theorem quiet_modUplink (s : State) (u : Uplink) (f : UplinkRecord → UplinkRecord) :
    (s.modUplink u f).quiet = s.quiet := by cases u <;> rfl

@[simp] theorem quiet_modClass (s : State) (u : Uplink) (c : Cls) (f : ClassQueue → ClassQueue) :
    (s.modClass u c f).quiet = s.quiet := quiet_modUplink s u _

@[simp] theorem quiet_drop (p : Port) (r : DropReason) (s : State) : (drop p r s).quiet = s.quiet := rfl

@[simp] theorem quiet_countReceived (p : Port) (s : State) : (countReceived p s).quiet = s.quiet := rfl

@[simp] theorem quiet_setDestination (a : Station) (u : Uplink) (s : State) : (setDestination a u s).quiet = s.quiet := rfl

@[simp] theorem quiet_freeCells (s : State) (n : Nat) : ({ s with freeCells := n } : State).quiet = s.quiet := rfl

@[simp] theorem quiet_trapQueue (s : State) (n : Nat) (q : List TrapEntry) :
    ({ s with freeCells := n, trapQueue := q } : State).quiet = s.quiet := rfl

theorem foldl_quiet {α : Type} (step : State → α → State) (h : ∀ s a, (step s a).quiet = s.quiet) (l : List α)
    (s : State) : (l.foldl step s).quiet = s.quiet := by
  induction l generalizing s with
  | nil => rfl
  | cons a l ih => rw [List.foldl_cons, ih, h]

/-! ### Pause, congestion, offers -/

@[simp] theorem quiet_pauseSlot (i : Slot) (s : State) : (pauseSlot i s).quiet = s.quiet := by
  unfold pauseSlot
  split
  next => rfl
  next => exact quiet_modQue s i _

@[simp] theorem quiet_releaseSlot (i : Slot) (s : State) : (releaseSlot i s).quiet = s.quiet := quiet_modQue s i _

@[simp] theorem quiet_endCongestion (u : Uplink) (c : Cls) (s : State) : (endCongestion u c s).quiet = s.quiet := by
  unfold endCongestion
  refine (foldl_quiet _ (fun t i => ?_) allSlots _).trans (quiet_modClass s u c _)
  split
  next => exact quiet_releaseSlot i t
  next => rfl

@[simp] theorem quiet_downwardTest (u : Uplink) (c : Cls) (s : State) : (downwardTest u c s).quiet = s.quiet := by
  unfold downwardTest
  split
  next => exact quiet_endCongestion u c s
  next => rfl

@[simp] theorem quiet_upwardTest (u : Uplink) (c : Cls) (source : Option Slot) (s : State) :
    (upwardTest u c source s).quiet = s.quiet := by
  unfold upwardTest
  dsimp only
  split
  next =>
    split
    next => rfl
    next i => rw [quiet_pauseSlot, quiet_modClass]
  next =>
    split
    next =>
      refine (foldl_quiet _ (fun t i => ?_) allSlots _).trans (quiet_modClass s u c _)
      split
      next => exact quiet_pauseSlot i t
      next => rfl
    next => rfl

theorem quiet_offerClass {u : Uplink} {c : Cls} {e : QueueEntry} {s t : State} (h : offerClass u c e s = some t) :
    t.quiet = s.quiet := by
  obtain ⟨-, h1⟩ | ⟨-, h1⟩ := offerClass_cases u c e s
  · rw [h1] at h; cases h
  · rw [h1] at h; cases h; simp

theorem quiet_offerEgress {i : Slot} {f : Frame} {s t : State} (h : offerEgress i f s = some t) : t.quiet = s.quiet := by
  unfold offerEgress at h
  dsimp only at h
  split at h
  next => cases h; rw [quiet_modQue]; rfl
  next => cases h

theorem quiet_offerTrap {e : TrapEntry} {s t : State} (h : offerTrap e s = some t) : t.quiet = s.quiet := by
  unfold offerTrap at h
  split at h
  next => cases h; rfl
  next => cases h

@[simp] theorem quiet_offerControl (i : Slot) (f : ControlFrame) (s : State) : (offerControl i f s).quiet = s.quiet :=
  quiet_modQue s i _

theorem quiet_carryOne {s t : State} (h : carryOne s = some t) : t.quiet = s.quiet := by
  unfold carryOne at h
  split at h
  next => exact (quiet_offerClass h).trans rfl
  next => cases h

@[simp] theorem quiet_carryAll (n : Nat) (s : State) : (carryAll n s).quiet = s.quiet := by
  induction n generalizing s with
  | zero => rfl
  | succ n ih =>
    unfold carryAll
    split
    next => rfl
    next t h => rw [ih, quiet_carryOne h]

@[simp] theorem quiet_carrierTry (s : State) : (carrierTry s).quiet = s.quiet := quiet_carryAll _ s

/-! ### Transmissions and flushes -/

@[simp] theorem quiet_beginUplink (u : Uplink) (s : State) : (beginUplink u s).quiet = s.quiet := by
  obtain ⟨a, b, h⟩ := beginUplink_frame u s
  rw [h]
  rfl

@[simp] theorem quiet_beginAll (s : State) : (beginAll s).quiet = s.quiet := by
  unfold beginAll
  rw [foldl_quiet (fun t i => beginSlot i t) (fun t i => quiet_modQue t i _), quiet_beginUplink, quiet_beginUplink]

@[simp] theorem quiet_flushClass (u : Uplink) (c : Cls) (s : State) : (flushClass u c s).quiet = s.quiet := by
  rw [flushClass, quiet_modClass, quiet_freeCells]

@[simp] theorem quiet_linkDownClass (u : Uplink) (c : Cls) (s : State) : (linkDownClass u c s).quiet = s.quiet := by
  rw [linkDownClass, quiet_endCongestion, quiet_flushClass]
  refine foldl_quiet _ (fun t e => ?_) _ s
  unfold countLinkDown
  split <;> rfl

@[simp] theorem quiet_linkFall (u : Uplink) (s : State) : (linkFall u s).quiet = s.quiet := by
  rw [linkFall, foldl_quiet _ (fun t c => quiet_linkDownClass u c t), quiet_modUplink]

@[simp] theorem quiet_flushEgress (i : Slot) (s : State) : (flushEgress i s).quiet = s.quiet := by
  rw [flushEgress, quiet_modQue, quiet_freeCells]

@[simp] theorem quiet_flushSlot (i : Slot) (s : State) : (flushSlot i s).quiet = s.quiet := by
  rw [flushSlot, quiet_modQue, quiet_flushEgress]

@[simp] theorem quiet_uplinkComplete (u : Uplink) (f : UplinkFlight) (s : State) :
    (uplinkComplete u f s).quiet = s.quiet := by
  have ht (t : State) : (tryAfter u f.cls t).quiet = t.quiet := by
    unfold tryAfter
    split
    next =>
      split
      next => exact quiet_carrierTry t
      next => rfl
    next => rfl
  rw [uplinkComplete, ht, quiet_downwardTest, quiet_modUplink, quiet_freeCells]

@[simp] theorem quiet_slotComplete (i : Slot) (f : SlotFlight) (s : State) : (slotComplete i f s).quiet = s.quiet := by
  unfold slotComplete
  dsimp only
  split
  next => rw [quiet_freeCells, quiet_modQue]
  next => rw [quiet_modQue]

@[simp] theorem quiet_restartQueues (s : State) : (restartQueues s).quiet = s.quiet := by
  have hclass (f : Uplink → Cls → State → State) (hf : ∀ u c t, (f u c t).quiet = t.quiet) (t : State) :
      (eachClass f t).quiet = t.quiet :=
    foldl_quiet _ (fun t u => foldl_quiet _ (fun t c => hf u c t) _ t) _ t
  have hflagged (t : State) : (releaseFlagged t).quiet = t.quiet := by
    refine foldl_quiet _ (fun t i => ?_) _ t
    split
    next => exact quiet_releaseSlot i t
    next => rfl
  have hlink (i : Slot) (t : State) : (flushLink i t).quiet = t.quiet := by
    rw [flushLink, quiet_modQue, quiet_flushEgress]
  rw [restartQueues, flushTrap, quiet_trapQueue, foldl_quiet _ (fun t i => hlink i t), hclass _ quiet_flushClass,
    hclass _ (fun u c t => quiet_modClass t u c _), hflagged]

/-! ### Forwarding -/

@[simp] theorem quiet_trapFrame (p : Port) (rx : Reception) (s : State) : (trapFrame p rx s).quiet = s.quiet := by
  unfold trapFrame
  split
  next t h => rw [quiet_carrierTry, quiet_offerTrap h]
  next => rfl

@[simp] theorem quiet_upstream (i : Slot) (h : TrafficHeader) (rx : Reception) (s : State) :
    (upstream i h rx s).quiet = s.quiet := by
  have hforward (g : Segment) : (forwardUpstream i g h rx s).quiet = s.quiet := by
    unfold forwardUpstream
    split
    next => rfl
    next =>
      split
      next ht => exact quiet_offerClass ht
      next => rfl
  unfold upstream
  split
  next => rfl
  next =>
    split
    next => rfl
    next g _ =>
      split
      next => rfl
      next =>
        split
        next => rfl
        next =>
          split
          next => rfl
          next => exact quiet_trapFrame _ rx s
          next => exact hforward g

@[simp] theorem quiet_downstream (u : Uplink) (h : TrafficHeader) (rx : Reception) (s : State) :
    (downstream u h rx s).quiet = s.quiet := by
  have hcopy (i : Slot) (t : State) : (deliverCopy rx i t).quiet = t.quiet := by
    unfold deliverCopy
    split
    next ht => exact quiet_offerEgress ht
    next => rfl
  have hflood (g : Segment) : (flood u g rx s).quiet = s.quiet := by
    unfold flood
    split
    next => rfl
    next i rest _ => exact foldl_quiet _ (fun t j => hcopy j t) (i :: rest) s
  have hdeliver (g : Segment) : (deliver u g h rx s).quiet = s.quiet := by
    unfold deliver
    split
    next => exact hflood g
    next i _ =>
      split
      next => rfl
      next =>
        split
        next => rfl
        next => exact hcopy i s
  unfold downstream
  split
  next => rfl
  next g _ =>
    split
    next => rfl
    next =>
      split
      next => rfl
      next => exact quiet_trapFrame _ rx s
      next => exact hdeliver g

@[simp] theorem quiet_takeFlow (p : Port) (opcode quanta : Word16) (s : State) :
    (takeFlow p opcode quanta s).quiet = s.quiet := by
  unfold takeFlow
  split
  next =>
    split
    next => rfl
    next u => exact quiet_modUplink s u _
  next => rfl

/-! ### The end of an event -/

@[simp] theorem quiet_sendNotice (before after : State) : (sendNotice before after).quiet = after.quiet := by
  unfold sendNotice
  split
  next =>
    split
    next => rfl
    next =>
      split
      next => rfl
      next t h => exact (show _ = t.quiet from rfl).trans (quiet_offerClass h)
  next => rfl

@[simp] theorem quiet_respond (o : Origin) (status : Status) (results : List (List Octets)) (s : State) :
    (respond o status results s).quiet = s.quiet := by
  refine foldl_quiet _ (fun t body => ?_) _ s
  unfold offerResponse
  split
  next t h => exact quiet_offerClass h
  next => rfl

/-- The end of an event is its evaluation, as far as the Queue Manager is not concerned. -/
theorem quiet_close (before after : State) (cause : Bool) :
    (close before after cause).quiet = (evaluateIfDue before after cause).quiet := by
  rw [close, quiet_beginAll, quiet_sendNotice]

theorem quiet_finish (o : Origin) (before : State) (a : Answer) :
    (finish o before a).quiet = (evaluateIfDue before a.state a.cause).quiet := by
  rw [finish, quiet_beginAll, quiet_respond, quiet_sendNotice]

/-- What an invariant that does not look at the Queue Manager has to be shown for. -/
structure QuietInvariant (P : State → Prop) : Prop where
  quiet : ∀ {s t : State}, s.quiet = t.quiet → P s → P t
  pending : ∀ s l, P s → P { s with pending := l }
  reset : ∀ straps s, P (afterReset straps s)
  plain : ∀ s t, P s → PlainMove s t → P t
  own : ∀ s m cause, P s → OwnChange s m cause → P m
  command : ∀ s items m, P s → CommandChange s items m → P m
  evaluation : KeptByEvaluation P

theorem QuietInvariant.keptAtEnds {P : State → Prop} (K : QuietInvariant P) : KeptAtEnds P where
  pending := K.pending
  received p s hs := K.quiet (quiet_countReceived p s).symm hs
  reset := K.reset
  plain := K.plain
  closed s m cause hs hm :=
    K.quiet (quiet_close s m cause).symm (K.evaluation.evaluateIfDue s cause (K.own s m cause hs hm))
  command o items s hs :=
    K.quiet (quiet_finish o _ _).symm (K.evaluation.evaluateIfDue _ _
      (K.command _ items _ (K.quiet (quiet_setDestination o.source o.uplink s).symm hs) (runCode_change o.code items _)))

end Sys2Proof.Machine
end

section
/-! SUPPORT. The table orders, the alert set and the period timer through every step, and the links at work (O59). -/

namespace Sys2Proof.Machine

/-- The tables and the alert set in their orders, the period timer under PERIOD alone. -/
def TablesOrdered (s : State) : Prop := AlertsOrdered s ∧ SegmentsOrdered s ∧ AdmissionOrdered s ∧ PeriodArmed s.sweep

/-- The tables that `TablesOrdered` speaks of. -/
structure SameTables (s t : State) : Prop where
  alerts : t.mgmt.alerts = s.mgmt.alerts
  segments : t.fwd.segments = s.fwd.segments
  admission : t.admissionTable = s.admissionTable
  sweep : t.sweep = s.sweep

theorem TablesOrdered.same {s t : State} (hs : TablesOrdered s) (h : SameTables s t) : TablesOrdered t := by
  unfold TablesOrdered AlertsOrdered SegmentsOrdered AdmissionOrdered at hs ⊢
  rwa [h.alerts, h.segments, h.admission, h.sweep]

theorem TablesOrdered.quiet {s t : State} (h : s.quiet = t.quiet) (hs : TablesOrdered s) : TablesOrdered t :=
  hs.same
    { alerts := (congrArg (fun x : State => x.mgmt.alerts) h).symm
      segments := (congrArg (fun x : State => x.fwd.segments) h).symm
      admission := (congrArg State.admissionTable h).symm
      sweep := (congrArg State.sweep h).symm }

/-! ### The alert set (R168) -/

theorem code_injective {k l : AlertKind} (h : k.code = l.code) : k = l := by
  cases k <;> cases l <;> first | rfl | exact absurd h (by decide)

/-- An index in its kind's range is at most 16. -/
theorem admitsIndex_le {k : AlertKind} {n : Nat} (h : k.admitsIndex n = true) : n ≤ 16 := by
  cases k <;> simp [AlertKind.admitsIndex] at h <;> omega

/-- Two alerts with indexes in their ranges have the same place in the order only where they are one. -/
theorem rank_injective {a b : Alert} (ha : a.kind.admitsIndex a.index = true) (hb : b.kind.admitsIndex b.index = true)
    (h : a.rank = b.rank) : a = b := by
  have h1 := admitsIndex_le ha
  have h2 := admitsIndex_le hb
  have hk : a.kind = b.kind := code_injective (by simp only [Alert.rank] at h; omega)
  have hi : a.index = b.index := by simp only [Alert.rank, hk] at h; omega
  cases a; cases b; simp_all

theorem insertAlert_pairwise (a : Alert) (l : List Alert) (hl : l.Pairwise fun x y => x.rank < y.rank)
    (hne : ∀ x ∈ l, x.rank ≠ a.rank) : (insertAlert a l).Pairwise fun x y => x.rank < y.rank := by
  induction l with
  | nil => exact List.pairwise_singleton _ a
  | cons b l ih =>
    obtain ⟨hb, hl⟩ := List.pairwise_cons.mp hl
    unfold insertAlert
    split
    next h =>
      refine List.pairwise_cons.mpr ⟨fun x hx => ?_, List.pairwise_cons.mpr ⟨hb, hl⟩⟩
      obtain rfl | hx := List.mem_cons.mp hx
      · exact h
      · exact h.trans (hb x hx)
    next h =>
      refine List.pairwise_cons.mpr ⟨fun x hx => ?_, ih hl fun x hx => hne x (List.mem_cons_of_mem _ hx)⟩
      obtain rfl | hx := (mem_insertAlert a x l).mp hx
      · have h1 := hne b List.mem_cons_self
        omega
      · exact hb x hx

theorem TablesOrdered.raise {s : State} (hs : TablesOrdered s) (a : Alert) (ha : a.kind.admitsIndex a.index = true) :
    TablesOrdered (raise a s) := by
  obtain ⟨⟨hp, hi⟩, hseg, hadm, hper⟩ := hs
  unfold Machine.raise
  split
  next => exact ⟨⟨hp, hi⟩, hseg, hadm, hper⟩
  next hn =>
    refine ⟨⟨insertAlert_pairwise a _ hp fun x hx h => hn ?_, fun x hx => ?_⟩, hseg, hadm, hper⟩
    · exact rank_injective (hi x hx) ha h ▸ hx
    · obtain rfl | hx := (mem_insertAlert a x _).mp hx
      · exact ha
      · exact hi x hx

/-- The kinds whose index is a slot number (R163). -/
theorem TablesOrdered.raiseSlot {s : State} (hs : TablesOrdered s) (k : AlertKind) (i : Slot)
    (hk : ∀ i : Slot, k.admitsIndex (i.val + 1) = true) : TablesOrdered (raiseSlot k i s) := hs.raise _ (hk i)

theorem TablesOrdered.raiseChassis {s : State} (hs : TablesOrdered s) (k : AlertKind) (hk : k.admitsIndex 0 = true) :
    TablesOrdered (raiseChassis k s) := hs.raise _ hk

theorem localLimit_admits (c : Channel) : AlertKind.localLimit.admitsIndex c.val = true := by revert c; decide

theorem stall_admits (f : Fan) : AlertKind.stall.admitsIndex (f.val + 1) = true := by revert f; decide

/-! ### The shared operations of the blocks -/

theorem TablesOrdered.modSlot {s : State} (hs : TablesOrdered s) (i : Slot) (f : SlotRecord → SlotRecord) :
    TablesOrdered (s.modSlot i f) := hs.same ⟨rfl, rfl, rfl, rfl⟩

theorem TablesOrdered.moveTo {s : State} (hs : TablesOrdered s) (i : Slot) (st : SlotState) :
    TablesOrdered (moveTo i st s) := by
  obtain ⟨q, h⟩ := moveTo_frame i st s
  exact h ▸ hs.same ⟨rfl, rfl, rfl, rfl⟩

theorem TablesOrdered.evaluateOverride {s : State} (hs : TablesOrdered s) : TablesOrdered (evaluateOverride s) := by
  have hsettle (t : State) (ht : TablesOrdered t) : TablesOrdered (settleAll t) := by
    obtain ⟨fs, h⟩ := settleAll_frame t
    exact h ▸ ht.same ⟨rfl, rfl, rfl, rfl⟩
  unfold Machine.evaluateOverride
  split
  next =>
    split
    next => exact hsettle _ (hs.same ⟨rfl, rfl, rfl, rfl⟩)
    next => exact hs
  next =>
    split
    next =>
      refine hsettle _ (.raiseChassis ?_ .override rfl)
      exact hs.same ⟨rfl, rfl, rfl, rfl⟩
    next => exact hs

theorem TablesOrdered.propagate (before : State) {after : State} (hs : TablesOrdered after) :
    TablesOrdered (propagate before after) := by
  unfold Machine.propagate
  split
  next => exact hs
  next =>
    have h1 : TablesOrdered (allFans.foldl (fun s f =>
        if allZones.any (fun z => zoneChanged before after z && follows s.fans[f] z) then retarget f s else s) after) := by
      obtain ⟨fs, h⟩ := foldl_fans allFans (fun s f =>
        if allZones.any (fun z => zoneChanged before after z && follows s.fans[f] z) then retarget f s else s)
        (fun t f => by
          split
          next => exact retarget_frame f t
          next => exact ⟨t.fans, rfl⟩) after
      exact h ▸ hs.same ⟨rfl, rfl, rfl, rfl⟩
    dsimp only
    split
    next => exact h1.evaluateOverride.same ⟨rfl, rfl, rfl, rfl⟩
    next => exact h1.same ⟨rfl, rfl, rfl, rfl⟩

theorem TablesOrdered.rezone {s : State} (hs : TablesOrdered s) (zs : List Zone) : TablesOrdered (rezone zs s) := by
  obtain ⟨z, h⟩ := retemp_frame zs s
  refine TablesOrdered.propagate s (h ▸ hs.same ⟨rfl, rfl, rfl, rfl⟩)

theorem TablesOrdered.rezoneSlot {s : State} (hs : TablesOrdered s) (i : Slot) : TablesOrdered (rezoneSlot i s) :=
  hs.rezone _

theorem TablesOrdered.freeLane {s : State} (hs : TablesOrdered s) (i : Slot) : TablesOrdered (freeLane i s) := by
  obtain ⟨n, h⟩ := freeLane_frame i s
  exact h ▸ hs.same ⟨rfl, rfl, rfl, rfl⟩

theorem TablesOrdered.mainOff {s : State} (hs : TablesOrdered s) (i : Slot) (st : SlotState) :
    TablesOrdered (mainOff i st s) := (((hs.freeLane i).modSlot i _).moveTo i st).rezoneSlot i

theorem TablesOrdered.setPriority {s : State} (hs : TablesOrdered s) (i : Slot) (p : Fin 4) :
    TablesOrdered (setPriority i p s) := by
  unfold Machine.setPriority
  split
  next => exact hs
  next =>
    dsimp only
    split
    next => exact hs.modSlot i _
    next => exact hs.same ⟨rfl, rfl, rfl, rfl⟩

theorem TablesOrdered.refreshStations {s : State} (hs : TablesOrdered s) (i : Slot) (l : List Station) :
    TablesOrdered (refreshStations i l s) := by
  unfold Machine.refreshStations
  dsimp only
  split
  next =>
    refine .raiseSlot ?_ .addrConflict i (by decide)
    exact hs.same ⟨rfl, rfl, rfl, rfl⟩
  next => exact hs.same ⟨rfl, rfl, rfl, rfl⟩

/-! ### The period timer (R96 to R100) -/

theorem TablesOrdered.sweep {s : State} (hs : TablesOrdered s) {w : Sweep} (hw : PeriodArmed w) :
    TablesOrdered { s with sweep := w } := ⟨hs.1, hs.2.1, hs.2.2.1, hw⟩

/-- Arming leaves the timer running only under PERIOD (R98). -/
theorem armedTimer_isRunning {c : SweepSettings} (h : (armedTimer c).isRunning = true) : c.select = .period := by
  unfold armedTimer at h
  split at h
  next hp => exact hp
  all_goals cases h

theorem PeriodArmed.triggerSweep {w : Sweep} (hw : PeriodArmed w) : PeriodArmed (triggerSweep w) := by
  unfold Machine.triggerSweep
  split
  next =>
    split
    next => exact hw
    next => exact armedTimer_isRunning
  all_goals exact hw

theorem PeriodArmed.periodExpiry (w : Sweep) : PeriodArmed (periodExpiry w) := by
  unfold Machine.periodExpiry
  split
  case h_3 hp =>
    have hw : PeriodArmed (Machine.triggerSweep { w with periodTimer := .stopped }) :=
      PeriodArmed.triggerSweep (fun h => by cases h)
    dsimp only
    split
    next => exact hw
    next hn =>
      split
      next =>
        -- a trigger that makes no staged settings current leaves the select
        intro _
        show (Machine.triggerSweep { w with periodTimer := .stopped }).current.select = .period
        unfold Machine.triggerSweep
        split
        next hi =>
          split
          next => exact hp
          next c hc => exact absurd ⟨hi, by rw [show w.staged = some c from hc]; rfl⟩ hn
        all_goals exact hp
      next => exact hw
  all_goals exact fun h => by cases h

theorem PeriodArmed.storeSweep {w : Sweep} (hw : PeriodArmed w) (c : SweepSettings) : PeriodArmed (storeSweep c w) := by
  unfold Machine.storeSweep
  split
  next => exact armedTimer_isRunning
  all_goals exact hw

theorem TablesOrdered.changeTrigger {s : State} (hs : TablesOrdered s) : TablesOrdered (changeTrigger s) := by
  unfold Machine.changeTrigger
  split
  next => exact hs.sweep hs.2.2.2.triggerSweep
  all_goals exact hs

/-! ### The own changes of the events -/

theorem TablesOrdered.recomputeCapacity {s : State} (hs : TablesOrdered s) : TablesOrdered (recomputeCapacity s) := by
  unfold Machine.recomputeCapacity
  dsimp only
  split
  next => exact hs.same ⟨rfl, rfl, rfl, rfl⟩
  next =>
    refine .raiseChassis ?_ .supplyChange rfl
    exact hs.same ⟨rfl, rfl, rfl, rfl⟩

theorem TablesOrdered.presenceExpiry {s : State} (hs : TablesOrdered s) (i : Slot) :
    TablesOrdered (presenceExpiry i s).state := by
  have h1 := hs.modSlot i fun r => { r with adm := { r.adm with window := .stopped, filtered := r.adm.presenceLine } }
  have hins (t : State) (ht : TablesOrdered t) : TablesOrdered (insertion i t) :=
    ((ht.moveTo i .standbyWait).modSlot i _).raiseSlot .insert i (by decide)
  have hrem (t : State) (ht : TablesOrdered t) : TablesOrdered (removal i t) := by
    refine .raiseSlot (.rezoneSlot (.moveTo ?_ i .empty) i) .remove i (by decide)
    refine TablesOrdered.quiet (quiet_flushSlot i _).symm ?_
    exact (ht.freeLane i).same ⟨rfl, rfl, rfl, rfl⟩
  unfold Machine.presenceExpiry
  dsimp only
  split
  next => exact h1
  next =>
    split
    next =>
      split
      next => exact (hins _ h1).changeTrigger
      next => exact h1.changeTrigger
    next =>
      split
      next => exact h1.changeTrigger
      next => exact (hrem _ h1).changeTrigger

theorem TablesOrdered.evaluateAnnounce {s : State} (hs : TablesOrdered s) (i : Slot) (b : AnnounceBody) :
    TablesOrdered (evaluateAnnounce i b s).state := by
  have hprio (g : AdmissionRule) (t : State) (ht : TablesOrdered t) : TablesOrdered (applyPriority g i t) := by
    unfold applyPriority
    split
    next p _ => exact ht.setPriority i p
    next => exact ht
  have haction (g : AdmissionRule) (t : State) (ht : TablesOrdered t) : TablesOrdered (applyAction g i t) := by
    unfold applyAction
    split
    next => exact (ht.moveTo i .denied).raiseSlot .attention i (by decide)
    next =>
      split
      next => exact ht
      next => exact ht.moveTo i _
  exact ((((haction _ _ (hprio _ _ (hs.modSlot i _))).modSlot i _).refreshStations i _).modSlot i _)

theorem TablesOrdered.takeAnnounce {s : State} (hs : TablesOrdered s) (i : Slot) (b : AnnounceBody) :
    TablesOrdered (takeAnnounce i b s).state := by
  unfold Machine.takeAnnounce
  split
  next => exact hs.same ⟨rfl, rfl, rfl, rfl⟩
  next =>
    split
    next => exact hs.same ⟨rfl, rfl, rfl, rfl⟩
    next =>
      split
      next => exact hs.evaluateAnnounce i b
      next => exact (hs.modSlot i _).refreshStations i _

theorem TablesOrdered.completeConversion {s : State} (hs : TablesOrdered s) (c : Channel) (code : Byte) :
    TablesOrdered (completeConversion c code s).state := by
  have hlimits (v : Int) (t : State) (ht : TablesOrdered t) : TablesOrdered (checkLimits c v t) := by
    unfold checkLimits
    split
    next => exact ht.raise _ (localLimit_admits c)
    next => exact ht
  have hbrown (v : Int) (t : State) (ht : TablesOrdered t) : TablesOrdered (handBrownout c v t) := by
    unfold handBrownout applyBrownout
    dsimp only
    split
    next =>
      split
      next =>
        refine .raiseChassis ?_ .brownout rfl
        exact ht.same ⟨rfl, rfl, rfl, rfl⟩
      next => exact ht.same ⟨rfl, rfl, rfl, rfl⟩
    next => exact ht
  have hzone (t : State) (ht : TablesOrdered t) : TablesOrdered (rezoneChannel c t) := by
    unfold rezoneChannel
    split
    next => exact ht
    next => exact ht.rezone _
  unfold Machine.completeConversion
  dsimp only
  refine TablesOrdered.sweep (hzone _ ?_) (hzone _ ?_).2.2.2
  all_goals
    split
    next => exact hs
    next v _ => exact hbrown v _ (hlimits v _ (hs.same ⟨rfl, rfl, rfl, rfl⟩))

theorem TablesOrdered.gateExpiry {s : State} (hs : TablesOrdered s) : TablesOrdered (gateExpiry s) := by
  have hfan (f : Fan) (t : State) (ht : TablesOrdered t) : TablesOrdered (gateFan f t) := by
    unfold gateFan checkStall
    split
    next =>
      refine .raise ?_ _ (stall_admits f)
      exact ht.same ⟨rfl, rfl, rfl, rfl⟩
    next => exact ht.same ⟨rfl, rfl, rfl, rfl⟩
  have hfold (l : List Fan) (t : State) (ht : TablesOrdered t) : TablesOrdered (l.foldl (fun s f => gateFan f s) t) := by
    induction l generalizing t with
    | nil => exact ht
    | cons f l ih => exact ih _ (hfan f t ht)
  have h1 := hfold allFans s hs
  unfold Machine.gateExpiry
  generalize allFans.foldl (fun s f => gateFan f s) s = t at h1 ⊢
  exact h1.same ⟨rfl, rfl, rfl, rfl⟩

theorem TablesOrdered.ownChange {s m : State} {cause : Bool} (hs : TablesOrdered s) (h : OwnChange s m cause) :
    TablesOrdered m := by
  cases h with
  | presence i _ => exact hs.presenceExpiry i
  | announceWindow i _ =>
    unfold announceExpiry
    dsimp only
    split
    next => exact ((hs.modSlot i _).moveTo i .unidentified).raiseSlot .attention i (by decide)
    next => exact hs.modSlot i _
  | uplinkComplete u f _ => exact hs.quiet (quiet_uplinkComplete u f s).symm
  | slotComplete i f _ => exact hs.quiet (quiet_slotComplete i f s).symm
  | holdEnd u => exact hs.quiet (quiet_modUplink s u _).symm
  | pauseRefresh i => exact hs.modSlot i _
  | linkFall u => exact hs.quiet (quiet_linkFall u s).symm
  | linkRise u => exact hs.quiet (quiet_modUplink s u _).symm
  | bay b line =>
    have h1 := hs.same (t := s.modBay b (takeBayLine line)) ⟨rfl, rfl, rfl, rfl⟩
    unfold bayExpiry
    dsimp only
    split
    next => exact h1
    next => exact h1.recomputeCapacity.changeTrigger
  | capAck i =>
    unfold capAckExpiry
    split
    next => exact (hs.mainOff i .powerWait).raiseSlot .capTimeout i (by decide)
    next => exact hs.modSlot i _
  | powerGood i _ =>
    have h1 := hs.modSlot i fun r =>
      { r with rail := { r.rail with powerGood := r.rail.powerGoodLine, powerGoodWindow := .stopped } }
    unfold powerGoodExpiry
    dsimp only
    split
    next => exact h1
    next =>
      split
      next =>
        dsimp only
        split
        next => exact h1.modSlot i _
        next => exact h1
      next =>
        split
        next => exact (h1.mainOff i .fault).raiseSlot .fault i (by decide)
        next => exact h1
  | powerGoodTimer i =>
    unfold powerGoodTimeout
    split
    next => exact (hs.mainOff i .fault).raiseSlot .fault i (by decide)
    next => exact hs.modSlot i _
  | resetHold i =>
    unfold resetHoldEnd
    split
    next => exact ((hs.freeLane i).moveTo i .online).modSlot i _
    next => exact hs.modSlot i _
  | shutdown i =>
    unfold shutdownExpiry
    split
    next => exact (hs.mainOff i .standby).raiseSlot .shutdownTimeout i (by decide)
    next => exact hs.modSlot i _
  | stale i => exact (hs.modSlot i _).rezoneSlot i
  | conversion c code _ => exact hs.completeConversion c code
  | ramp f _ => exact hs.same ⟨rfl, rfl, rfl, rfl⟩
  | spinUp f _ => exact hs.same ⟨rfl, rfl, rfl, rfl⟩
  | tachGate => exact hs.gateExpiry
  | flow p opcode quanta => exact hs.quiet (quiet_takeFlow p opcode quanta s).symm
  | malformed p => exact hs.same ⟨rfl, rfl, rfl, rfl⟩
  | announce i b => exact hs.takeAnnounce i b
  | telemetry i l =>
    unfold takeTelemetry
    split
    next => exact hs.same ⟨rfl, rfl, rfl, rfl⟩
    next => exact (hs.modSlot i _).rezoneSlot i
  | ackCap i sequence =>
    unfold takeCapAck
    split
    next => exact hs.modSlot i _
    next => exact hs
  | ackShutdown i =>
    unfold takeShutdownAck
    split
    next => exact hs.mainOff i .standby
    next => exact hs
  | upstream i h rx => exact hs.quiet (quiet_upstream i h rx s).symm
  | downstream u h rx => exact hs.quiet (quiet_downstream u h rx s).symm

theorem TablesOrdered.plainMove {s t : State} (hs : TablesOrdered s) (h : PlainMove s t) : TablesOrdered t := by
  cases h with
  | none => exact hs
  | presenceLine i level _ => exact hs.modSlot i _
  | bayLine b line level => exact hs.same ⟨rfl, rfl, rfl, rfl⟩
  | powerGoodLine i level _ => exact hs.modSlot i _
  | period _ => exact hs.sweep (PeriodArmed.periodExpiry s.sweep)
  | startDelay _ => exact hs.sweep hs.2.2.2
  | pulse f => exact hs.same ⟨rfl, rfl, rfl, rfl⟩
  | tooLong p => exact hs.same ⟨rfl, rfl, rfl, rfl⟩

/-! ### The actions of an evaluation -/

theorem tablesOrdered_evaluation : KeptByEvaluation TablesOrdered where
  cap i s hs _ := by
    unfold capSlot
    dsimp only
    refine .raiseChassis ?_ .shed rfl
    split
    next => exact ((hs.modSlot i _).modSlot i _).moveTo i .capped
    next => exact (hs.modSlot i _).modSlot i _
  powerOff i s hs _ := (hs.mainOff i .powerWait).raiseChassis .shed rfl
  standbyCut i s hs _ := by
    refine .raiseChassis (.moveTo ?_ i .standbyWait) .shed rfl
    refine TablesOrdered.quiet (quiet_flushSlot i _).symm ?_
    exact hs.same ⟨rfl, rfl, rfl, rfl⟩
  uncap i s hs _ := by
    unfold uncapSlot
    dsimp only
    split
    next => exact ((hs.modSlot i _).modSlot i _).moveTo i .online
    next => exact (hs.modSlot i _).modSlot i _
  grantStandby e _ s hs _ _ _ := (hs.moveTo e.slot .announceWait).modSlot e.slot _
  grantMain e _ s hs _ _ _ := by
    refine .rezoneSlot ?_ e.slot
    exact (hs.moveTo e.slot .powering).same ⟨rfl, rfl, rfl, rfl⟩
  short s hs := by
    unfold markShort
    split
    next => exact hs
    next =>
      split
      next =>
        refine .raiseChassis ?_ .budgetShort rfl
        exact hs.same ⟨rfl, rfl, rfl, rfl⟩
      next => exact hs

end Sys2Proof.Machine
end

section
/-! SUPPORT. Tables kept by key, and what the commands leave of the orders (R9, R142). -/

namespace Sys2Proof.Machine

/-! ### Tables in ascending order of a key (R9, R142) -/

section
variable {α : Type} (key : α → Nat) (e : α)

/-- A placed entry stands with every entry of another key. -/
theorem mem_placeByKey (l : List α) (hl : l.Pairwise fun a b => key a < key b) (x : α) :
    x ∈ placeByKey key e l ↔ x = e ∨ (x ∈ l ∧ key x ≠ key e) := by
  induction l with
  | nil => simp [placeByKey]
  | cons y l ih =>
    obtain ⟨hy, hl⟩ := List.pairwise_cons.mp hl
    unfold placeByKey
    split
    next h =>
      have hne : ∀ z ∈ y :: l, key z ≠ key e := by
        intro z hz
        obtain rfl | hz := List.mem_cons.mp hz
        · omega
        · have := hy z hz; omega
      rw [List.mem_cons]
      exact or_congr_right ⟨fun hx => ⟨hx, hne x hx⟩, And.left⟩
    next h1 =>
      split
      next h2 =>
        have hne : ∀ z ∈ l, key z ≠ key e := by
          intro z hz
          have := hy z hz
          omega
        rw [List.mem_cons, List.mem_cons]
        refine or_congr_right ⟨fun hx => ⟨.inr hx, hne x hx⟩, ?_⟩
        rintro ⟨rfl | hx, hk⟩
        · exact absurd h2.symm hk
        · exact hx
      next h2 =>
        rw [List.mem_cons, List.mem_cons, ih hl]
        constructor
        · rintro (rfl | rfl | ⟨hx, hk⟩)
          · exact .inr ⟨.inl rfl, fun h => h2 h.symm⟩
          · exact .inl rfl
          · exact .inr ⟨.inr hx, hk⟩
        · rintro (rfl | ⟨rfl | hx, hk⟩)
          · exact .inr (.inl rfl)
          · exact .inl rfl
          · exact .inr (.inr ⟨hx, hk⟩)

theorem placeByKey_pairwise (l : List α) (hl : l.Pairwise fun a b => key a < key b) :
    (placeByKey key e l).Pairwise fun a b => key a < key b := by
  induction l with
  | nil => exact List.pairwise_singleton _ e
  | cons y l ih =>
    obtain ⟨hy, hl'⟩ := List.pairwise_cons.mp hl
    unfold placeByKey
    split
    next h =>
      refine List.pairwise_cons.mpr ⟨fun z hz => ?_, hl⟩
      obtain rfl | hz := List.mem_cons.mp hz
      · exact h
      · exact h.trans (hy z hz)
    next h1 =>
      split
      next h2 => exact List.pairwise_cons.mpr ⟨fun z hz => h2 ▸ hy z hz, hl'⟩
      next h2 =>
        refine List.pairwise_cons.mpr ⟨fun z hz => ?_, ih hl'⟩
        obtain rfl | ⟨hz, -⟩ := (mem_placeByKey key e l hl' z).mp hz
        · omega
        · exact hy z hz

/-- A table that takes an entry keeps within its room. -/
theorem placeByKey_length (l : List α) (hl : l.Pairwise fun a b => key a < key b) (room : Nat)
    (ht : tableTakes key room e l = true) (hr : l.length ≤ room) : (placeByKey key e l).length ≤ room := by
  have hlen (l : List α) : (placeByKey key e l).length ≤ l.length + 1 := by
    induction l with
    | nil => simp [placeByKey]
    | cons y l ih =>
      unfold placeByKey
      split
      next => simp
      next =>
        split
        next => simp
        next => simpa using ih
  have hkey : (∃ x ∈ l, key x = key e) → (placeByKey key e l).length ≤ l.length := by
    intro hx
    clear ht hr
    induction l with
    | nil => obtain ⟨x, hx, -⟩ := hx; cases hx
    | cons y l ih =>
      obtain ⟨hy, hl⟩ := List.pairwise_cons.mp hl
      obtain ⟨x, hx, hk⟩ := hx
      unfold placeByKey
      split
      next h =>
        obtain rfl | hx := List.mem_cons.mp hx
        · omega
        · have := hy x hx; omega
      next =>
        split
        next => simp
        next hne =>
          obtain rfl | hx := List.mem_cons.mp hx
          · exact absurd hk.symm hne
          · simpa using ih hl ⟨x, hx, hk⟩
  simp only [tableTakes, Bool.or_eq_true, List.any_eq_true, decide_eq_true_eq] at ht
  obtain hx | hlt := ht
  · exact (hkey hx).trans hr
  · exact (hlen l).trans hlt

end

/-- A tag ID that SET_SEGMENT takes lies in its range (R142). -/
theorem segmentArgs_range {items : List Item} {g : Segment} (h : segmentArgs items = some g) :
    1 ≤ g.tagId ∧ g.tagId ≤ 4094 := by
  unfold segmentArgs at h
  split at h
  next =>
    simp only [Option.bind_eq_bind, Option.bind_eq_some_iff, Option.some.injEq] at h
    obtain ⟨id, ⟨v, -, hid⟩, _, -, _, -, _, -, _, -, rfl⟩ := h
    unfold tagIdCode at hid
    split at hid
    next hv => cases hid; exact hv
    next => cases hid
  next => cases h

/-! ### The commands -/

theorem TablesOrdered.setSlot {s : State} (hs : TablesOrdered s) (i : Slot) (x : SlotSettings) :
    TablesOrdered (setSlot i x s).state := by
  have h1 : TablesOrdered (storePriority i x.priority (s.modAdm i (storeSlot x))) := by
    unfold storePriority
    split
    next p _ => exact (hs.modSlot i _).setPriority i p
    next => exact hs.modSlot i _
  unfold Machine.setSlot answerOk
  dsimp only
  split
  next => exact h1
  next => exact h1.rezone _

theorem TablesOrdered.setSupply {s : State} (hs : TablesOrdered s) (x : SupplySettings) :
    TablesOrdered (setSupply x s).state := by
  have hfold (l : List (Bay × Nat)) (t : State) (ht : TablesOrdered t) :
      TablesOrdered (l.foldl (fun s r => s.modBay r.1 fun b => { b with rating := r.2 }) t) := by
    induction l generalizing t with
    | nil => exact ht
    | cons r l ih => exact ih _ (ht.same ⟨rfl, rfl, rfl, rfl⟩)
  have h1 : TablesOrdered (storeSupply x s) := (hfold x.ratings s hs).same ⟨rfl, rfl, rfl, rfl⟩
  unfold Machine.setSupply
  split
  next => exact hs
  next =>
    unfold answerOk
    dsimp only
    split
    next => exact h1.recomputeCapacity
    next => exact h1

theorem TablesOrdered.setZone {s : State} (hs : TablesOrdered s) (x : ZoneSettings) :
    TablesOrdered (setZone x s).state := by
  have h1 : TablesOrdered (storeZoneForm x s) := by
    unfold storeZoneForm
    split
    next => exact hs
    next z _ =>
      dsimp only
      split
      next => exact hs.same ⟨rfl, rfl, rfl, rfl⟩
      next => exact hs.same ⟨rfl, rfl, rfl, rfl⟩
  exact .propagate s (h1.same ⟨rfl, rfl, rfl, rfl⟩)

theorem TablesOrdered.setFan {s : State} (hs : TablesOrdered s) (f : Fan) (x : FanSettings) :
    TablesOrdered (setFan f x s).state := by
  unfold Machine.setFan answerOk
  dsimp only
  split
  next => exact hs
  next => exact hs.same ⟨rfl, rfl, rfl, rfl⟩

theorem TablesOrdered.setFanDuty {s : State} (hs : TablesOrdered s) (f : Fan) (d : Nat) :
    TablesOrdered (setFanDuty f d s).state := by
  unfold Machine.setFanDuty answerOk
  dsimp only
  split
  next =>
    obtain ⟨fs, h⟩ := retarget_frame f (s.modFan f fun r => { r with manual := d })
    rw [h]
    exact hs.same ⟨rfl, rfl, rfl, rfl⟩
  next => exact hs.same ⟨rfl, rfl, rfl, rfl⟩

theorem TablesOrdered.setChannel {s : State} (hs : TablesOrdered s) (c : Channel) (x : ChannelSettings) :
    TablesOrdered (setChannel c x s).state := by
  have h1 : TablesOrdered (s.modChannel c (storeChannel x)) := hs.same ⟨rfl, rfl, rfl, rfl⟩
  unfold Machine.setChannel answerOk
  dsimp only
  split
  next => exact h1
  next => exact h1.rezone _

theorem TablesOrdered.loadSegment {s : State} (hs : TablesOrdered s) {g : Segment} (hg : 1 ≤ g.tagId ∧ g.tagId ≤ 4094) :
    TablesOrdered (loadSegment g s).state := by
  unfold Machine.loadSegment
  split
  next ht =>
    obtain ⟨ha, ⟨hp, hl, hr⟩, hrest⟩ := hs
    refine ⟨ha, ⟨placeByKey_pairwise _ g _ hp, placeByKey_length _ g _ hp 32 ht hl, fun x hx => ?_⟩, hrest⟩
    obtain rfl | ⟨hx, -⟩ := (mem_placeByKey _ g _ hp x).mp hx
    · exact hg
    · exact hr x hx
  next => exact hs

theorem TablesOrdered.deleteSegment {s : State} (hs : TablesOrdered s) (id : Nat) :
    TablesOrdered (deleteSegment id s).state := by
  unfold Machine.deleteSegment
  split
  next =>
    obtain ⟨ha, ⟨hp, hl, hr⟩, hrest⟩ := hs
    exact ⟨ha, ⟨hp.filter _, (List.length_filter_le _ _).trans hl, fun x hx => hr x (List.mem_of_mem_filter hx)⟩, hrest⟩
  next => exact hs

theorem TablesOrdered.loadAdmission {s : State} (hs : TablesOrdered s) (k : Option Word16) (g : AdmissionRule) :
    TablesOrdered (loadAdmission k g s).state := by
  unfold Machine.loadAdmission
  split
  next => exact hs.same ⟨rfl, rfl, rfl, rfl⟩
  next t =>
    dsimp only
    split
    next ht =>
      obtain ⟨ha, hseg, ⟨hp, hl⟩, hper⟩ := hs
      exact ⟨ha, hseg, ⟨placeByKey_pairwise _ _ _ hp, placeByKey_length _ _ _ hp 16 ht hl⟩, hper⟩
    next => exact hs

theorem TablesOrdered.deleteAdmission {s : State} (hs : TablesOrdered s) (k : Option Word16) :
    TablesOrdered (deleteAdmission k s).state := by
  unfold Machine.deleteAdmission
  split
  next => exact hs.same ⟨rfl, rfl, rfl, rfl⟩
  next t =>
    split
    next =>
      obtain ⟨ha, hseg, ⟨hp, hl⟩, hper⟩ := hs
      exact ⟨ha, hseg, ⟨hp.filter _, (List.length_filter_le _ _).trans hl⟩, hper⟩
    next => exact hs

theorem TablesOrdered.slotPower {s : State} (hs : TablesOrdered s) (i : Slot) (form : ShutdownForm) :
    TablesOrdered (slotPowerOn i s).state ∧ TablesOrdered (slotPowerOff i form s).state ∧
      TablesOrdered (slotKill i s).state := by
  refine ⟨?_, ?_, ?_⟩
  · unfold slotPowerOn
    split
    next => exact hs.moveTo i .powerWait
    all_goals exact hs
  · have hdown : TablesOrdered (beginShutdown i form s) := ((hs.modSlot i _).modSlot i _).moveTo i .shuttingDown
    unfold slotPowerOff
    split
    case h_1 => exact hdown
    case h_2 => exact hdown
    case h_5 => exact hs.mainOff i .standby
    case h_6 => exact hs.moveTo i .standby
    all_goals exact hs
  · unfold slotKill
    split
    case h_1 => exact hs.mainOff i .standby
    case h_2 => exact hs.mainOff i .standby
    case h_3 => exact hs.mainOff i .standby
    case h_4 => exact hs.mainOff i .standby
    all_goals exact hs

theorem TablesOrdered.admitRelease {s : State} (hs : TablesOrdered s) (i : Slot) (pair : PowerPair) :
    TablesOrdered (slotAdmit i pair s).state ∧ TablesOrdered (slotRelease i s).state := by
  refine ⟨?_, ?_⟩
  · unfold slotAdmit
    split
    next => exact ((hs.modSlot i _).moveTo i _).modSlot i _
    next => exact hs
  · unfold slotRelease
    split
    next => exact hs.moveTo i _
    next => exact (hs.moveTo i .announceWait).modSlot i _
    all_goals exact hs

theorem TablesOrdered.withAlerts {s : State} (hs : TablesOrdered s) {l : List Alert} (h : l.Sublist s.mgmt.alerts) :
    TablesOrdered (withAlerts l s) := by
  obtain ⟨⟨hp, hi⟩, hrest⟩ := hs
  exact ⟨⟨hp.sublist h, fun a ha => hi a (h.subset ha)⟩, hrest⟩

theorem TablesOrdered.clearAlerts {s : State} (hs : TablesOrdered s) (l : Option (List Alert)) :
    TablesOrdered (clearAlerts l s).state := by
  cases l with
  | none => exact hs.withAlerts (List.nil_sublist _)
  | some l => exact hs.withAlerts List.filter_sublist

/-- The queue limits are of the Queue Manager alone (R160). -/
theorem quiet_setQueueLimits (a : QueueArgs) (s : State) : (setQueueLimits a s).state.quiet = s.quiet := by
  unfold setQueueLimits
  split
  next u c limit high low =>
    unfold setClassQueue
    dsimp only
    split
    next => exact quiet_modClass s u c _
    next => rfl
  next i limit => exact quiet_modQue s i _

theorem TablesOrdered.setUplink {s : State} (hs : TablesOrdered s) (a : UplinkArgs) :
    TablesOrdered (setUplink a s).state := by
  unfold Machine.setUplink
  split
  next u management segment =>
    unfold setUplinkForm
    split
    next => exact hs
    next => exact hs.quiet (quiet_modUplink s u _).symm
  next =>
    unfold setChassisForm
    dsimp only
    split
    next => exact hs
    next => exact hs.same ⟨rfl, rfl, rfl, rfl⟩

theorem quiet_injectFrame (i : Slot) (o : Octets) (s : State) : (injectFrame i o s).state.quiet = s.quiet := by
  unfold injectFrame
  split
  next =>
    split
    next t h => exact quiet_offerEgress h
    next => rfl
  next => rfl

theorem TablesOrdered.zeroCounters {s : State} (hs : TablesOrdered s) : TablesOrdered (zeroCounters s) := hs

theorem TablesOrdered.restart {s : State} (hs : TablesOrdered s) : TablesOrdered (restart s).state := by
  have h1 := hs.quiet (quiet_restartQueues s).symm
  unfold Machine.restart answerOk
  generalize restartQueues s = t at h1 ⊢
  have h2 := h1.zeroCounters.withAlerts (List.nil_sublist _)
  exact h2.sweep h2.2.2.2

theorem TablesOrdered.command {s m : State} {items : List Item} (hs : TablesOrdered s) (h : CommandChange s items m) :
    TablesOrdered m := by
  cases h with
  | none => exact hs
  | setSlot i x _ => exact hs.setSlot i x
  | setSupply x _ => exact hs.setSupply x
  | setTiming x _ =>
    unfold setTiming
    split
    next => exact hs
    next => exact hs.same ⟨rfl, rfl, rfl, rfl⟩
  | setZone x _ => exact hs.setZone x
  | setFan f x _ => exact hs.setFan f x
  | setFanCurve f c _ => exact hs.same ⟨rfl, rfl, rfl, rfl⟩
  | setFanDuty f d _ => exact hs.setFanDuty f d
  | setChannel c x _ => exact hs.setChannel c x
  | setSweep x _ =>
    refine hs.sweep ?_
    split
    next => exact hs.2.2.2.storeSweep _
    next => exact hs.2.2.2
  | setUplink a _ => exact hs.setUplink a
  | setQueue a _ => exact hs.quiet (quiet_setQueueLimits a s).symm
  | setClassMap l _ => exact hs.same ⟨rfl, rfl, rfl, rfl⟩
  | loadSegment g hg => exact hs.loadSegment (segmentArgs_range hg)
  | deleteSegment id _ => exact hs.deleteSegment id
  | loadAdmission k g _ => exact hs.loadAdmission k g
  | deleteAdmission k _ => exact hs.deleteAdmission k
  | slotPowerOn i _ => exact (hs.slotPower i .off).1
  | slotPowerOff i form _ => exact (hs.slotPower i form).2.1
  | slotKill i _ => exact (hs.slotPower i .off).2.2
  | slotAdmit i pair _ => exact (hs.admitRelease i pair).1
  | slotRelease i _ => exact (hs.admitRelease i ⟨0, 0⟩).2
  | inject i o _ => exact hs.quiet (quiet_injectFrame i o s).symm
  | clearAlerts l _ => exact hs.clearAlerts l
  | startSweep => exact hs.sweep hs.2.2.2.triggerSweep
  | stopSweep => exact hs.sweep fun h => by cases h
  | clearCounters => exact hs.zeroCounters
  | restart => exact hs.restart

theorem tablesOrdered_reset : TablesOrdered State.reset := by
  unfold TablesOrdered AlertsOrdered SegmentsOrdered AdmissionOrdered PeriodArmed
  decide

theorem tablesOrdered_quietInvariant : QuietInvariant TablesOrdered where
  quiet h hs := hs.quiet h
  pending _ _ hs := hs.same ⟨rfl, rfl, rfl, rfl⟩
  reset _ _ := tablesOrdered_reset.same ⟨rfl, rfl, rfl, rfl⟩
  plain _ _ hs h := hs.plainMove h
  own _ _ _ hs h := hs.ownChange h
  command _ _ _ hs h := hs.command h
  evaluation := tablesOrdered_evaluation

/-! ### The links at work (R150, R152) -/

/-- The links where neither the uplinks nor any slot's queue changed. -/
theorem LinksBusy.same {s t : State} (hs : LinksBusy s) (ha : t.uplinkA = s.uplinkA) (hb : t.uplinkB = s.uplinkB)
    (hq : ∀ i, (t.slot i).que = (s.slot i).que) : LinksBusy t := by
  refine ⟨fun u => ?_, fun i => hq i ▸ hs.2 i⟩
  cases u with
  | A => rw [State.uplink, ha]; exact hs.1 .A
  | B => rw [State.uplink, hb]; exact hs.1 .B

theorem LinksBusy.modSlot {s : State} (hs : LinksBusy s) (i : Slot) (f : SlotRecord → SlotRecord)
    (hf : ∀ r, (f r).que = r.que) : LinksBusy (s.modSlot i f) := by
  refine hs.same rfl rfl fun j => ?_
  rw [State.slot_modSlot]
  split
  next h => rw [hf, h]
  next => rfl

/-- An uplink that has had its chance to begin is at work (R150). -/
theorem beginUplink_busy (u : Uplink) (s : State) : UplinkBusy ((beginUplink u s).uplink u) := by
  unfold beginUplink
  dsimp only
  split
  next hidle =>
    split
    next hnone =>
      intro _ _ _ c
      have hc := List.find?_eq_none.mp hnone c (by revert c; decide)
      simpa using hc
    next c hc =>
      split
      next hnil =>
        have hne := List.find?_some hc
        rw [hnil] at hne
        cases hne
      next e rest _ =>
        intro hflight
        rw [State.uplink_modUplink, if_pos rfl] at hflight
        cases hflight
  next hn =>
    intro hf hl hh
    simp [hf, hl, hh, Timer.isRunning] at hn

theorem beginUplink_other (u v : Uplink) (s : State) (h : v ≠ u) : (beginUplink u s).uplink v = s.uplink v := by
  unfold beginUplink
  dsimp only
  split
  next =>
    split
    next => rfl
    next =>
      split
      next => rfl
      next => rw [State.uplink_modUplink, if_neg h, State.modClass, State.uplink_modUplink, if_neg h]
  next => rfl

/-- A slot link that has had its chance to begin is at work (R152). -/
theorem beginSlotPart_busy (pause : Nat → Octets) (q : QueuePart) : SlotLinkBusy (beginSlotPart pause q) := by
  unfold beginSlotPart
  split
  next f hf => intro h; rw [hf] at h; cases h
  next hf =>
    split
    next => intro h; cases h
    next hp =>
      split
      next => intro h; cases h
      next hc =>
        split
        next => intro h; cases h
        next he => exact fun _ => ⟨hp, hc, he⟩

/-- The slots of an ascending list begin, each once, and the others keep their records. -/
theorem foldl_beginSlot_busy (l : List Slot) (hl : l.Nodup) (s : State) :
    (∀ i ∈ l, SlotLinkBusy ((l.foldl (fun s i => beginSlot i s) s).slot i).que) ∧
      ∀ i ∉ l, (l.foldl (fun s i => beginSlot i s) s).slot i = s.slot i := by
  induction l generalizing s with
  | nil => exact ⟨fun i hi => absurd hi List.not_mem_nil, fun _ _ => rfl⟩
  | cons a l ih =>
    obtain ⟨ha, hl⟩ := List.nodup_cons.mp hl
    obtain ⟨hin, hout⟩ := ih hl (beginSlot a s)
    rw [List.foldl_cons]
    refine ⟨fun i hi => ?_, fun i hi => ?_⟩
    · obtain rfl | hi := List.mem_cons.mp hi
      · rw [hout i ha, beginSlot, State.modQue_eq, State.slot_modSlot_same]
        exact beginSlotPart_busy _ _
      · exact hin i hi
    · obtain ⟨hne, hi⟩ := not_or.mp (mt List.mem_cons.mpr hi)
      rw [hout i hi, beginSlot, State.modQue_eq, State.slot_modSlot_ne _ _ hne]

theorem foldl_beginSlot_uplink (l : List Slot) (s : State) (u : Uplink) :
    (l.foldl (fun s i => beginSlot i s) s).uplink u = s.uplink u := by
  induction l generalizing s with
  | nil => rfl
  | cons a l ih => rw [List.foldl_cons, ih, beginSlot, State.modQue_eq, State.modSlot_uplink]

/-- At the end of an event every link is at work, whatever the event did (R150, R152, log 7). -/
theorem beginAll_busy (s : State) : LinksBusy (beginAll s) := by
  refine ⟨fun u => ?_, fun i => ?_⟩
  · rw [beginAll, foldl_beginSlot_uplink]
    cases u with
    | A => rw [beginUplink_other .B .A _ (by decide)]; exact beginUplink_busy .A s
    | B => exact beginUplink_busy .B _
  · exact (foldl_beginSlot_busy allSlots (by decide) _).1 i (mem_allSlots i)

theorem LinksBusy.plainMove {s t : State} (hs : LinksBusy s) (h : PlainMove s t) : LinksBusy t := by
  cases h with
  | presenceLine i level _ => exact hs.modSlot i _ fun _ => rfl
  | powerGoodLine i level _ => exact hs.modSlot i _ fun _ => rfl
  | none => exact hs
  | _ => exact hs.same rfl rfl fun _ => rfl

theorem afterReset_busy (straps : Byte) (s : State) : LinksBusy (afterReset straps s) := by
  have hempty (u : Uplink) (c : Cls) : ((afterReset straps s).uplink u).queues[c].entries = [] := by
    cases u <;> simp [afterReset, State.uplink, State.reset, UplinkRecord.reset, ClassQueue.reset]
  have hslot (i : Slot) : ((afterReset straps s).slot i).que = (SlotRecord.reset 0).que := by
    simp [afterReset, State.slot, resetSlot, State.reset, SlotRecord.reset]
  refine ⟨fun u _ _ _ c => hempty u c, fun i => ?_⟩
  rw [hslot]
  exact fun _ => ⟨rfl, rfl, rfl⟩

theorem linksBusy_keptAtEnds : KeptAtEnds LinksBusy where
  pending _ _ hs := hs.same rfl rfl fun _ => rfl
  received _ _ hs := hs.same rfl rfl fun _ => rfl
  reset := afterReset_busy
  plain _ _ hs h := hs.plainMove h
  closed _ _ _ _ _ := by rw [close]; exact beginAll_busy _
  command _ _ _ _ := by rw [runCommand, finish]; exact beginAll_busy _

/-- Settles O59: the tables, the alert set and the period timer are an invariant that does not look at the Queue
Manager, and every event ends with the links at work. -/
theorem everyStepKeepsTheOrders : Obligations.EveryStepKeepsTheOrders := by
  intro s t ha hseg hadm hper hlinks hstep
  obtain ⟨ha, hseg, hadm, hper⟩ :=
    tablesOrdered_quietInvariant.keptAtEnds.step (s := s) ⟨ha, hseg, hadm, hper⟩ hstep
  exact ⟨ha, hseg, hadm, hper, linksBusy_keptAtEnds.step hlinks hstep⟩

end Sys2Proof.Machine
end

section
/-! SUPPORT. Every event as a chain of slot moves: what an event can change of the slots' admission, power and station
entries, of the grant queue and of the lanes (R4 to R27, R47 to R90). -/

namespace Sys2Proof.Machine

/-- The items of a slot record that the power and station invariants speak of. -/
def coreRecord (r : SlotRecord) : SlotRecord :=
  let z := SlotRecord.reset 0
  { adm := { z.adm with
      state := r.adm.state, presenceLine := r.adm.presenceLine, filtered := r.adm.filtered, window := r.adm.window,
      priority := r.adm.priority }
    inv := { z.inv with present := r.inv.present, addresses := r.inv.addresses }
    bud := { r.bud with capSeq := 0 }
    rail := { r.rail with powerGoodTimer := .stopped, resetHold := .stopped, shutdown := .stopped }
    tel := z.tel
    que := z.que }

/-- Two states with the same slots as far as `coreRecord` goes, the same budget, station table and station address. -/
structure SameCore (s t : State) : Prop where
  slots : ∀ i, coreRecord (t.slot i) = coreRecord (s.slot i)
  budget : t.budget = s.budget
  stations : t.stations = s.stations
  straps : t.fwd.straps = s.fwd.straps

theorem SameCore.refl (s : State) : SameCore s s := ⟨fun _ => rfl, rfl, rfl, rfl⟩

theorem SameCore.symm {s t : State} (h : SameCore s t) : SameCore t s :=
  ⟨fun i => (h.slots i).symm, h.budget.symm, h.stations.symm, h.straps.symm⟩

theorem SameCore.trans {s t u : State} (h : SameCore s t) (h' : SameCore t u) : SameCore s u :=
  ⟨fun i => (h'.slots i).trans (h.slots i), h'.budget.trans h.budget, h'.stations.trans h.stations,
    h'.straps.trans h.straps⟩

/-- States with the same slots, budget, station table and forwarding settings. -/
theorem SameCore.of_eq {s t : State} (hs : t.slots = s.slots) (hb : t.budget = s.budget) (hst : t.stations = s.stations)
    (hf : t.fwd.straps = s.fwd.straps) : SameCore s t := ⟨fun i => by rw [State.slot, State.slot, hs], hb, hst, hf⟩

theorem coreRecord_quiet (r : SlotRecord) : coreRecord (quietRecord r) = coreRecord r := rfl

theorem SameCore.of_quiet {s t : State} (h : t.quiet = s.quiet) : SameCore s t where
  slots i := by rw [← coreRecord_quiet, ← coreRecord_quiet (s.slot i), ← quiet_slot, ← quiet_slot, h]
  budget := by have := congrArg State.budget h; exact this
  stations := by have := congrArg State.stations h; exact this
  straps := by have := congrArg (fun x : State => x.fwd.straps) h; exact this

/-- A change of a slot record that leaves its core. -/
theorem SameCore.modSlot (s : State) (i : Slot) (f : SlotRecord → SlotRecord)
    (hf : ∀ r, coreRecord (f r) = coreRecord r) : SameCore s (s.modSlot i f) where
  slots j := by
    rw [State.slot_modSlot]
    split
    next h => rw [hf, h]
    next => rfl
  budget := rfl
  stations := rfl
  straps := rfl

theorem SameCore.modRail (s : State) (i : Slot) (f : RailPart → RailPart)
    (hf : ∀ r, coreRecord { r with rail := f r.rail } = coreRecord r) : SameCore s (s.modRail i f) :=
  .modSlot s i _ hf

theorem SameCore.modAdm (s : State) (i : Slot) (f : AdmissionPart → AdmissionPart)
    (hf : ∀ r, coreRecord { r with adm := f r.adm } = coreRecord r) : SameCore s (s.modAdm i f) :=
  .modSlot s i _ hf

theorem SameCore.modTel (s : State) (i : Slot) (f : TelemetryPart → TelemetryPart) : SameCore s (s.modTel i f) :=
  .modSlot s i _ fun _ => rfl

/-- The frame of a zone recomputation, an override evaluation and a raise. -/
theorem SameCore.raise (a : Alert) (s : State) : SameCore s (Machine.raise a s) := by
  obtain ⟨al, h⟩ := raise_frame a s
  exact h ▸ .of_eq rfl rfl rfl rfl

theorem SameCore.raised {s t : State} (h : SameCore s t) (a : Alert) : SameCore s (Machine.raise a t) :=
  h.trans (.raise a t)

theorem SameCore.propagate (before after : State) : SameCore after (propagate before after) := by
  obtain ⟨_, _, _, _, h⟩ := propagate_frame before after
  exact h ▸ .of_eq rfl rfl rfl rfl

theorem SameCore.rezone (zs : List Zone) (s : State) : SameCore s (rezone zs s) := by
  obtain ⟨_, _, _, _, _, h⟩ := rezone_frame zs s
  exact h ▸ .of_eq rfl rfl rfl rfl

theorem SameCore.rezoneSlot (i : Slot) (s : State) : SameCore s (rezoneSlot i s) := .rezone _ s

theorem SameCore.changeTrigger (s : State) : SameCore s (changeTrigger s) := by
  unfold Machine.changeTrigger
  split <;> exact .of_eq rfl rfl rfl rfl

/-- The states in which a slot holds standby power alone: ANNOUNCE_WAIT to POWER_WAIT, and FAULT. -/
def SlotState.standbyOnly : SlotState → Bool
  | .announceWait | .unidentified | .denied | .standby | .powerWait | .fault => true
  | .empty | .standbyWait | .powering | .online | .capped | .shuttingDown => false

/-- The states in which no station entry belongs to a slot (R25; R6 and R14 for UNIDENTIFIED). -/
def SlotState.unlisted : SlotState → Bool
  | .empty | .standbyWait | .announceWait | .unidentified => true
  | .denied | .standby | .powerWait | .powering | .online | .capped | .shuttingDown | .fault => false

/-- The filtered level taken at a presence window's expiry (R2). -/
def takePresence (a : AdmissionPart) : AdmissionPart := { a with window := .stopped, filtered := a.presenceLine }

/-- The filtered level taken at a power-good window's expiry (R77). -/
def takePowerGood (r : RailPart) : RailPart := { r with powerGood := r.powerGoodLine, powerGoodWindow := .stopped }

/-- The elementary moves of which every event's own changes and every evaluation are made, each under the conditions
in which it is taken. -/
inductive SlotMove (s : State) : State → Prop
  | same (t : State) : SameCore s t → SlotMove s t
  | presenceLine (i : Slot) (level : Bool) (length : Nat) : level ≠ (s.slot i).adm.presenceLine →
      SlotMove s (s.modAdm i (movePresence level length))
  | powerGoodLine (i : Slot) (level : Bool) (length : Nat) : level ≠ (s.slot i).rail.powerGoodLine →
      SlotMove s (s.modRail i (movePowerGood level length))
  | filtered (i : Slot) : ((s.slot i).adm.presenceLine ≠ (s.slot i).adm.filtered →
        ((s.slot i).adm.presenceLine = true ↔ (s.slot i).adm.state ≠ .empty)) →
      SlotMove s (s.modAdm i takePresence)
  | insert (i : Slot) : (s.slot i).adm.presenceLine = true → (s.slot i).adm.state = .empty →
      SlotMove s (insertion i (s.modAdm i takePresence))
  | remove (i : Slot) : (s.slot i).adm.presenceLine = false → SlotMove s (removal i (s.modAdm i takePresence))
  | unpowered (i : Slot) (st : SlotState) : (s.slotState i).standbyOnly = true → st.standbyOnly = true →
      (st.unlisted = true → (s.slotState i).unlisted = true) → SlotMove s (moveTo i st s)
  | refresh (i : Slot) (l : List Station) : l.length ≤ 4 → (s.slotState i).unlisted = false →
      SlotMove s (refreshStations i l s)
  | ackStopped (i : Slot) : SlotMove s (s.modBud i fun b => { b with capAck := .stopped })
  | mainOff (i : Slot) (st : SlotState) : (s.slotState i).mainPowered = true → st ∈ [.standby, .powerWait, .fault] →
      SlotMove s (mainOff i st s)
  | powerGood (i : Slot) : SlotMove s (s.modRail i takePowerGood)
  | leaveRailUp (i : Slot) (hold : Nat) : s.slotState i = .powering → SlotMove s (s.modRail i (leaveRailUp hold))
  | online (i : Slot) : s.slotState i = .powering →
      SlotMove s ((moveTo i .online (freeLane i s)).modRail i fun r =>
        { r with resetAsserted := false, stage := .none, resetHold := .stopped })
  | priority (i : Slot) (p : Fin 4) : SlotMove s (setPriority i p s)
  | budgetSettings (a m l : Nat) : l = s.budget.laneCount ∨ s.budget.lanesInUse = 0 →
      SlotMove s { s with budget := { s.budget with allowance := a, margin := m, laneCount := l } }
  | shutdown (i : Slot) (form : ShutdownForm) : (s.slotState i).running = true → SlotMove s (beginShutdown i form s)
  | cap (i : Slot) : capCandidate (s.slot i) = true → SlotMove s (capSlot i s)
  | uncap (i : Slot) : (s.slot i).bud.capped = true → SlotMove s (uncapSlot i s)
  | cut (i : Slot) : (s.slotState i).standbyOnly = true → SlotMove s (standbyCut i s)
  | grantStandby (e : Request) (rest : List Request) : s.budget.queue = e :: rest → e.kind = .standby →
      standbyServed s = true → SlotMove s (grantStandby e.slot s)
  | grantMain (e : Request) (rest : List Request) : s.budget.queue = e :: rest → e.kind = .main →
      mainServed s e.slot = true → SlotMove s (grantMain e.slot s)
  | short (e : Request) (rest : List Request) : s.budget.queue = e :: rest →
      SlotMove s (setQueue ({ e with short := true } :: rest) s)

/-- A chain of slot moves. -/
abbrev SlotMoves : State → State → Prop := Relation.ReflTransGen SlotMove

theorem SlotMoves.same {s t : State} (h : SameCore s t) : SlotMoves s t := .single (.same t h)

theorem SlotMoves.of_quiet {s t : State} (h : t.quiet = s.quiet) : SlotMoves s t := .same (.of_quiet h)

theorem SlotMoves.of_eq {s t : State} (hs : t.slots = s.slots) (hb : t.budget = s.budget)
    (hst : t.stations = s.stations) (hf : t.fwd.straps = s.fwd.straps) : SlotMoves s t := .same (.of_eq hs hb hst hf)

/-- A move that is followed by an alert. -/
theorem SlotMove.raised {s t : State} (h : SlotMove s t) (a : Alert) : SlotMoves s (raise a t) :=
  .tail (.single h) (.same _ (.raise a t))

theorem mainPowered_of_losesPower {r : SlotRecord} (h : losesPower r = true) : r.adm.state.mainPowered = true := by
  simp only [losesPower, SlotRecord.inStage, Bool.or_eq_true, Bool.and_eq_true, beq_iff_eq] at h
  obtain ((⟨h, -⟩ | h) | h) | h := h <;> rw [h] <;> rfl

/-! ### The own changes of the events -/

theorem presenceExpiry_moves (i : Slot) (s : State) : SlotMoves s (presenceExpiry i s).state := by
  unfold presenceExpiry
  dsimp only
  split
  next h => exact .single (.filtered i fun hne => absurd h hne)
  next =>
    split
    next hline =>
      split
      next hst => exact .tail (.single (.insert i hline hst)) (.same _ (.changeTrigger _))
      next hst => exact .tail (.single (.filtered i fun _ => by simp [hline, hst])) (.same _ (.changeTrigger _))
    next hline =>
      split
      next hst => exact .tail (.single (.filtered i fun _ => by simp [hline, hst])) (.same _ (.changeTrigger _))
      next => exact .tail (.single (.remove i (by simpa using hline))) (.same _ (.changeTrigger _))

theorem mem_standbyOnly_of_evaluated {st : SlotState} (h : st.evaluated = true) : st.standbyOnly = true := by
  cases st <;> first | rfl | cases h

/-- The state after the action of a record. -/
theorem applyAction_moves (g : AdmissionRule) (i : Slot) (s : State) (h : (s.slotState i).evaluated = true) :
    SlotMoves s (applyAction g i s) ∧ ((applyAction g i s).slotState i).unlisted = false := by
  have hs := mem_standbyOnly_of_evaluated h
  unfold applyAction
  split
  next =>
    refine ⟨(SlotMove.unpowered i .denied hs rfl (fun h => by cases h)).raised _, ?_⟩
    simp [State.slotState, raiseSlot, SlotState.unlisted]
  next =>
    split
    next hw => exact ⟨.refl, by rw [hw]; rfl⟩
    next hw =>
      have ht : (admittedState (s.slotState i) (s.slot i).adm.policy).standbyOnly = true ∧
          (admittedState (s.slotState i) (s.slot i).adm.policy).unlisted = false := by
        unfold admittedState
        rw [if_neg hw]
        split <;> exact ⟨rfl, rfl⟩
      refine ⟨.single (.unpowered i _ hs ht.1 fun hu => by rw [ht.2] at hu; cases hu), ?_⟩
      rw [State.slotState, moveTo_slot_same]
      exact ht.2

theorem setPriority_slotState (i j : Slot) (p : Fin 4) (s : State) :
    (setPriority i p s).slotState j = s.slotState j := by
  have h1 : (s.modAdm i fun a => { a with priority := p }).slotState j = s.slotState j := by
    rw [State.slotState, State.modAdm_eq, State.slot_modSlot]
    split
    next h => rw [h]; rfl
    next => rfl
  unfold setPriority
  split
  next => rfl
  next =>
    dsimp only
    split
    next => exact h1
    next => exact h1

theorem evaluateAnnounce_moves (i : Slot) (b : AnnounceBody) (s : State) (h : (s.slotState i).evaluated = true) :
    SlotMoves s (evaluateAnnounce i b s).state := by
  unfold evaluateAnnounce
  dsimp only
  generalize governing s b.bladeType = g
  generalize hs1 : (s.modInv i fun r => { recordAnnounce g b r with
    lastOutcome := match g.action with
      | .allow => .allowed
      | .deny => .denied }) = s1
  have h1 : SameCore s s1 := hs1 ▸ .modSlot s i _ fun _ => rfl
  have hst1 : s1.slotState i = s.slotState i := by rw [← hs1]; simp [State.slotState]
  have h2 : SlotMoves s1 (applyPriority g i s1) ∧ (applyPriority g i s1).slotState i = s1.slotState i := by
    unfold applyPriority
    split
    next p _ => exact ⟨.single (.priority i p), setPriority_slotState i i p s1⟩
    next => exact ⟨.refl, rfl⟩
  generalize applyPriority g i s1 = s2 at h2 ⊢
  obtain ⟨h3, hu⟩ := applyAction_moves g i s2 (by rw [h2.2, hst1]; exact h)
  generalize applyAction g i s2 = s3 at h3 hu ⊢
  have h4 : SameCore s3 (s3.modAdm i fun a => { a with announceWindow := .stopped }) := .modSlot s3 i _ fun _ => rfl
  have hu4 : ((s3.modAdm i fun a => { a with announceWindow := .stopped }).slotState i).unlisted = false := by
    simpa [State.slotState] using hu
  exact ((((SlotMoves.same h1).trans h2.1).trans h3).tail (.same _ h4)).tail
    (.refresh i _ (List.length_take_le 4 _) hu4) |>.tail (.same _ (.of_quiet (quiet_offerControl i _ _)))

theorem recordOnly_moves (i : Slot) (b : AnnounceBody) (s : State) (h : (s.slotState i).unlisted = false) :
    SlotMoves s (recordOnly i b s) := by
  have h1 : SameCore s (s.modInv i (recordAnnounce (governing s b.bladeType) b)) := .modSlot s i _ fun _ => rfl
  refine .tail (SlotMoves.same h1) (.refresh i _ (List.length_take_le 4 _) ?_)
  simpa [State.slotState] using h

theorem takeAnnounce_moves (i : Slot) (b : AnnounceBody) (s : State) : SlotMoves s (takeAnnounce i b s).state := by
  unfold takeAnnounce
  split
  next => exact .of_eq rfl rfl rfl rfl
  next hn =>
    split
    next => exact .of_eq rfl rfl rfl rfl
    next =>
      split
      next he => exact evaluateAnnounce_moves i b s he
      next he =>
        refine recordOnly_moves i b s ?_
        generalize s.slotState i = st at hn he
        cases st <;> first | rfl | exact absurd rfl he | exact absurd (.inl rfl) hn | exact absurd (.inr rfl) hn

theorem completeConversion_moves (c : Channel) (code : Byte) (s : State) :
    SlotMoves s (completeConversion c code s).state := by
  have h1 : SameCore s (match conversionResult c code with
      | none => s
      | some v => handBrownout c v (checkLimits c v (s.modChannel c fun r => { r with result := some v }))) := by
    split
    next => exact .refl s
    next v _ =>
      have hl (t : State) : SameCore t (checkLimits c v t) := by
        unfold checkLimits
        split
        next => exact .raise _ t
        next => exact .refl t
      have hb (t : State) : SameCore t (handBrownout c v t) := by
        unfold handBrownout applyBrownout
        dsimp only
        split
        next =>
          split
          next =>
            refine .raised ?_ _
            exact .of_eq rfl rfl rfl rfl
          next => exact .of_eq rfl rfl rfl rfl
        next => exact .refl t
      have hm : SameCore s (s.modChannel c fun r => { r with result := some v }) := .of_eq rfl rfl rfl rfl
      exact hm.trans ((hl _).trans (hb _))
  have h2 (t : State) : SameCore t (rezoneChannel c t) := by
    unfold rezoneChannel
    split
    next => exact .refl t
    next => exact .rezone _ t
  exact .same ((h1.trans (h2 _)).trans (.of_eq rfl rfl rfl rfl))

theorem gateExpiry_moves (s : State) : SlotMoves s (gateExpiry s) := by
  have hfan (f : Fan) (t : State) : SameCore t (gateFan f t) := by
    unfold gateFan checkStall
    split
    next =>
      refine .raised ?_ _
      exact .of_eq rfl rfl rfl rfl
    next => exact .of_eq rfl rfl rfl rfl
  have hfold (l : List Fan) (t : State) : SameCore t (l.foldl (fun s f => gateFan f s) t) := by
    induction l generalizing t with
    | nil => exact .refl t
    | cons f l ih => exact (hfan f t).trans (ih _)
  have h1 := hfold allFans s
  unfold gateExpiry
  generalize allFans.foldl (fun s f => gateFan f s) s = t at h1 ⊢
  exact .same (h1.trans (.of_eq rfl rfl rfl rfl))

theorem recomputeCapacity_core (s : State) : SameCore s (recomputeCapacity s) := by
  unfold recomputeCapacity
  dsimp only
  split
  next => exact .of_eq rfl rfl rfl rfl
  next =>
    refine .raised ?_ _
    exact .of_eq rfl rfl rfl rfl

/-- The own changes of every event are a chain of slot moves. -/
theorem OwnChange.moves {s m : State} {cause : Bool} (h : OwnChange s m cause) : SlotMoves s m := by
  cases h with
  | presence i _ => exact presenceExpiry_moves i s
  | announceWindow i _ =>
    have h1 : SameCore s (s.modAdm i fun a => { a with announceWindow := .stopped }) := .modSlot s i _ fun _ => rfl
    unfold announceExpiry
    dsimp only
    split
    next hst =>
      have hst' : (s.modAdm i fun a => { a with announceWindow := .stopped }).slotState i = .announceWait := by
        simpa [State.slotState] using hst
      exact (SlotMoves.same h1).trans
        ((SlotMove.unpowered i .unidentified (by rw [hst']; rfl) rfl fun _ => by rw [hst']; rfl).raised _)
    next => exact .same h1
  | uplinkComplete u f _ => exact .of_quiet (quiet_uplinkComplete u f s)
  | slotComplete i f _ => exact .of_quiet (quiet_slotComplete i f s)
  | holdEnd u => exact .of_quiet (quiet_modUplink s u _)
  | pauseRefresh i => exact .of_quiet (quiet_modQue s i _)
  | linkFall u => exact .of_quiet (quiet_linkFall u s)
  | linkRise u => exact .of_quiet (quiet_modUplink s u _)
  | bay b line =>
    have h1 : SameCore s (s.modBay b (takeBayLine line)) := .of_eq rfl rfl rfl rfl
    unfold bayExpiry
    dsimp only
    split
    next => exact .same h1
    next => exact .same (h1.trans ((recomputeCapacity_core _).trans (.changeTrigger _)))
  | capAck i =>
    unfold capAckExpiry
    split
    next h =>
      refine SlotMove.raised (.mainOff i .powerWait ?_ (by simp)) _
      obtain h | ⟨h, -⟩ := h <;> rw [h] <;> rfl
    next => exact .single (.ackStopped i)
  | powerGood i _ =>
    have h1 : SlotMove s (s.modRail i takePowerGood) := .powerGood i
    unfold powerGoodExpiry
    dsimp only
    split
    next => exact .single h1
    next =>
      split
      next =>
        dsimp only
        split
        next hst =>
          refine .tail (.single h1) (.leaveRailUp i _ ?_)
          simp only [SlotRecord.inStage, Bool.and_eq_true, beq_iff_eq] at hst
          simpa [State.slotState] using hst.1
        next => exact .single h1
      next =>
        split
        next hl =>
          refine (Relation.ReflTransGen.single h1).trans (SlotMove.raised (.mainOff i .fault ?_ (by simp)) _)
          simpa [State.slotState] using mainPowered_of_losesPower hl
        next => exact .single h1
  | powerGoodTimer i =>
    unfold powerGoodTimeout
    split
    next hst =>
      simp only [SlotRecord.inStage, Bool.and_eq_true, beq_iff_eq] at hst
      exact SlotMove.raised (.mainOff i .fault (by rw [State.slotState, hst.1]; rfl) (by simp)) _
    next =>
      dsimp only
      exact .same (SameCore.modRail s i _ fun _ => rfl)
  | resetHold i =>
    unfold resetHoldEnd
    split
    next hst =>
      simp only [SlotRecord.inStage, Bool.and_eq_true, beq_iff_eq] at hst
      exact .single (.online i hst.1)
    next =>
      dsimp only
      exact .same (SameCore.modRail s i _ fun _ => rfl)
  | shutdown i =>
    unfold shutdownExpiry
    split
    next hst => exact SlotMove.raised (.mainOff i .standby (by rw [hst]; rfl) (by simp)) _
    next =>
      dsimp only
      exact .same (SameCore.modRail s i _ fun _ => rfl)
  | stale i => exact .same ((SameCore.modTel s i _).trans (.rezoneSlot i _))
  | conversion c code _ => exact completeConversion_moves c code s
  | ramp f _ => exact .of_eq rfl rfl rfl rfl
  | spinUp f _ => exact .of_eq rfl rfl rfl rfl
  | tachGate => exact gateExpiry_moves s
  | flow p opcode quanta => exact .of_quiet (quiet_takeFlow p opcode quanta s)
  | malformed p => exact .of_eq rfl rfl rfl rfl
  | announce i b => exact takeAnnounce_moves i b s
  | telemetry i l =>
    unfold takeTelemetry
    split
    next => exact .of_eq rfl rfl rfl rfl
    next => exact .same ((SameCore.modTel s i _).trans (.rezoneSlot i _))
  | ackCap i sequence =>
    unfold takeCapAck
    split
    next => exact .single (.ackStopped i)
    next => exact .refl
  | ackShutdown i =>
    unfold takeShutdownAck
    split
    next hst => exact .single (.mainOff i .standby (by rw [hst]; rfl) (by simp))
    next => exact .refl
  | upstream i h rx => exact .of_quiet (quiet_upstream i h rx s)
  | downstream u h rx => exact .of_quiet (quiet_downstream u h rx s)

theorem PlainMove.moves {s t : State} (h : PlainMove s t) : SlotMoves s t := by
  cases h with
  | none => exact .refl
  | presenceLine i level h => exact .single (.presenceLine i level _ h)
  | powerGoodLine i level h => exact .single (.powerGoodLine i level _ h)
  | _ => exact .of_eq rfl rfl rfl rfl

/-! ### The commands -/

theorem setSlot_moves (i : Slot) (x : SlotSettings) (s : State) : SlotMoves s (setSlot i x s).state := by
  have h1 : SlotMoves s (storePriority i x.priority (s.modAdm i (storeSlot x))) := by
    have h : SlotMoves s (s.modAdm i (storeSlot x)) := .same (.modSlot s i _ fun _ => rfl)
    unfold storePriority
    split
    next p _ => exact h.tail (.priority i p)
    next => exact h
  unfold setSlot answerOk
  dsimp only
  split
  next => exact h1
  next => exact h1.tail (.same _ (.rezone _ _))

theorem setSupply_moves (x : SupplySettings) (s : State) : SlotMoves s (setSupply x s).state := by
  have hfold (l : List (Bay × Nat)) (t : State) :
      SameCore t (l.foldl (fun s r => s.modBay r.1 fun b => { b with rating := r.2 }) t) := by
    induction l generalizing t with
    | nil => exact .refl t
    | cons r l ih =>
      have hr : SameCore t (t.modBay r.1 fun b => { b with rating := r.2 }) := .of_eq rfl rfl rfl rfl
      exact hr.trans (ih _)
  unfold setSupply
  split
  next => exact .refl
  next h =>
    have h1 : SlotMoves s (storeSupply x s) := by
      refine .tail (.single (.budgetSettings (x.allowance.getD s.budget.allowance) (x.margin.getD s.budget.margin)
        (x.lanes.getD s.budget.laneCount) ?_)) (.same _ ?_)
      · cases hl : x.lanes with
        | none => exact .inl rfl
        | some l => exact .inr (by simpa [hl] using h)
      · have h2 := hfold x.ratings s
        exact ⟨h2.slots, rfl, h2.stations, h2.straps⟩
    unfold answerOk
    dsimp only
    split
    next => exact h1.tail (.same _ (recomputeCapacity_core _))
    next => exact h1

theorem slotPower_moves (i : Slot) (form : ShutdownForm) (s : State) :
    SlotMoves s (slotPowerOn i s).state ∧ SlotMoves s (slotPowerOff i form s).state ∧
      SlotMoves s (slotKill i s).state := by
  have hoff (h : (s.slotState i).mainPowered = true) : SlotMoves s (mainOff i .standby s) :=
    .single (.mainOff i .standby h (by simp))
  have hdown (h : (s.slotState i).running = true) : SlotMoves s (beginShutdown i form s) := .single (.shutdown i form h)
  refine ⟨?_, ?_, ?_⟩
  · unfold slotPowerOn
    split
    next h => exact .single (.unpowered i .powerWait (by rw [h]; rfl) rfl fun h => by cases h)
    all_goals exact .refl
  · unfold slotPowerOff
    split
    case h_1 h => exact hdown (by rw [h]; rfl)
    case h_2 h => exact hdown (by rw [h]; rfl)
    case h_5 h => exact hoff (by rw [h]; rfl)
    case h_6 h => exact .single (.unpowered i .standby (by rw [h]; rfl) rfl fun h => by cases h)
    all_goals exact .refl
  · unfold slotKill
    split
    case h_1 h => exact hoff (by rw [h]; rfl)
    case h_2 h => exact hoff (by rw [h]; rfl)
    case h_3 h => exact hoff (by rw [h]; rfl)
    case h_4 h => exact hoff (by rw [h]; rfl)
    all_goals exact .refl

theorem policyState_standbyOnly (p : Policy) : (policyState p).standbyOnly = true ∧ (policyState p).unlisted = false := by
  cases p <;> exact ⟨rfl, rfl⟩

/-- A slot that holds standby alone moved to the state that its policy gives (R18, R19). -/
theorem policyMove (i : Slot) (p : Policy) (s : State) (h : (s.slotState i).standbyOnly = true) :
    SlotMove s (moveTo i (policyState p) s) := by
  obtain ⟨hs, hu⟩ := policyState_standbyOnly p
  exact .unpowered i _ h hs fun h => by rw [hu] at h; cases h

theorem slotAdmit_moves (i : Slot) (pair : PowerPair) (s : State) : SlotMoves s (slotAdmit i pair s).state := by
  unfold slotAdmit
  split
  next h =>
    have h1 : SameCore s (s.modInv i fun r =>
      { r with effectivePair := some pair, clamped := false, lastOutcome := .allowed }) := .modSlot s i _ fun _ => rfl
    refine ((SlotMoves.same h1).tail (policyMove i _ _ ?_)).tail (.same _ (.of_quiet (quiet_offerControl i _ _)))
    have hst : (s.slotState i).standbyOnly = true := by obtain h | h := h <;> rw [h] <;> rfl
    simpa [State.slotState] using hst
  next => exact .refl

theorem slotRelease_moves (i : Slot) (s : State) : SlotMoves s (slotRelease i s).state := by
  unfold slotRelease answerOk
  split
  next h => exact .single (policyMove i _ s (by rw [h]; rfl))
  next h =>
    refine .tail (.single (.unpowered i .announceWait (by rw [h]; rfl) rfl fun _ => by rw [h]; rfl)) (.same _ ?_)
    dsimp only
    exact SameCore.modAdm _ i _ fun _ => rfl
  all_goals exact .refl

theorem setUplink_moves (a : UplinkArgs) (s : State) : SlotMoves s (setUplink a s).state := by
  unfold setUplink
  split
  next u management segment =>
    unfold setUplinkForm
    split
    next => exact .refl
    next => exact .of_quiet (quiet_modUplink s u _)
  next =>
    unfold setChassisForm
    dsimp only
    split
    next => exact .refl
    next => exact .of_eq rfl rfl rfl rfl

theorem setZone_moves (x : ZoneSettings) (s : State) : SlotMoves s (setZone x s).state := by
  have h1 : SameCore s (storeZoneForm x s) := by
    unfold storeZoneForm
    split
    next => exact .refl s
    next =>
      dsimp only
      split <;> exact .of_eq rfl rfl rfl rfl
  unfold setZone answerOk
  refine .same (.trans ?_ (.propagate s _))
  exact h1.trans (.of_eq rfl rfl rfl rfl)

theorem setFanDuty_moves (f : Fan) (d : Nat) (s : State) : SlotMoves s (setFanDuty f d s).state := by
  unfold setFanDuty answerOk
  dsimp only
  split
  next =>
    obtain ⟨fs, h⟩ := retarget_frame f (s.modFan f fun r => { r with manual := d })
    rw [h]
    exact .of_eq rfl rfl rfl rfl
  next => exact .of_eq rfl rfl rfl rfl

/-- A table command, whether it stores or refuses, touches its table alone. -/
theorem tableCommand_moves (s : State) (g : Segment) (id : Nat) (k : Option Word16) (r : AdmissionRule) :
    SlotMoves s (loadSegment g s).state ∧ SlotMoves s (deleteSegment id s).state ∧
      SlotMoves s (loadAdmission k r s).state ∧ SlotMoves s (deleteAdmission k s).state := by
  refine ⟨?_, ?_, ?_, ?_⟩
  · unfold loadSegment
    split <;> exact .of_eq rfl rfl rfl rfl
  · unfold deleteSegment
    split <;> exact .of_eq rfl rfl rfl rfl
  · unfold loadAdmission
    split
    next => exact .of_eq rfl rfl rfl rfl
    next =>
      dsimp only
      split <;> exact .of_eq rfl rfl rfl rfl
  · unfold deleteAdmission
    split
    next => exact .of_eq rfl rfl rfl rfl
    next => split <;> exact .of_eq rfl rfl rfl rfl

theorem restart_moves (s : State) : SlotMoves s (restart s).state := by
  have h := SameCore.of_quiet (quiet_restartQueues s)
  unfold restart answerOk
  generalize restartQueues s = t at h ⊢
  exact .same (h.trans (.of_eq rfl rfl rfl rfl))

/-- The own changes of every COMMAND are a chain of slot moves. -/
theorem CommandChange.moves {s m : State} {items : List Item} (h : CommandChange s items m) : SlotMoves s m := by
  cases h with
  | none => exact .refl
  | setSlot i x _ => exact setSlot_moves i x s
  | setSupply x _ => exact setSupply_moves x s
  | setTiming x _ =>
    unfold Machine.setTiming
    split <;> exact .of_eq rfl rfl rfl rfl
  | setZone x _ => exact setZone_moves x s
  | setFan f x _ =>
    unfold Machine.setFan answerOk
    dsimp only
    split <;> exact .of_eq rfl rfl rfl rfl
  | setFanDuty f d _ => exact setFanDuty_moves f d s
  | setChannel c x _ =>
    have h1 : SameCore s (s.modChannel c (storeChannel x)) := .of_eq rfl rfl rfl rfl
    unfold Machine.setChannel answerOk
    dsimp only
    split
    next => exact .same h1
    next => exact .same (h1.trans (.rezone _ _))
  | setUplink a _ => exact setUplink_moves a s
  | setQueue a _ => exact .of_quiet (quiet_setQueueLimits a s)
  | loadSegment g _ => exact (tableCommand_moves s g 0 Option.none ⟨.allow, 0, Option.none⟩).1
  | deleteSegment id _ => exact (tableCommand_moves s ⟨0, 0, .a, .drop, false, Option.none⟩ id Option.none ⟨.allow, 0, Option.none⟩).2.1
  | loadAdmission k g _ => exact (tableCommand_moves s ⟨0, 0, .a, .drop, false, Option.none⟩ 0 k g).2.2.1
  | deleteAdmission k _ => exact (tableCommand_moves s ⟨0, 0, .a, .drop, false, Option.none⟩ 0 k ⟨.allow, 0, Option.none⟩).2.2.2
  | slotPowerOn i _ => exact (slotPower_moves i .off s).1
  | slotPowerOff i form _ => exact (slotPower_moves i form s).2.1
  | slotKill i _ => exact (slotPower_moves i .off s).2.2
  | slotAdmit i pair _ => exact slotAdmit_moves i pair s
  | slotRelease i _ => exact slotRelease_moves i s
  | inject i o _ => exact .of_quiet (quiet_injectFrame i o s)
  | clearAlerts l _ => exact .of_eq rfl rfl rfl rfl
  | restart => exact restart_moves s
  | _ => exact .of_eq rfl rfl rfl rfl

/-! ### Invariants of the slot moves -/

/-- What an invariant of the slots, the budget and the station table has to be shown for. -/
structure KeptByMoves (P : State → Prop) : Prop where
  move : ∀ {s t : State}, P s → SlotMove s t → P t
  reset : ∀ straps s, P (afterReset straps s)

theorem KeptByMoves.moves {P : State → Prop} (K : KeptByMoves P) {s t : State} (hs : P s) (h : SlotMoves s t) : P t := by
  induction h with
  | refl => exact hs
  | tail _ h ih => exact K.move ih h

theorem KeptByMoves.evaluation {P : State → Prop} (K : KeptByMoves P) : KeptByEvaluation P where
  cap i s hs h := K.move hs (.cap i h)
  powerOff i s hs h := K.moves hs ((SlotMove.mainOff i .powerWait h (by simp)).raised _)
  standbyCut i s hs h := by
    refine K.move hs (.cut i ?_)
    rw [isStandbyOnly] at h
    rw [State.slotState]
    generalize (s.slot i).adm.state = st at h
    cases st <;> first | rfl | cases h
  uncap i s hs h := K.move hs (.uncap i h)
  grantStandby e rest s hs hq hk h := K.move hs (.grantStandby e rest hq hk h)
  grantMain e rest s hs hq hk h := K.move hs (.grantMain e rest hq hk h)
  short s hs := by
    unfold markShort
    split
    next => exact hs
    next e rest hq =>
      split
      next => exact K.moves hs ((SlotMove.short e rest hq).raised _)
      next => exact hs

/-- An invariant that every slot move keeps is kept by every step. -/
theorem KeptByMoves.step {P : State → Prop} (K : KeptByMoves P) {s t : State} (hs : P s) (h : step s = .next t) : P t :=
  QuietInvariant.keptAtEnds
    { quiet := fun h hs => K.move hs (.same _ (.of_quiet h.symm))
      pending := fun _ _ hs => K.move hs (.same _ (.of_eq rfl rfl rfl rfl))
      reset := K.reset
      plain := fun _ _ hs h => K.moves hs h.moves
      own := fun _ _ _ hs h => K.moves hs h.moves
      command := fun _ _ _ hs h => K.moves hs h.moves
      evaluation := K.evaluation } |>.step hs h

end Sys2Proof.Machine
end

section
/-! SUPPORT. The grant queue, the lanes and each slot's outputs, holdings and filters through every slot move (O54). -/

namespace Sys2Proof.Machine

/-! ### The order of requests (R51) -/

/-- `standsBefore` by the priorities alone. -/
def standsBeforeBy (p : Slot → Fin 4) (a b : Request) : Prop :=
  a.kind = .standby ∨ (b.kind = .main ∧ p a.slot ≤ p b.slot)

theorem insertStandby_perm (e : Request) (l : List Request) : (insertStandby e l).Perm (e :: l) := by
  induction l with
  | nil => exact .refl _
  | cons r l ih =>
    unfold insertStandby
    split
    next => exact (ih.cons r).trans (.swap e r l)
    next => exact .refl _

theorem insertMain_perm (p : Slot → Fin 4) (e : Request) (l : List Request) : (insertMain p e l).Perm (e :: l) := by
  induction l with
  | nil => exact .refl _
  | cons r l ih =>
    unfold insertMain
    split
    next => exact .refl _
    next => exact (ih.cons r).trans (.swap e r l)

theorem mem_insertMain (p : Slot → Fin 4) (e x : Request) (l : List Request) :
    x ∈ insertMain p e l ↔ x = e ∨ x ∈ l := by
  rw [(insertMain_perm p e l).mem_iff, List.mem_cons]

/-- A standby request enters an ordered queue behind the standby requests, and the queue stays ordered. -/
theorem insertStandby_ordered (p : Slot → Fin 4) (e : Request) (he : e.kind = .standby) (l : List Request)
    (hl : l.Pairwise (standsBeforeBy p)) : (insertStandby e l).Pairwise (standsBeforeBy p) := by
  induction l with
  | nil => exact List.pairwise_singleton _ e
  | cons r l ih =>
    obtain ⟨hr, hl'⟩ := List.pairwise_cons.mp hl
    unfold insertStandby
    split
    next hk => exact List.pairwise_cons.mpr ⟨fun x _ => .inl hk, ih hl'⟩
    next => exact List.pairwise_cons.mpr ⟨fun x _ => .inl he, hl⟩

/-- A main request enters an ordered queue at the tail of its priority group, and the queue stays ordered. -/
theorem insertMain_ordered (p : Slot → Fin 4) (e : Request) (he : e.kind = .main) (l : List Request)
    (hl : l.Pairwise (standsBeforeBy p)) : (insertMain p e l).Pairwise (standsBeforeBy p) := by
  induction l with
  | nil => exact List.pairwise_singleton _ e
  | cons r l ih =>
    obtain ⟨hr, hl'⟩ := List.pairwise_cons.mp hl
    unfold insertMain
    split
    next h =>
      obtain ⟨hk, hlt⟩ := h
      refine List.pairwise_cons.mpr ⟨fun x hx => .inr ?_, hl⟩
      obtain rfl | hx := List.mem_cons.mp hx
      · exact ⟨hk, hlt.le⟩
      · obtain h | ⟨h1, h2⟩ := hr x hx
        · rw [hk] at h; cases h
        · exact ⟨h1, hlt.le.trans h2⟩
    next h =>
      refine List.pairwise_cons.mpr ⟨fun x hx => ?_, ih hl'⟩
      obtain rfl | hx := (mem_insertMain p e x l).mp hx
      · cases hk : r.kind with
        | standby => exact .inl hk
        | main => exact .inr ⟨he, not_lt.mp fun hlt => h ⟨hk, hlt⟩⟩
      · exact hr x hx

/-- The queue matches the waiting slots and, where its order is asked for, orders them: the match is kept whether or not
the order is, and O58 asks for the match alone. -/
def QueueInv (ordered : Prop) (s : State) : Prop := QueueMatches s ∧ (ordered → QueueOrdered s)

/-- The same queue where every slot has its state and its priority. -/
theorem QueueInv.same {o : Prop} {s t : State} (h : QueueInv o s) (hq : t.budget.queue = s.budget.queue)
    (hst : ∀ i, t.slotState i = s.slotState i) (hp : t.priorityOf = s.priorityOf) : QueueInv o t := by
  unfold QueueInv QueueMatches QueueOrdered standsBefore at h ⊢
  simpa only [hq, hst, hp] using h

/-- A queue that holds the requests of the other slots and, where the slot waits, one of its own. -/
theorem QueueInv.replace {o : Prop} {s t : State} {i : Slot} (h : QueueInv o s)
    (hst : ∀ j, j ≠ i → t.slotState j = s.slotState j)
    (hord : o → t.budget.queue.Pairwise (standsBeforeBy t.priorityOf))
    (hq : (requestOf (t.slotState i) = none ∧ t.budget.queue.Perm (withoutRequest i s.budget.queue)) ∨
      ∃ e : Request, e.slot = i ∧ requestOf (t.slotState i) = some e.kind ∧
        t.budget.queue.Perm (e :: withoutRequest i s.budget.queue)) : QueueInv o t := by
  obtain ⟨⟨hnodup, hkind, hmem⟩, -⟩ := h
  have hleft : ((withoutRequest i s.budget.queue).map (·.slot)).Nodup := hnodup.sublist (List.filter_sublist.map _)
  have hnot : i ∉ (withoutRequest i s.budget.queue).map (·.slot) := by simp [withoutRequest]
  have hkind' : ∀ e ∈ withoutRequest i s.budget.queue, requestOf (t.slotState e.slot) = some e.kind := by
    intro e he
    simp only [withoutRequest, List.mem_filter, decide_eq_true_eq] at he
    rw [hst _ he.2]
    exact hkind e he.1
  have hmem' (j : Slot) (hj : j ≠ i) (hr : requestOf (t.slotState j) ≠ none) :
      j ∈ (withoutRequest i s.budget.queue).map (·.slot) := by
    rw [hst j hj] at hr
    obtain ⟨e, he, rfl⟩ := List.mem_map.mp (hmem j hr)
    exact List.mem_map.mpr ⟨e, by simpa [withoutRequest] using ⟨he, hj⟩, rfl⟩
  refine ⟨?_, hord⟩
  obtain ⟨hnone, hperm⟩ | ⟨e, rfl, hsome, hperm⟩ := hq
  · refine ⟨(hperm.map _).nodup_iff.mpr hleft, fun e he => hkind' e (hperm.mem_iff.mp he), fun j hj => ?_⟩
    rw [(hperm.map _).mem_iff]
    exact hmem' j (by rintro rfl; exact hj hnone) hj
  · refine ⟨(hperm.map _).nodup_iff.mpr (List.nodup_cons.mpr ⟨hnot, hleft⟩), fun x hx => ?_, fun j hj => ?_⟩
    · obtain rfl | hx := List.mem_cons.mp (hperm.mem_iff.mp hx)
      · exact hsome
      · exact hkind' x hx
    · rw [(hperm.map _).mem_iff, List.map_cons, List.mem_cons]
      by_cases hji : j = e.slot
      · exact .inl hji
      · exact .inr (hmem' j hji hj)

theorem moveTo_priorityOf (i : Slot) (st : SlotState) (s : State) : (moveTo i st s).priorityOf = s.priorityOf := by
  funext j
  simp only [State.priorityOf, moveTo_slot]
  split
  next h => rw [h]
  next => rfl

theorem moveTo_slotState (i j : Slot) (st : SlotState) (s : State) :
    (moveTo i st s).slotState j = if j = i then st else s.slotState j := by
  simp only [State.slotState, moveTo_slot]
  split <;> rfl

theorem withoutRequest_ordered {p : Slot → Fin 4} {q : List Request} (h : q.Pairwise (standsBeforeBy p)) (i : Slot) :
    (withoutRequest i q).Pairwise (standsBeforeBy p) := h.filter _

/-- A move to any state keeps the queue matched and ordered (R14, R51). -/
theorem QueueInv.moveTo {o : Prop} {s : State} (h : QueueInv o s) (i : Slot) (st : SlotState) :
    QueueInv o (moveTo i st s) := by
  have hprio := moveTo_priorityOf i st s
  have hleft (ho : o) := withoutRequest_ordered (p := s.priorityOf) (h.2 ho) i
  have hstate : (Machine.moveTo i st s).slotState i = st := by rw [moveTo_slotState, if_pos rfl]
  have hmain : (s.modAdm i fun a => { a with state := st }).priorityOf = s.priorityOf := by
    funext j
    simp only [State.priorityOf, State.modAdm_eq, State.slot_modSlot]
    split
    next h => rw [h]
    next => rfl
  refine h.replace (i := i) (fun j hj => by rw [moveTo_slotState, if_neg hj]) ?_ ?_
  · intro ho
    rw [hprio, moveTo_queue]
    split
    next => exact insertStandby_ordered _ _ rfl _ (hleft ho)
    next => rw [hmain]; exact insertMain_ordered _ _ rfl _ (hleft ho)
    all_goals exact hleft ho
  · rw [hstate, moveTo_queue]
    split
    next => exact .inr ⟨_, rfl, rfl, insertStandby_perm _ _⟩
    next => exact .inr ⟨_, rfl, rfl, insertMain_perm _ _ _⟩
    all_goals exact .inl ⟨rfl, .refl _⟩

/-! ### Setting a priority (R20, R52) -/

/-- What setting a priority leaves of the slots. -/
theorem setPriority_slot (i j : Slot) (p : Fin 4) (s : State) : (setPriority i p s).slot j =
    if j = i then { s.slot i with adm := { (s.slot i).adm with priority := p } } else s.slot j := by
  unfold setPriority
  split
  next h =>
    split
    next hj => rw [hj, h]; rfl
    next => rfl
  next =>
    dsimp only
    split
    next => rw [State.modAdm_eq, State.slot_modSlot]
    next => rw [setQueue_slot, State.modAdm_eq, State.slot_modSlot]

/-- What setting a priority leaves of the budget. -/
theorem setPriority_budget (i : Slot) (p : Fin 4) (s : State) : (setPriority i p s).budget =
    if p = s.priorityOf i then s.budget
    else { s.budget with
      queue := match s.budget.queue.find? fun e => decide (e.slot = i) && e.kind == .main with
        | none => s.budget.queue
        | some e => insertMain (setPriority i p s).priorityOf e (withoutRequest i s.budget.queue) } := by
  unfold setPriority
  split
  next => rfl
  next =>
    dsimp only [State.modAdm_eq, State.modSlot_budget]
    cases s.budget.queue.find? fun e => decide (e.slot = i) && e.kind == .main <;> rfl

theorem QueueInv.setPriority {o : Prop} {s : State} (h : QueueInv o s) (i : Slot) (p : Fin 4) :
    QueueInv o (setPriority i p s) := by
  have hst (j : Slot) : (Machine.setPriority i p s).slotState j = s.slotState j := setPriority_slotState i j p s
  have hother (j : Slot) (hj : j ≠ i) : (Machine.setPriority i p s).priorityOf j = s.priorityOf j := by
    rw [State.priorityOf, setPriority_slot, if_neg hj]
    rfl
  have hb := setPriority_budget i p s
  have hcongr {a b : Request} (ha : a.slot ≠ i) (hb : b.slot ≠ i) (hab : standsBeforeBy s.priorityOf a b) :
      standsBeforeBy (Machine.setPriority i p s).priorityOf a b := by
    unfold standsBeforeBy
    rwa [hother _ ha, hother _ hb]
  by_cases hp : p = s.priorityOf i
  · rw [Machine.setPriority, if_pos hp]
    exact h
  · rw [if_neg hp] at hb
    cases hf : s.budget.queue.find? fun e => decide (e.slot = i) && e.kind == .main with
    | none =>
      have hq : (Machine.setPriority i p s).budget.queue = s.budget.queue := by rw [hb, hf]
      have hnot : ∀ e ∈ s.budget.queue, e.kind = .main → e.slot ≠ i := by
        intro e he hk hi
        simpa [hk, hi] using List.find?_eq_none.mp hf e he
      refine ⟨?_, ?_⟩
      · obtain ⟨⟨h1, h2, h3⟩, -⟩ := h
        unfold QueueMatches
        simp only [hq, hst]
        exact ⟨h1, h2, h3⟩
      · intro ho
        have hord : s.budget.queue.Pairwise (standsBeforeBy s.priorityOf) := h.2 ho
        show (Machine.setPriority i p s).budget.queue.Pairwise (standsBeforeBy (Machine.setPriority i p s).priorityOf)
        rw [hq]
        refine hord.imp_of_mem fun {a b} ha hb hab => ?_
        cases hk : a.kind with
        | standby => exact .inl hk
        | main =>
          obtain hs | ⟨hbk, -⟩ := id hab
          · rw [hk] at hs; cases hs
          · exact hcongr (hnot a ha hk) (hnot b hb hbk) hab
    | some e =>
      have hq : (Machine.setPriority i p s).budget.queue =
          insertMain (Machine.setPriority i p s).priorityOf e (withoutRequest i s.budget.queue) := by rw [hb, hf]
      have he := List.mem_of_find?_eq_some hf
      obtain ⟨hei, hk⟩ : e.slot = i ∧ e.kind = .main := by simpa using List.find?_some hf
      have hleft (ho : o) :
          (withoutRequest i s.budget.queue).Pairwise (standsBeforeBy (Machine.setPriority i p s).priorityOf) := by
        refine (withoutRequest_ordered (p := s.priorityOf) (h.2 ho) i).imp_of_mem fun {a b} ha hb hab => ?_
        simp only [withoutRequest, List.mem_filter, decide_eq_true_eq] at ha hb
        exact hcongr ha.2 hb.2 hab
      refine h.replace (i := i) (fun j _ => hst j) (fun ho => by rw [hq]; exact insertMain_ordered _ e hk _ (hleft ho))
        (.inr ⟨e, hei, ?_, by rw [hq]; exact insertMain_perm _ _ _⟩)
      rw [hst, ← hei]
      exact h.1.2.1 e he

/-! ### The lanes (R57) -/

theorem countP_update {α : Type} [DecidableEq α] (l : List α) (hl : l.Nodup) (i : α) (hi : i ∈ l) (p q : α → Bool)
    (h : ∀ j, j ≠ i → q j = p j) :
    l.countP q + (if p i = true then 1 else 0) = l.countP p + (if q i = true then 1 else 0) := by
  induction l with
  | nil => cases hi
  | cons a l ih =>
    obtain ⟨ha, hl⟩ := List.nodup_cons.mp hl
    rw [List.countP_cons, List.countP_cons]
    by_cases hai : a = i
    · subst hai
      have hc : l.countP q = l.countP p :=
        List.countP_congr fun j hj => by rw [h j fun hja => ha (hja ▸ hj)]
      omega
    · have hrec := ih hl ((List.mem_cons.mp hi).resolve_left fun hia => hai hia.symm)
      rw [h a hai]
      omega

theorem poweringCount_eq (s : State) : poweringCount s = allSlots.countP fun i => isPowering (s.slot i) := by
  rw [poweringCount, List.countP_eq_length_filter]

/-- The slots in POWERING where one slot changes. -/
theorem poweringCount_change {s t : State} (i : Slot) (h : ∀ j, j ≠ i → t.slotState j = s.slotState j) :
    poweringCount t + (if s.slotState i = .powering then 1 else 0) =
      poweringCount s + (if t.slotState i = .powering then 1 else 0) := by
  have hc := countP_update allSlots (by decide) i (mem_allSlots i) (fun j => isPowering (s.slot j))
    (fun j => isPowering (t.slot j)) fun j hj => by
      have hj' := h j hj
      simp only [State.slotState] at hj'
      simp only [isPowering, hj']
  have hlane (x : State) : (if x.slotState i = .powering then 1 else 0) = if isPowering (x.slot i) = true then 1 else 0 :=
    if_congr (by rw [isPowering, beq_iff_eq, State.slotState]) rfl rfl
  rw [poweringCount_eq, poweringCount_eq, hlane, hlane]
  exact hc

theorem poweringCount_pos {s : State} {i : Slot} (h : s.slotState i = .powering) : 0 < poweringCount s := by
  rw [poweringCount_eq, List.countP_pos_iff]
  exact ⟨i, mem_allSlots i, by simpa [isPowering, State.slotState] using h⟩

/-! ### One slot's record -/

/-- Outputs, holdings and filters of a slot follow its state. -/
def SlotConsistent (r : SlotRecord) : Prop := OutputsFollow r ∧ BudgetFollows r ∧ FiltersFollow r

theorem slotConsistent_core (r : SlotRecord) : SlotConsistent (coreRecord r) ↔ SlotConsistent r := Iff.rfl

/-- The consistent records of O54, with the order of the queue where it is asked for. -/
def PowerInv (ordered : Prop) (s : State) : Prop := PowerConsistent s ∧ (ordered → QueueOrdered s)

theorem PowerInv.queue {o : Prop} {s : State} (h : PowerInv o s) : QueueInv o s := ⟨h.1.1, h.2⟩

theorem PowerInv.slot {o : Prop} {s : State} (h : PowerInv o s) (i : Slot) : SlotConsistent (s.slot i) := h.1.2.2 i

theorem PowerInv.lanes {o : Prop} {s : State} (h : PowerInv o s) : s.budget.lanesInUse = poweringCount s := h.1.2.1

theorem PowerInv.same {o : Prop} {s t : State} (h : PowerInv o s) (hc : SameCore s t) : PowerInv o t := by
  have hst (i : Slot) : t.slotState i = s.slotState i := congrArg (fun r => r.adm.state) (hc.slots i)
  have hprio : t.priorityOf = s.priorityOf := funext fun i => congrArg (fun r => r.adm.priority) (hc.slots i)
  obtain ⟨hm, ho⟩ := h.queue.same (congrArg Budget.queue hc.budget) hst hprio
  refine ⟨⟨hm, ?_, fun i => ?_⟩, ho⟩
  · have hcount := poweringCount_change (s := s) (t := t) 0 fun j _ => hst j
    rw [hst] at hcount
    rw [LanesMatch, hc.budget, h.lanes]
    omega
  · have h1 := (slotConsistent_core _).mpr (h.slot i)
    rw [← hc.slots i] at h1
    exact h1

/-- A change of one slot: its queue entry, its lane and its record in agreement again. -/
theorem PowerInv.change {o : Prop} {s t : State} (h : PowerInv o s) (i : Slot) (hother : ∀ j, j ≠ i → t.slot j = s.slot j)
    (hq : QueueInv o t) (hl : t.budget.lanesInUse + (if s.slotState i = .powering then 1 else 0) =
      s.budget.lanesInUse + (if t.slotState i = .powering then 1 else 0))
    (hi : SlotConsistent (t.slot i)) : PowerInv o t := by
  refine ⟨⟨hq.1, ?_, fun j => ?_⟩, hq.2⟩
  · have hcount := poweringCount_change (s := s) (t := t) i fun j hj => by rw [State.slotState, hother j hj]; rfl
    have hlanes := h.lanes
    rw [LanesMatch]
    omega
  · by_cases hj : j = i
    · exact hj ▸ hi
    · rw [hother j hj]
      exact h.slot j

/-- A change of one slot's record that keeps its state and priority, with the budget as it was. -/
theorem PowerInv.modSlot {o : Prop} {s : State} (h : PowerInv o s) (i : Slot) (f : SlotRecord → SlotRecord)
    (hst : (f (s.slot i)).adm.state = (s.slot i).adm.state)
    (hp : (f (s.slot i)).adm.priority = (s.slot i).adm.priority) (hi : SlotConsistent (f (s.slot i))) :
    PowerInv o (s.modSlot i f) := by
  have hstate (j : Slot) : (s.modSlot i f).slotState j = s.slotState j := by
    rw [State.slotState, State.slot_modSlot]
    split
    next hj => rw [hst, hj]; rfl
    next => rfl
  refine h.change i (fun j hj => State.slot_modSlot_ne s f hj) (h.queue.same rfl hstate (funext fun j => ?_)) ?_ ?_
  · rw [State.priorityOf, State.slot_modSlot]
    split
    next hj => rw [hp, hj]; rfl
    next => rfl
  · rw [hstate]
    rfl
  · rw [State.slot_modSlot_same]
    exact hi

end Sys2Proof.Machine
end

section
/-! SUPPORT. The record of a slot after each slot move, and the power invariants through every step (O54). -/

namespace Sys2Proof.Machine

/-! ### The record of a slot after a move -/

@[simp] theorem stopped_isRunning : Timer.stopped.isRunning = false := rfl
@[simp] theorem running_isRunning (n : Nat) : (Timer.running n).isRunning = true := rfl

theorem filterWindow_isRunning (filtered level : Bool) (length : Nat) :
    (filterWindow filtered level length).isRunning = true ↔ level ≠ filtered := by
  unfold filterWindow
  split
  next h => simp [h]
  next h => simpa [Timer.isRunning] using h

/-- What is to be shown of a record, with the outputs that its state gives written out. -/
theorem slotConsistent_of_state {r : SlotRecord} {st : SlotState} (hst : r.adm.state = st) :
    SlotConsistent r ↔
      (r.rail.standbyRail = st.standbyHeld ∧ r.rail.mainRail = st.mainPowered ∧
        r.rail.resetAsserted = !st.released ∧ (r.rail.stage ≠ .none ↔ st = .powering) ∧
        (r.rail.reason ≠ none ↔ st = .shuttingDown)) ∧
      ((r.bud.standbyW ≠ 0 ↔ st.standbyHeld = true) ∧
        (st.mainPowered = false → r.bud.mainW = 0 ∧ r.bud.grantW = 0) ∧ (st = .capped → r.bud.capped = true) ∧
        (r.bud.capped = true → st = .capped ∨ st = .shuttingDown) ∧
        (r.bud.capAck.isRunning = true → r.bud.capped = true)) ∧
      (r.adm.filtered = true ↔ st ≠ .empty) ∧ r.inv.present = r.adm.filtered ∧
        (r.adm.window.isRunning = true ↔ r.adm.presenceLine ≠ r.adm.filtered) ∧
        (r.rail.powerGoodWindow.isRunning = true ↔ r.rail.powerGoodLine ≠ r.rail.powerGood) := by
  subst hst
  exact Iff.rfl

/-- The facts that a state gives of itself. -/
theorem mainPowered_cases {st : SlotState} (h : st.mainPowered = true) :
    st = .powering ∨ st = .online ∨ st = .capped ∨ st = .shuttingDown := by
  cases st <;> simp_all [SlotState.mainPowered]

theorem standbyOnly_facts {st : SlotState} (h : st.standbyOnly = true) :
    st.standbyHeld = true ∧ st.mainPowered = false ∧ st.released = false ∧ st ≠ .powering ∧ st ≠ .shuttingDown ∧
      st ≠ .capped ∧ st ≠ .empty := by
  cases st <;> simp_all [SlotState.standbyOnly, SlotState.standbyHeld, SlotState.mainPowered, SlotState.released]

theorem SlotConsistent.presenceLine {r : SlotRecord} (h : SlotConsistent r) (level : Bool) (length : Nat) :
    SlotConsistent { r with adm := movePresence level length r.adm } := by
  obtain ⟨ho, hb, hf1, hf2, -, hf4⟩ := h
  exact ⟨ho, hb, hf1, hf2, filterWindow_isRunning _ _ _, hf4⟩

theorem SlotConsistent.powerGoodLine {r : SlotRecord} (h : SlotConsistent r) (level : Bool) (length : Nat) :
    SlotConsistent { r with rail := movePowerGood level length r.rail } := by
  obtain ⟨ho, hb, hf1, hf2, hf3, -⟩ := h
  exact ⟨ho, hb, hf1, hf2, hf3, filterWindow_isRunning _ _ _⟩

theorem SlotConsistent.powerGood {r : SlotRecord} (h : SlotConsistent r) :
    SlotConsistent { r with rail := takePowerGood r.rail } := by
  obtain ⟨ho, hb, hf1, hf2, hf3, -⟩ := h
  exact ⟨ho, hb, hf1, hf2, hf3, by simp [takePowerGood]⟩

theorem SlotConsistent.ackStopped {r : SlotRecord} (h : SlotConsistent r) :
    SlotConsistent { r with bud := { r.bud with capAck := .stopped } } := by
  obtain ⟨ho, ⟨hb1, hb2, hb3, hb4, -⟩, hf⟩ := h
  exact ⟨ho, ⟨hb1, hb2, hb3, hb4, fun h => by cases h⟩, hf⟩

theorem SlotConsistent.leaveRailUp {r : SlotRecord} (h : SlotConsistent r) (hst : r.adm.state = .powering) (hold : Nat) :
    SlotConsistent { r with rail := leaveRailUp hold r.rail } := by
  obtain ⟨⟨ho1, ho2, ho3, -, ho5⟩, hb, hf⟩ := h
  exact ⟨⟨ho1, ho2, ho3, by simpa [Machine.leaveRailUp] using hst, ho5⟩, hb, hf⟩

/-- A filtered level taken where it is no change of the slot's state. -/
theorem SlotConsistent.filtered {r : SlotRecord} (h : SlotConsistent r)
    (hne : r.adm.presenceLine ≠ r.adm.filtered → (r.adm.presenceLine = true ↔ r.adm.state ≠ .empty)) :
    SlotConsistent { r with adm := takePresence r.adm } := by
  obtain ⟨ho, hb, hf1, hf2, -, hf4⟩ := h
  have heq : r.adm.presenceLine = r.adm.filtered := by
    by_contra hn
    exact hn (Bool.eq_iff_iff.mpr ((hne hn).trans hf1.symm))
  refine ⟨ho, hb, ?_, ?_, ?_, hf4⟩
  · rwa [takePresence, heq]
  · rwa [takePresence, heq]
  · simp [takePresence]

/-- The record of a slot after its insertion (R4, R22). -/
def insertedRecord (r : SlotRecord) : SlotRecord :=
  { r with
    adm := { takePresence r.adm with state := .standbyWait }
    inv := { r.inv with present := true, announced := false, insertions := min (r.inv.insertions + 1) 65535 } }

theorem SlotConsistent.inserted {r : SlotRecord} (h : SlotConsistent r) (hline : r.adm.presenceLine = true)
    (hst : r.adm.state = .empty) : SlotConsistent (insertedRecord r) := by
  obtain ⟨ho, hb, hf⟩ := (slotConsistent_of_state hst).mp h
  rw [slotConsistent_of_state (st := .standbyWait) rfl]
  refine ⟨?_, ?_, ?_⟩
  · simpa [insertedRecord, SlotState.standbyHeld, SlotState.mainPowered, SlotState.released] using ho
  · simpa [insertedRecord, SlotState.standbyHeld, SlotState.mainPowered] using hb
  · simpa [insertedRecord, takePresence, hline] using hf.2.2.2

/-- The record of a slot after its removal (R16, R27, R94, R156). -/
def removedRecord (r : SlotRecord) : SlotRecord :=
  { adm := { takePresence r.adm with state := .empty, announceWindow := .stopped }
    inv := { r.inv with present := false, addresses := r.inv.addresses.map releaseAddress }
    bud := { releaseMain r.bud with standbyW := 0 }
    rail := { railsOff r.rail with standbyRail := false }
    tel := clearTelemetry r.tel
    que := { r.que with
      egress := [], control := [], backpressure := false, refresh := .stopped, pendingPause := none, marker := none } }

theorem SlotConsistent.removed {r : SlotRecord} (h : SlotConsistent r) (hline : r.adm.presenceLine = false) :
    SlotConsistent (removedRecord r) := by
  obtain ⟨-, -, -, -, -, hf4⟩ := h
  rw [slotConsistent_of_state (st := .empty) rfl]
  refine ⟨?_, ?_, ?_⟩
  · simp [removedRecord, railsOff, SlotState.standbyHeld, SlotState.mainPowered, SlotState.released]
  · simp [removedRecord, releaseMain, SlotState.standbyHeld, SlotState.mainPowered]
  · simpa [removedRecord, railsOff, takePresence, hline] using hf4

theorem SlotConsistent.unpowered {r : SlotRecord} (h : SlotConsistent r) (hfrom : r.adm.state.standbyOnly = true)
    {st : SlotState} (hto : st.standbyOnly = true) : SlotConsistent { r with adm := { r.adm with state := st } } := by
  obtain ⟨h1, h2, h3, h4, h5, h6, h7⟩ := standbyOnly_facts hfrom
  obtain ⟨g1, g2, g3, g4, g5, g6, g7⟩ := standbyOnly_facts hto
  obtain ⟨ho, hb, hf⟩ := h
  rw [slotConsistent_of_state (st := st) rfl]
  simp only [OutputsFollow, BudgetFollows, FiltersFollow, ne_eq, h1, h2, h3, h4, h5, h6, h7] at ho hb hf
  simp only [ne_eq, g1, g2, g3, g4, g5, g6, g7]
  exact ⟨ho, hb, hf⟩

/-- A slot that holds neither main power nor a capped flag after a main-off (R48, R75, R76). -/
theorem SlotConsistent.off {r : SlotRecord} (h : SlotConsistent r) (hfrom : r.adm.state.mainPowered = true)
    {st : SlotState} (hto : st.standbyOnly = true) : SlotConsistent (offRecord st r) := by
  obtain ⟨g1, g2, g3, g4, g5, g6, g7⟩ := standbyOnly_facts hto
  have hheld : r.adm.state.standbyHeld = true ∧ r.adm.state ≠ .empty := by
    obtain h | h | h | h := mainPowered_cases hfrom <;> rw [h] <;> exact ⟨rfl, by decide⟩
  obtain ⟨⟨ho1, -⟩, ⟨hb1, -⟩, hf1, hf⟩ := h
  rw [slotConsistent_of_state (st := st) rfl]
  simp only [ne_eq, g1, g2, g3, g4, g5, g6, g7]
  rw [hheld.1] at ho1 hb1
  refine ⟨⟨ho1, rfl, rfl, ?_, ?_⟩, ⟨by simpa [offRecord, releaseMain] using hb1, fun _ => ⟨rfl, rfl⟩, ?_, ?_, ?_⟩, ?_, hf⟩
  · simp [offRecord, railsOff]
  · simp [offRecord, railsOff]
  · simp
  · simp [offRecord, releaseMain]
  · simp [offRecord, releaseMain]
  · simpa [hheld.2, offRecord] using hf1

/-- The record of a slot that goes ONLINE (R79). -/
theorem SlotConsistent.online {r : SlotRecord} (h : SlotConsistent r) (hst : r.adm.state = .powering) :
    SlotConsistent { r with
      adm := { r.adm with state := .online }
      rail := { r.rail with resetAsserted := false, stage := .none, resetHold := .stopped } } := by
  obtain ⟨⟨ho1, ho2, -, -, ho5⟩, hb, hf⟩ := (slotConsistent_of_state hst).mp h
  rw [slotConsistent_of_state (st := .online) rfl]
  refine ⟨⟨ho1, ho2, rfl, by simp, by simpa using ho5⟩, ?_, by simpa using hf⟩
  simpa [SlotState.standbyHeld, SlotState.mainPowered] using hb

/-- The record of a slot whose graceful shutdown begins (R85). -/
theorem SlotConsistent.shutdown {r : SlotRecord} (h : SlotConsistent r) (hst : r.adm.state.running = true)
    (form : ShutdownForm) (length : Nat) (q : QueuePart) :
    SlotConsistent { r with
      adm := { r.adm with state := .shuttingDown }
      rail := { r.rail with reason := some form, shutdown := .running length }
      que := q } := by
  have hst : r.adm.state = .online ∨ r.adm.state = .capped := by
    generalize r.adm.state = st at hst
    cases st <;> simp_all [SlotState.running]
  rw [slotConsistent_of_state (st := .shuttingDown) rfl]
  obtain hst | hst := hst
  all_goals
    obtain ⟨⟨ho1, ho2, ho3, ho4, -⟩, ⟨hb1, -, -, -, hb5⟩, hf⟩ := (slotConsistent_of_state hst).mp h
    refine ⟨⟨ho1, ho2, ho3, by simpa using ho4, by simp⟩, ⟨hb1, ?_, ?_, ?_, hb5⟩, by simpa using hf⟩
    all_goals simp [SlotState.mainPowered]

theorem capCandidate_cases {r : SlotRecord} (h : capCandidate r = true) :
    (r.adm.state = .online ∨ (r.adm.state = .shuttingDown ∧ r.bud.capped = false)) ∧
      effectiveFloor r < r.bud.mainW := by
  simpa [capCandidate] using h

/-- A cap or uncap leaves the outputs of a slot in ONLINE, CAPPED or SHUTTING_DOWN as they are, and its flag follows its
new state (R59, R65). -/
theorem SlotConsistent.recapped {r : SlotRecord} (h : SlotConsistent r) {st : SlotState} {b : BudgetPart}
    (hst : (r.adm.state = .online ∧ st = .capped) ∨ (r.adm.state = .capped ∧ st = .online) ∨
      (r.adm.state = .shuttingDown ∧ st = .shuttingDown))
    (hw : b.standbyW = r.bud.standbyW) (hcap : b.capped = true → st = .capped ∨ st = .shuttingDown)
    (hcapped : st = .capped → b.capped = true) (hack : b.capAck.isRunning = true → b.capped = true) (q : QueuePart) :
    SlotConsistent { r with adm := { r.adm with state := st }, bud := b, que := q } := by
  obtain ⟨hst, rfl⟩ | ⟨hst, rfl⟩ | ⟨hst, rfl⟩ := hst
  all_goals
    obtain ⟨⟨ho1, ho2, ho3, ho4, ho5⟩, ⟨hb1, -⟩, hf⟩ := (slotConsistent_of_state hst).mp h
    rw [slotConsistent_of_state (st := _) rfl]
    refine ⟨⟨ho1, ho2, ho3, by simpa using ho4, by simpa using ho5⟩, ⟨?_, ?_, hcapped, hcap, hack⟩, by simpa using hf⟩
    · rw [hw]; exact hb1
    · simp [SlotState.mainPowered]

/-- The record of a slot after a standby cut (R15, R27, R62, R94, R156). -/
def cutRecord (r : SlotRecord) : SlotRecord :=
  { adm := { r.adm with state := .standbyWait, announceWindow := .stopped }
    inv := { r.inv with addresses := r.inv.addresses.map releaseAddress }
    bud := { r.bud with standbyW := 0 }
    rail := { r.rail with standbyRail := false }
    tel := clearTelemetry r.tel
    que := { r.que with
      egress := [], control := [], backpressure := false, refresh := .stopped, pendingPause := none, marker := none } }

theorem SlotConsistent.cut {r : SlotRecord} (h : SlotConsistent r) (hst : r.adm.state.standbyOnly = true) :
    SlotConsistent (cutRecord r) := by
  obtain ⟨-, h2, h3, h4, h5, h6, h7⟩ := standbyOnly_facts hst
  obtain ⟨⟨-, ho⟩, ⟨-, hb⟩, hf⟩ := h
  simp only [FiltersFollow, ne_eq, h2, h3, h4, h5, h6, h7] at ho hb hf
  rw [slotConsistent_of_state (st := .standbyWait) rfl]
  refine ⟨⟨rfl, by simpa [SlotState.mainPowered, SlotState.released, cutRecord] using ho⟩, ⟨?_, ?_⟩, ?_⟩
  · simp [cutRecord, SlotState.standbyHeld]
  · simpa [SlotState.mainPowered, cutRecord] using hb
  · simpa [cutRecord] using hf

/-- The record of a slot after a standby grant (R5, R53). -/
theorem SlotConsistent.standbyGranted {r : SlotRecord} (h : SlotConsistent r) (hst : r.adm.state = .standbyWait)
    {watts : Nat} (hw : 1 ≤ watts) (window : Timer) :
    SlotConsistent { r with
      adm := { r.adm with state := .announceWait, announceWindow := window }
      bud := { r.bud with standbyW := watts }
      rail := { r.rail with standbyRail := true } } := by
  obtain ⟨⟨-, ho⟩, ⟨-, hb⟩, hf⟩ := (slotConsistent_of_state hst).mp h
  rw [slotConsistent_of_state (st := .announceWait) rfl]
  refine ⟨⟨rfl, by simpa [SlotState.mainPowered, SlotState.released] using ho⟩, ⟨?_, ?_⟩, by simpa using hf⟩
  · simp only [SlotState.standbyHeld]
    simp
    omega
  · simpa [SlotState.mainPowered] using hb

theorem startSequence_keeps (timeout hold : Nat) (r : RailPart) :
    (startSequence timeout hold r).standbyRail = r.standbyRail ∧ (startSequence timeout hold r).mainRail = true ∧
      (startSequence timeout hold r).resetAsserted = true ∧ (startSequence timeout hold r).stage ≠ .none ∧
      (startSequence timeout hold r).reason = r.reason ∧
      (startSequence timeout hold r).powerGoodWindow = r.powerGoodWindow ∧
      (startSequence timeout hold r).powerGoodLine = r.powerGoodLine ∧
      (startSequence timeout hold r).powerGood = r.powerGood := by
  unfold startSequence leaveRailUp
  dsimp only
  split <;> simp

/-- The record of a slot after a main grant (R55, R78). -/
theorem SlotConsistent.mainGranted {r : SlotRecord} (h : SlotConsistent r) (hst : r.adm.state = .powerWait)
    (watts timeout hold : Nat) :
    SlotConsistent { r with
      adm := { r.adm with state := .powering }
      bud := { r.bud with mainW := watts, grantW := watts }
      rail := startSequence timeout hold r.rail } := by
  obtain ⟨⟨ho1, -, -, -, ho5⟩, ⟨hb1, -, hb3, hb4, hb5⟩, hf⟩ := (slotConsistent_of_state hst).mp h
  obtain ⟨g1, g2, g3, g4, g5, g6, g7, g8⟩ := startSequence_keeps timeout hold r.rail
  rw [slotConsistent_of_state (st := .powering) rfl]
  simp only [g1, g2, g3, g5, g6, g7, g8]
  exact ⟨⟨ho1, rfl, rfl, by simpa using g4, by simpa using ho5⟩,
    ⟨hb1, by simp [SlotState.mainPowered], by simp, by simpa using hb4, hb5⟩, by simpa using hf⟩

end Sys2Proof.Machine
end

section
/-! SUPPORT. What each slot move makes of its slot and leaves of the others, and the power invariants (O54). -/

namespace Sys2Proof.Machine

/-! ### The slots after a move -/

theorem purgeStations_slot (i j : Slot) (s : State) : (purgeStations i s).slot j =
    if j = i then { s.slot i with inv := { (s.slot i).inv with addresses := (s.slot i).inv.addresses.map releaseAddress } }
    else s.slot j := by
  rw [purgeStations, State.modInv_eq, State.slot_modSlot]
  rfl

theorem flushSlot_slot (i j : Slot) (s : State) : (flushSlot i s).slot j =
    if j = i then { s.slot i with que := { (s.slot i).que with
      egress := [], control := [], backpressure := false, refresh := .stopped, pendingPause := none, marker := none } }
    else s.slot j := by
  simp only [flushSlot, flushEgress, State.modQue_eq, State.slot_modSlot]
  split
  next => simp only [if_true]; rfl
  next => rfl

/-- A change of the records of two states that agree on the other slots. -/
theorem slot_ite_ite {i j : Slot} (a b c : SlotRecord) : (if j = i then a else if j = i then b else c) =
    if j = i then a else c := by split <;> rfl

theorem insertion_slot (i j : Slot) (s : State) : (insertion i (s.modAdm i takePresence)).slot j =
    if j = i then insertedRecord (s.slot i) else s.slot j := by
  simp only [insertion, raiseSlot_slot, State.modInv_eq, State.slot_modSlot, moveTo_slot, if_true, State.modAdm_eq,
    slot_ite_ite]
  rfl

theorem removal_slot (i j : Slot) (s : State) : (removal i (s.modAdm i takePresence)).slot j =
    if j = i then removedRecord (s.slot i) else s.slot j := by
  simp only [removal, raiseSlot_slot, rezoneSlot_slot, moveTo_slot, flushSlot_slot, purgeStations_slot,
    State.modAdm_eq, State.slot_modSlot, freeLane_slot, if_true, slot_ite_ite]
  rfl

theorem standbyCut_slot (i j : Slot) (s : State) : (standbyCut i s).slot j =
    if j = i then cutRecord (s.slot i) else s.slot j := by
  simp only [standbyCut, raiseChassis_slot, moveTo_slot, flushSlot_slot, purgeStations_slot, State.slot_modSlot, if_true,
    slot_ite_ite]
  rfl

/-- The record of a slot after a cap (R59). -/
def cappedRecord (s : State) (i : Slot) : SlotRecord :=
  let r := s.slot i
  { r with
    adm := { r.adm with state := if r.adm.state = .online then .capped else r.adm.state }
    bud := { r.bud with
      mainW := effectiveFloor r, capped := true, capSeq := r.bud.capSeq + 1,
      capAck := .running (s.timing.capAckS * 1000) }
    que := offerControlPart (capFrame s (r.bud.capSeq + 1) (effectiveFloor r)) r.que }

theorem offerControl_slot (i j : Slot) (f : ControlFrame) (s : State) : (offerControl i f s).slot j =
    if j = i then { s.slot i with que := offerControlPart f (s.slot i).que } else s.slot j := by
  rw [offerControl, State.modQue_eq, State.slot_modSlot]

theorem capSlot_slot (i j : Slot) (s : State) : (capSlot i s).slot j =
    if j = i then cappedRecord s i else s.slot j := by
  unfold capSlot cappedRecord
  dsimp only
  rw [raiseChassis_slot]
  split
  next h =>
    simp only [moveTo_slot, offerControl_slot, State.modBud_eq, State.slot_modSlot, if_true, slot_ite_ite]
  next h =>
    simp only [offerControl_slot, State.modBud_eq, State.slot_modSlot, if_true, slot_ite_ite]

/-- The record of a slot after an uncap (R65). -/
def uncappedRecord (s : State) (i : Slot) : SlotRecord :=
  let r := s.slot i
  { r with
    adm := { r.adm with state := if r.adm.state = .capped then .online else r.adm.state }
    bud := { r.bud with mainW := r.bud.grantW, capped := false, capAck := .stopped }
    que := offerControlPart (uncapFrame s r.bud.capSeq r.bud.grantW) r.que }

theorem uncapSlot_slot (i j : Slot) (s : State) : (uncapSlot i s).slot j =
    if j = i then uncappedRecord s i else s.slot j := by
  unfold uncapSlot uncappedRecord
  dsimp only
  split
  next h =>
    simp only [moveTo_slot, offerControl_slot, State.modBud_eq, State.slot_modSlot, if_true, slot_ite_ite]
  next h =>
    simp only [offerControl_slot, State.modBud_eq, State.slot_modSlot, if_true, slot_ite_ite]

theorem grantStandby_slot (i j : Slot) (s : State) : (grantStandby i s).slot j =
    if j = i then
      { s.slot i with
        adm := { (s.slot i).adm with
          state := .announceWait, announceWindow := .running (s.timing.announceWindowS * 1000) }
        bud := { (s.slot i).bud with standbyW := s.budget.allowance }
        rail := { (s.slot i).rail with standbyRail := true } }
    else s.slot j := by
  simp only [grantStandby, State.slot_modSlot, moveTo_slot, if_true, slot_ite_ite]

theorem grantMain_slot (i j : Slot) (s : State) : (grantMain i s).slot j =
    if j = i then
      { s.slot i with
        adm := { (s.slot i).adm with state := .powering }
        bud := { (s.slot i).bud with
          mainW := effectiveRequested (s.slot i), grantW := effectiveRequested (s.slot i) }
        rail := startSequence s.timing.powerGoodTimeout s.timing.resetHold (s.slot i).rail }
    else s.slot j := by
  have h (t : State) (b : Budget) : ({ t with budget := b } : State).slot j = t.slot j := rfl
  simp only [grantMain, rezoneSlot_slot, h, State.slot_modSlot, moveTo_slot, if_true, slot_ite_ite]

theorem beginShutdown_slot (i j : Slot) (form : ShutdownForm) (s : State) : (beginShutdown i form s).slot j =
    if j = i then
      { s.slot i with
        adm := { (s.slot i).adm with state := .shuttingDown }
        rail := { (s.slot i).rail with reason := some form, shutdown := .running (s.timing.shutdownS * 1000) }
        que := offerControlPart (shutdownReqFrame s form s.timing.shutdownS) (s.slot i).que }
    else s.slot j := by
  simp only [beginShutdown, moveTo_slot, offerControl_slot, State.modRail_eq, State.slot_modSlot, if_true, slot_ite_ite]

theorem online_slot (i j : Slot) (s : State) :
    ((moveTo i .online (freeLane i s)).modRail i fun r =>
      { r with resetAsserted := false, stage := .none, resetHold := .stopped }).slot j =
    if j = i then
      { s.slot i with
        adm := { (s.slot i).adm with state := .online }
        rail := { (s.slot i).rail with resetAsserted := false, stage := .none, resetHold := .stopped } }
    else s.slot j := by
  simp only [State.modRail_eq, State.slot_modSlot, moveTo_slot, freeLane_slot, if_true, slot_ite_ite]

theorem refreshStations_slot (i j : Slot) (l : List Station) (s : State) : (refreshStations i l s).slot j =
    if j = i then { s.slot i with inv := { (s.slot i).inv with
      addresses := (firstAppearances l).map (judgeAddress s (s.stations.filter fun e => decide (e.owner ≠ i)))
      conflict := ((firstAppearances l).map (judgeAddress s (s.stations.filter fun e => decide (e.owner ≠ i)))).any
        fun a => a.status == .conflict } }
    else s.slot j := by
  unfold refreshStations
  dsimp only
  split
  next => rw [raiseSlot_slot, State.modInv_eq, State.slot_modSlot]; rfl
  next => rw [State.modInv_eq, State.slot_modSlot]; rfl

/-! ### The budget after a move -/

theorem raise_budget (a : Alert) (s : State) : (raise a s).budget = s.budget := by
  obtain ⟨al, h⟩ := raise_frame a s
  rw [h]

theorem freeLane_lanes (i : Slot) (s : State) : (freeLane i s).budget.lanesInUse =
    if s.slotState i = .powering then s.budget.lanesInUse - 1 else s.budget.lanesInUse := by
  unfold freeLane
  split <;> rfl

theorem freeLane_queue (i : Slot) (s : State) : (freeLane i s).budget.queue = s.budget.queue := by
  unfold freeLane
  split <;> rfl

theorem moveTo_laneCount (i : Slot) (st : SlotState) (s : State) :
    (moveTo i st s).budget.laneCount = s.budget.laneCount := by
  obtain ⟨q, h⟩ := moveTo_frame i st s
  rw [h]
  rfl

theorem freeLane_laneCount (i : Slot) (s : State) : (freeLane i s).budget.laneCount = s.budget.laneCount := by
  unfold freeLane
  split <;> rfl

/-- The lanes of a move that frees the lane of its slot: one fewer where the slot was in POWERING. -/
structure LaneFreed (i : Slot) (s t : State) : Prop where
  inUse : t.budget.lanesInUse =
    if s.slotState i = .powering then s.budget.lanesInUse - 1 else s.budget.lanesInUse
  count : t.budget.laneCount = s.budget.laneCount

/-- The lanes of a move that leaves them. -/
structure LanesKept (s t : State) : Prop where
  inUse : t.budget.lanesInUse = s.budget.lanesInUse
  count : t.budget.laneCount = s.budget.laneCount

theorem LanesKept.of_budget {s t : State} (h : t.budget = s.budget) : LanesKept s t := ⟨by rw [h], by rw [h]⟩

theorem LanesKept.trans {s t u : State} (h : LanesKept s t) (h' : LanesKept t u) : LanesKept s u :=
  ⟨h'.inUse.trans h.inUse, h'.count.trans h.count⟩

theorem LaneFreed.trans {i : Slot} {s t u : State} (h : LaneFreed i s t) (h' : LanesKept t u) : LaneFreed i s u :=
  ⟨h'.inUse.trans h.inUse, h'.count.trans h.count⟩

theorem moveTo_lanesKept (i : Slot) (st : SlotState) (s : State) : LanesKept s (moveTo i st s) :=
  ⟨moveTo_lanes i st s, moveTo_laneCount i st s⟩

theorem freeLane_freed (i : Slot) (s : State) : LaneFreed i s (freeLane i s) :=
  ⟨freeLane_lanes i s, freeLane_laneCount i s⟩

theorem mainOff_lanesFreed (i : Slot) (st : SlotState) (s : State) : LaneFreed i s (mainOff i st s) := by
  refine ⟨mainOff_lanes i st s, ?_⟩
  rw [mainOff, rezoneSlot_budget, moveTo_laneCount, State.modSlot_budget, freeLane_laneCount]

theorem removal_freed (i : Slot) (s : State) : LaneFreed i s (removal i (s.modAdm i takePresence)) := by
  have h1 : LaneFreed i s (freeLane i (s.modAdm i takePresence)) := by
    have h := freeLane_freed i (s.modAdm i takePresence)
    refine ⟨?_, h.count⟩
    have hst : (s.modAdm i takePresence).slotState i = s.slotState i := by
      rw [State.slotState, State.modAdm_eq, State.slot_modSlot_same]
      rfl
    rw [h.inUse, hst]
    rfl
  refine h1.trans (LanesKept.trans ?_ (.of_budget (raise_budget _ _)))
  refine .trans ?_ (.of_budget (rezoneSlot_budget _ _))
  refine .trans ?_ (moveTo_lanesKept _ _ _)
  exact .of_budget rfl

theorem online_freed (i : Slot) (s : State) : LaneFreed i s
    ((moveTo i .online (freeLane i s)).modRail i fun r =>
      { r with resetAsserted := false, stage := .none, resetHold := .stopped }) :=
  (freeLane_freed i s).trans ((moveTo_lanesKept i .online _).trans (.of_budget rfl))

theorem insertion_lanesKept (i : Slot) (s : State) : LanesKept s (insertion i (s.modAdm i takePresence)) := by
  refine .trans ?_ (.of_budget (raise_budget _ _))
  have h : LanesKept s (s.modAdm i takePresence) := .of_budget rfl
  have h' := h.trans (moveTo_lanesKept i .standbyWait _)
  exact ⟨h'.inUse, h'.count⟩

theorem refreshStations_budget (i : Slot) (l : List Station) (s : State) :
    (refreshStations i l s).budget = s.budget := by
  unfold refreshStations
  dsimp only
  split
  next => exact raise_budget _ _
  next => rfl

theorem setPriority_lanesKept (i : Slot) (p : Fin 4) (s : State) : LanesKept s (setPriority i p s) := by
  constructor <;> (rw [setPriority_budget]; split <;> rfl)

theorem beginShutdown_lanesKept (i : Slot) (form : ShutdownForm) (s : State) : LanesKept s (beginShutdown i form s) := by
  unfold beginShutdown
  refine .trans ?_ (moveTo_lanesKept _ _ _)
  exact .of_budget rfl

theorem capSlot_lanesKept (i : Slot) (s : State) : LanesKept s (capSlot i s) := by
  unfold capSlot
  dsimp only
  refine .trans ?_ (.of_budget (raise_budget _ _))
  split
  next =>
    refine .trans ?_ (moveTo_lanesKept _ _ _)
    exact .of_budget rfl
  next => exact .of_budget rfl

theorem uncapSlot_lanesKept (i : Slot) (s : State) : LanesKept s (uncapSlot i s) := by
  unfold uncapSlot
  dsimp only
  split
  next =>
    refine .trans ?_ (moveTo_lanesKept _ _ _)
    exact .of_budget rfl
  next => exact .of_budget rfl

theorem standbyCut_lanesKept (i : Slot) (s : State) : LanesKept s (standbyCut i s) := by
  refine .trans ?_ (.of_budget (raise_budget _ _))
  refine .trans ?_ (moveTo_lanesKept _ _ _)
  exact .of_budget rfl

theorem grantStandby_lanesKept (i : Slot) (s : State) : LanesKept s (grantStandby i s) :=
  (moveTo_lanesKept i .announceWait s).trans (.of_budget rfl)

theorem grantMain_lanes (i : Slot) (s : State) : (grantMain i s).budget.lanesInUse = s.budget.lanesInUse + 1 ∧
    (grantMain i s).budget.laneCount = s.budget.laneCount := by
  rw [grantMain, rezoneSlot_budget]
  exact ⟨congrArg (· + 1) (moveTo_lanes i .powering s), moveTo_laneCount i .powering s⟩

/-- Lanes in use stay within the lane count (R47, R57). -/
theorem lanesBounded_kept : KeptByMoves LanesBounded where
  reset straps s := Nat.zero_le _
  move {s t} hs h := by
    have hkept (h : LanesKept s t) : LanesBounded t := by rw [LanesBounded, h.inUse, h.count]; exact hs
    have hfreed {i : Slot} (h : LaneFreed i s t) : LanesBounded t := by
      rw [LanesBounded, h.inUse, h.count]
      rw [LanesBounded] at hs
      split <;> omega
    cases h with
    | same t h => exact hkept (.of_budget h.budget)
    | insert i _ _ => exact hkept (insertion_lanesKept i s)
    | remove i _ => exact hfreed (removal_freed i s)
    | unpowered i st _ _ _ => exact hkept (moveTo_lanesKept i st s)
    | refresh i l _ _ => exact hkept (.of_budget (refreshStations_budget i l s))
    | mainOff i st _ _ => exact hfreed (mainOff_lanesFreed i st s)
    | online i _ => exact hfreed (online_freed i s)
    | priority i p => exact hkept (setPriority_lanesKept i p s)
    | budgetSettings a m l hl =>
      obtain rfl | h0 := hl
      · exact hs
      · show s.budget.lanesInUse ≤ l
        omega
    | shutdown i form _ => exact hkept (beginShutdown_lanesKept i form s)
    | cap i _ => exact hkept (capSlot_lanesKept i s)
    | uncap i _ => exact hkept (uncapSlot_lanesKept i s)
    | cut i _ => exact hkept (standbyCut_lanesKept i s)
    | grantStandby e rest _ _ _ => exact hkept (grantStandby_lanesKept e.slot s)
    | grantMain e rest _ _ hm =>
      obtain ⟨h1, h2⟩ := grantMain_lanes e.slot s
      simp only [mainServed, Bool.and_eq_true, decide_eq_true_eq] at hm
      obtain ⟨⟨-, hlane⟩, -⟩ := hm
      rw [LanesBounded, h1, h2]
      exact hlane
    | short e rest _ => exact hkept ⟨rfl, rfl⟩
    | _ => exact hkept (.of_budget rfl)

end Sys2Proof.Machine
end

section
/-! SUPPORT. The power invariants through every step (O54). -/

namespace Sys2Proof.Machine

/-- Two states with one queue, in which every slot has the same state and priority. -/
structure SameQueue (s t : State) : Prop where
  queue : t.budget.queue = s.budget.queue
  state : ∀ i, t.slotState i = s.slotState i
  priority : ∀ i, t.priorityOf i = s.priorityOf i

theorem SameQueue.trans {s t u : State} (h : SameQueue s t) (h' : SameQueue t u) : SameQueue s u :=
  ⟨h'.queue.trans h.queue, fun i => (h'.state i).trans (h.state i), fun i => (h'.priority i).trans (h.priority i)⟩

/-- A state with the queue and the slots of another. -/
theorem SameQueue.of_slots {s t : State} (hq : t.budget.queue = s.budget.queue) (h : t.slots = s.slots) :
    SameQueue s t where
  queue := hq
  state i := by rw [State.slotState, State.slot, h]; rfl
  priority i := by rw [State.priorityOf, State.slot, h]; rfl

/-- A change of one slot's record that leaves its state and priority. -/
theorem SameQueue.of_slot {s t : State} {i : Slot} {r : SlotRecord} (hq : t.budget.queue = s.budget.queue)
    (hslot : ∀ j, t.slot j = if j = i then r else s.slot j) (hst : r.adm.state = s.slotState i)
    (hp : r.adm.priority = s.priorityOf i) : SameQueue s t where
  queue := hq
  state j := by
    rw [State.slotState, hslot]
    split
    next h => rw [hst, h]
    next => rfl
  priority j := by
    rw [State.priorityOf, hslot]
    split
    next h => rw [hp, h]
    next => rfl

theorem SameQueue.raise (a : Alert) (s : State) : SameQueue s (raise a s) := by
  obtain ⟨al, h⟩ := raise_frame a s
  exact h ▸ .of_slots rfl rfl

theorem SameQueue.rezoneSlot (i : Slot) (s : State) : SameQueue s (rezoneSlot i s) :=
  .of_slots (by rw [rezoneSlot_budget]) (rezoneSlot_slots i s)

theorem SameQueue.freeLane (i : Slot) (s : State) : SameQueue s (freeLane i s) := by
  refine .of_slots (freeLane_queue i s) ?_
  obtain ⟨n, h⟩ := freeLane_frame i s
  rw [h]

theorem SameQueue.offerControl (i : Slot) (f : ControlFrame) (s : State) : SameQueue s (offerControl i f s) :=
  .of_slot rfl (offerControl_slot i · f s) rfl rfl

theorem SameQueue.purgeStations (i : Slot) (s : State) : SameQueue s (purgeStations i s) :=
  .of_slot rfl (purgeStations_slot i · s) rfl rfl

theorem SameQueue.flushSlot (i : Slot) (s : State) : SameQueue s (flushSlot i s) :=
  .of_slot rfl (flushSlot_slot i · s) rfl rfl

theorem SameQueue.takePresence (i : Slot) (s : State) : SameQueue s (s.modAdm i takePresence) :=
  .of_slot rfl (State.slot_modSlot s i · _) rfl rfl

theorem QueueInv.keep {o : Prop} {s t : State} (h : QueueInv o s) (hq : SameQueue s t) : QueueInv o t :=
  h.same hq.queue hq.state (funext hq.priority)

/-- A change made of a move of one slot and of changes that leave states, priorities and queue. -/
theorem QueueInv.moved {o : Prop} {s t u : State} {i : Slot} {st : SlotState} (h : QueueInv o s) (hs : SameQueue s t)
    (hu : SameQueue (Machine.moveTo i st t) u) : QueueInv o u := QueueInv.keep (QueueInv.moveTo (QueueInv.keep h hs) i st) hu

theorem insertion_queue {o : Prop} {s : State} (h : QueueInv o s) (i : Slot) :
    QueueInv o (insertion i (s.modAdm i takePresence)) := by
  have h1 := SameQueue.takePresence i s
  refine h.moved (i := i) (st := .standbyWait) h1 (.trans ?_ (.raise _ _))
  exact .of_slot rfl (State.slot_modSlot _ i · _) rfl rfl

theorem removal_queue {o : Prop} {s : State} (h : QueueInv o s) (i : Slot) :
    QueueInv o (removal i (s.modAdm i takePresence)) := by
  have h1 := SameQueue.takePresence i s
  refine h.moved (i := i) (st := .empty) ?_ (.trans (.rezoneSlot i _) (.raise _ _))
  refine .trans ?_ (.flushSlot i _)
  refine .trans ?_ (.purgeStations i _)
  refine (h1.trans (.freeLane i _)).trans ?_
  exact .of_slot rfl (State.slot_modSlot _ i · _) rfl rfl

theorem mainOff_queue {o : Prop} {s : State} (h : QueueInv o s) (i : Slot) (st : SlotState) :
    QueueInv o (mainOff i st s) := by
  refine h.moved (i := i) (st := st) ?_ (.rezoneSlot i _)
  refine (SameQueue.freeLane i s).trans ?_
  exact .of_slot rfl (State.slot_modSlot _ i · _) rfl rfl

theorem online_queue {o : Prop} {s : State} (h : QueueInv o s) (i : Slot) :
    QueueInv o ((moveTo i .online (freeLane i s)).modRail i fun r =>
      { r with resetAsserted := false, stage := .none, resetHold := .stopped }) := by
  refine h.moved (i := i) (st := .online) (.freeLane i s) ?_
  exact .of_slot rfl (State.slot_modSlot _ i · _) rfl rfl

theorem beginShutdown_queue {o : Prop} {s : State} (h : QueueInv o s) (i : Slot) (form : ShutdownForm) :
    QueueInv o (beginShutdown i form s) := by
  refine QueueInv.moveTo (h.keep ?_) i .shuttingDown
  refine .trans ?_ (.offerControl i _ _)
  exact .of_slot rfl (State.slot_modSlot s i · _) rfl rfl

/-- A move of a slot under a condition, as a cap and an uncap make it. -/
theorem QueueInv.movedIf {o : Prop} {s : State} (h : QueueInv o s) (i : Slot) (st : SlotState) (c : Prop)
    [Decidable c] : QueueInv o (if c then Machine.moveTo i st s else s) := by
  split
  next => exact h.moveTo i st
  next => exact h

theorem capSlot_queue {o : Prop} {s : State} (h : QueueInv o s) (i : Slot) : QueueInv o (capSlot i s) := by
  unfold capSlot
  dsimp only
  refine QueueInv.keep (QueueInv.movedIf (h.keep ?_) i .capped _) (.raise _ _)
  refine .trans ?_ (.offerControl i _ _)
  exact .of_slot rfl (State.slot_modSlot s i · _) rfl rfl

theorem uncapSlot_queue {o : Prop} {s : State} (h : QueueInv o s) (i : Slot) : QueueInv o (uncapSlot i s) := by
  unfold uncapSlot
  dsimp only
  refine QueueInv.movedIf (h.keep ?_) i .online _
  refine .trans ?_ (.offerControl i _ _)
  exact .of_slot rfl (State.slot_modSlot s i · _) rfl rfl

theorem standbyCut_queue {o : Prop} {s : State} (h : QueueInv o s) (i : Slot) : QueueInv o (standbyCut i s) := by
  refine h.moved (i := i) (st := .standbyWait) ?_ (.raise _ _)
  refine .trans ?_ (.flushSlot i _)
  refine .trans ?_ (.purgeStations i _)
  exact .of_slot rfl (State.slot_modSlot _ i · _) rfl rfl

theorem grantStandby_queue {o : Prop} {s : State} (h : QueueInv o s) (i : Slot) : QueueInv o (grantStandby i s) := by
  refine QueueInv.keep (h.moveTo i .announceWait) (.of_slot rfl (State.slot_modSlot _ i · _) rfl rfl)

theorem grantMain_queue {o : Prop} {s : State} (h : QueueInv o s) (i : Slot) : QueueInv o (grantMain i s) := by
  refine QueueInv.keep (h.moveTo i .powering) ⟨by rw [grantMain, rezoneSlot_budget]; rfl, fun j => ?_, fun j => ?_⟩
  · rw [State.slotState, grantMain_slot, moveTo_slotState]
    split <;> rfl
  · rw [moveTo_priorityOf, State.priorityOf, grantMain_slot]
    split
    next h => rw [h]; rfl
    next => rfl

theorem refreshStations_queue {o : Prop} {s : State} (h : QueueInv o s) (i : Slot) (l : List Station) :
    QueueInv o (refreshStations i l s) := by
  refine h.keep ⟨by rw [refreshStations_budget], fun j => ?_, fun j => ?_⟩
  · rw [State.slotState, refreshStations_slot]
    split
    next h => rw [h]; rfl
    next => rfl
  · rw [State.priorityOf, refreshStations_slot]
    split
    next h => rw [h]; rfl
    next => rfl

/-- A request found short is the same request with its mark set. -/
theorem setQueue_short_queue {o : Prop} {s : State} (h : QueueInv o s) {e : Request} {rest : List Request}
    (hq : s.budget.queue = e :: rest) : QueueInv o (setQueue ({ e with short := true } :: rest) s) := by
  obtain ⟨⟨h1, h2, h3⟩, h4⟩ := h
  rw [hq] at h1 h2 h3
  refine ⟨⟨h1, fun x hx => ?_, h3⟩, fun ho => ?_⟩
  · obtain rfl | hx := List.mem_cons.mp hx
    · exact h2 e (by simp)
    · exact h2 x (by simp [hx])
  · have hord : (e :: rest).Pairwise (standsBeforeBy s.priorityOf) := hq ▸ h4 ho
    obtain ⟨hhead, htail⟩ := List.pairwise_cons.mp hord
    exact List.pairwise_cons.mpr ⟨hhead, htail⟩

/-! ### One slot changed -/

/-- A change of one slot that leaves the lanes. -/
theorem PowerInv.kept {o : Prop} {s t : State} (h : PowerInv o s) {i : Slot} {r : SlotRecord}
    (hslot : ∀ j, t.slot j = if j = i then r else s.slot j) (hq : QueueInv o t) (hl : LanesKept s t)
    (hp : s.slotState i = .powering ↔ r.adm.state = .powering) (hi : SlotConsistent r) : PowerInv o t := by
  have hti : t.slot i = r := by rw [hslot, if_pos rfl]
  refine h.change i (fun j hj => by rw [hslot, if_neg hj]) hq ?_ (by rw [hti]; exact hi)
  rw [hl.inUse, State.slotState, State.slotState, hti]
  exact congrArg (s.budget.lanesInUse + ·) (if_congr hp rfl rfl)

/-- A change of one slot, out of POWERING if it was there, that frees its lane. -/
theorem PowerInv.freed {o : Prop} {s t : State} (h : PowerInv o s) {i : Slot} {r : SlotRecord}
    (hslot : ∀ j, t.slot j = if j = i then r else s.slot j) (hq : QueueInv o t) (hl : LaneFreed i s t)
    (hp : r.adm.state ≠ .powering) (hi : SlotConsistent r) : PowerInv o t := by
  have hti : t.slot i = r := by rw [hslot, if_pos rfl]
  refine h.change i (fun j hj => by rw [hslot, if_neg hj]) hq ?_ (by rw [hti]; exact hi)
  have hr : t.slotState i ≠ .powering := by rw [State.slotState, hti]; exact hp
  rw [hl.inUse, if_neg hr]
  split
  next hst =>
    have := poweringCount_pos hst
    have := h.lanes
    omega
  next => rfl

/-- The head of the queue is a request of its slot's state. -/
theorem PowerInv.head {o : Prop} {s : State} (h : PowerInv o s) {e : Request} {rest : List Request}
    (hq : s.budget.queue = e :: rest) : requestOf (s.slotState e.slot) = some e.kind :=
  h.1.1.2.1 e (by simp [hq])

theorem requestOf_standby {st : SlotState} (h : requestOf st = some .standby) : st = .standbyWait := by
  cases st <;> simp_all [requestOf]

theorem requestOf_main {st : SlotState} (h : requestOf st = some .main) : st = .powerWait := by
  cases st <;> simp_all [requestOf]

theorem PowerInv.capped {o : Prop} {s : State} (h : PowerInv o s) {i : Slot} (hc : capCandidate (s.slot i) = true) :
    PowerInv o (capSlot i s) := by
  obtain ⟨hst, -⟩ := capCandidate_cases hc
  refine h.kept (capSlot_slot i · s) (capSlot_queue h.queue i) (capSlot_lanesKept i s) ?_ ?_
  · rw [State.slotState, cappedRecord]
    obtain hst | ⟨hst, -⟩ := hst <;> simp [hst]
  · unfold cappedRecord
    refine (h.slot i).recapped ?_ ?_ ?_ ?_ ?_ _
    · obtain hst | ⟨hst, -⟩ := hst <;> simp [hst]
    · rfl
    · obtain hst | ⟨hst, -⟩ := hst <;> simp [hst]
    · exact fun _ => rfl
    · exact fun _ => rfl

theorem PowerInv.uncapped {o : Prop} {s : State} (h : PowerInv o s) {i : Slot}
    (hc : (s.slot i).bud.capped = true) : PowerInv o (uncapSlot i s) := by
  obtain ⟨-, ⟨-, -, -, hst, -⟩, -⟩ := h.slot i
  replace hst := hst hc
  refine h.kept (uncapSlot_slot i · s) (uncapSlot_queue h.queue i) (uncapSlot_lanesKept i s) ?_ ?_
  · rw [State.slotState, uncappedRecord]
    obtain hst | hst := hst <;> simp [hst]
  · unfold uncappedRecord
    refine (h.slot i).recapped ?_ ?_ ?_ ?_ ?_ _
    · obtain hst | hst := hst <;> simp [hst]
    · rfl
    · exact fun h => by cases h
    · obtain hst | hst := hst <;> simp [hst]
    · exact fun h => by cases h

theorem PowerInv.grantedStandby {o : Prop} {s : State} (h : PowerInv o s) {e : Request} {rest : List Request}
    (hq : s.budget.queue = e :: rest) (hk : e.kind = .standby) (hserved : standbyServed s = true) :
    PowerInv o (grantStandby e.slot s) := by
  have hst : (s.slot e.slot).adm.state = .standbyWait := requestOf_standby (hk ▸ h.head hq)
  simp only [standbyServed, Bool.and_eq_true, decide_eq_true_eq] at hserved
  refine h.kept (grantStandby_slot e.slot · s) (grantStandby_queue h.queue _) (grantStandby_lanesKept _ s) ?_
    ((h.slot e.slot).standbyGranted hst hserved.1 _)
  rw [State.slotState, hst]
  simp

theorem PowerInv.grantedMain {o : Prop} {s : State} (h : PowerInv o s) {e : Request} {rest : List Request}
    (hq : s.budget.queue = e :: rest) (hk : e.kind = .main) : PowerInv o (grantMain e.slot s) := by
  have hst : (s.slot e.slot).adm.state = .powerWait := requestOf_main (hk ▸ h.head hq)
  have hslot := grantMain_slot e.slot e.slot s
  rw [if_pos rfl] at hslot
  refine h.change e.slot (fun j hj => by rw [grantMain_slot, if_neg hj]) (grantMain_queue h.queue _) ?_ ?_
  · rw [(grantMain_lanes e.slot s).1, State.slotState, State.slotState, hslot, hst]
    simp
  · rw [hslot]
    exact (h.slot e.slot).mainGranted hst _ _ _

/-! ### Reset -/

theorem afterReset_slot (straps : Byte) (s : State) (i : Slot) :
    (afterReset straps s).slot i = resetSlot (State.reset.slot i) (s.slot i) := by
  simp [afterReset, State.slot]

/-- The state and the inventory of a slot after a reset (R1, R22). -/
theorem resetSlot_fresh (i : Slot) (old : SlotRecord) :
    (resetSlot (State.reset.slot i) old).adm.state = .empty ∧ (resetSlot (State.reset.slot i) old).inv.addresses = [] := by
  simp [resetSlot, State.reset, State.slot, SlotRecord.reset]

theorem resetSlot_consistent (straps : Byte) (s : State) (i : Slot) : SlotConsistent ((afterReset straps s).slot i) := by
  rw [afterReset_slot, slotConsistent_of_state (st := .empty) (resetSlot_fresh i _).1]
  obtain ⟨z, hz⟩ : ∃ z, State.reset.slot i = SlotRecord.reset z := ⟨_, by simp [State.reset, State.slot]; rfl⟩
  rw [hz]
  exact ⟨by simp [resetSlot, SlotRecord.reset, SlotState.standbyHeld, SlotState.mainPowered, SlotState.released],
    by simp [resetSlot, SlotRecord.reset, SlotState.standbyHeld], by simp [resetSlot, SlotRecord.reset], rfl,
    filterWindow_isRunning _ _ _, filterWindow_isRunning _ _ _⟩

/-- The power invariants are kept by every slot move and hold after a reset. -/
theorem powerInv_kept (o : Prop) : KeptByMoves (PowerInv o) where
  reset straps s := by
    have hst (i : Slot) : (afterReset straps s).slotState i = .empty := by
      rw [State.slotState, afterReset_slot]
      exact (resetSlot_fresh i _).1
    refine ⟨⟨⟨List.nodup_nil, fun e he => (List.not_mem_nil he).elim, fun i hi => ?_⟩, ?_, resetSlot_consistent straps s⟩,
      fun _ => .nil⟩
    · rw [hst] at hi
      exact absurd rfl hi
    · have hnone : (allSlots.filter fun i => isPowering ((afterReset straps s).slot i)) = [] :=
        List.filter_eq_nil_iff.mpr fun i _ => by
          have := hst i
          rw [State.slotState] at this
          simp [isPowering, this]
      rw [LanesMatch, poweringCount, hnone]
      rfl
  move {s t} hs h := by
    cases h with
    | same t h => exact hs.same h
    | presenceLine i level n _ => exact hs.modSlot i _ rfl rfl ((hs.slot i).presenceLine level n)
    | powerGoodLine i level n _ => exact hs.modSlot i _ rfl rfl ((hs.slot i).powerGoodLine level n)
    | filtered i h => exact hs.modSlot i _ rfl rfl ((hs.slot i).filtered h)
    | ackStopped i => exact hs.modSlot i _ rfl rfl (hs.slot i).ackStopped
    | powerGood i => exact hs.modSlot i _ rfl rfl (hs.slot i).powerGood
    | leaveRailUp i hold h => exact hs.modSlot i _ rfl rfl ((hs.slot i).leaveRailUp h hold)
    | insert i hline hst =>
      refine hs.kept (insertion_slot i · s) (insertion_queue hs.queue i) (insertion_lanesKept i s) ?_
        ((hs.slot i).inserted hline hst)
      rw [State.slotState, hst]
      simp [insertedRecord]
    | remove i hline =>
      exact hs.freed (removal_slot i · s) (removal_queue hs.queue i) (removal_freed i s) (by simp [removedRecord])
        ((hs.slot i).removed hline)
    | unpowered i st hfrom hto _ =>
      refine hs.kept (moveTo_slot i st s ·) (hs.queue.moveTo i st) (moveTo_lanesKept i st s) ?_
        ((hs.slot i).unpowered hfrom hto)
      exact iff_of_false (standbyOnly_facts hfrom).2.2.2.1 (standbyOnly_facts hto).2.2.2.1
    | refresh i l _ _ =>
      exact hs.kept (refreshStations_slot i · l s) (refreshStations_queue hs.queue i l)
        (.of_budget (refreshStations_budget i l s)) Iff.rfl (hs.slot i)
    | mainOff i st hfrom hto =>
      have hto' : st.standbyOnly = true := by
        simp only [List.mem_cons, List.not_mem_nil, or_false] at hto
        obtain rfl | rfl | rfl := hto <;> rfl
      exact hs.freed (mainOff_slot i st s ·) (mainOff_queue hs.queue i st) (mainOff_lanesFreed i st s)
        (standbyOnly_facts hto').2.2.2.1 ((hs.slot i).off hfrom hto')
    | online i hst =>
      exact hs.freed (online_slot i · s) (online_queue hs.queue i) (online_freed i s) (by simp)
        ((hs.slot i).online hst)
    | priority i p =>
      exact hs.kept (setPriority_slot i · p s) (hs.queue.setPriority i p) (setPriority_lanesKept i p s) Iff.rfl
        (hs.slot i)
    | budgetSettings a m l _ => exact hs
    | shutdown i form hst =>
      refine hs.kept (beginShutdown_slot i · form s) (beginShutdown_queue hs.queue i form)
        (beginShutdown_lanesKept i form s) ?_ ((hs.slot i).shutdown hst form _ _)
      generalize s.slotState i = st at hst ⊢
      cases st <;> simp_all [SlotState.running]
    | cap i h => exact hs.capped h
    | uncap i h => exact hs.uncapped h
    | cut i hst =>
      refine hs.kept (standbyCut_slot i · s) (standbyCut_queue hs.queue i) (standbyCut_lanesKept i s) ?_
        ((hs.slot i).cut hst)
      exact iff_of_false (standbyOnly_facts hst).2.2.2.1 (by simp [cutRecord])
    | grantStandby e rest hq hk h => exact hs.grantedStandby hq hk h
    | grantMain e rest hq hk _ => exact hs.grantedMain hq hk
    | short e rest hq =>
      obtain ⟨hm, ho⟩ := setQueue_short_queue hs.queue hq
      exact ⟨⟨hm, hs.1.2⟩, ho⟩

/-- Settles O54: the power invariants are kept by every slot move, and every step is a chain of slot moves. -/
theorem everyStepKeepsPowerConsistent : Obligations.EveryStepKeepsPowerConsistent :=
  ⟨fun _ _ hs ho h =>
    let ⟨hc, hq⟩ := (powerInv_kept True).step ⟨hs, fun _ => ho⟩ h
    ⟨hc, hq trivial⟩,
    fun _ _ hs h => lanesBounded_kept.step hs h⟩

end Sys2Proof.Machine
end

section
/-! SUPPORT. The station table through every step (O58). -/

namespace Sys2Proof.Machine

/-! ### The table as the addresses of the slots (R25, R26, R27) -/

/-- The entries of one slot. -/
def stationEntries (i : Slot) (l : List Station) : List StationEntry := l.map fun a => { address := a, owner := i }

/-- The table of some slots' addresses, slot by slot. -/
def stationTable (slots : List Slot) (f : Slot → List Station) : List StationEntry :=
  slots.flatMap fun i => stationEntries i (f i)

theorem mem_stationEntries {i : Slot} {l : List Station} {e : StationEntry} :
    e ∈ stationEntries i l ↔ e.address ∈ l ∧ e.owner = i := by
  simp only [stationEntries, List.mem_map]
  constructor
  · rintro ⟨a, ha, rfl⟩
    exact ⟨ha, rfl⟩
  · rintro ⟨ha, rfl⟩
    exact ⟨e.address, ha, rfl⟩

theorem stationTable_cons (i : Slot) (slots : List Slot) (f : Slot → List Station) :
    stationTable (i :: slots) f = stationEntries i (f i) ++ stationTable slots f := rfl

theorem stationTable_congr {slots : List Slot} {f g : Slot → List Station} (h : ∀ i ∈ slots, f i = g i) :
    stationTable slots f = stationTable slots g :=
  List.flatMap_congr fun i hi => by rw [h i hi]

/-- A slot's entries filtered by a test of the owner: all or none. -/
theorem filter_stationEntries (p : Slot → Bool) (i : Slot) (l : List Station) :
    (stationEntries i l).filter (fun e => p e.owner) = if p i = true then stationEntries i l else [] := by
  split
  next h => exact List.filter_eq_self.mpr fun e he => by rw [(mem_stationEntries.mp he).2, h]
  next h => exact List.filter_eq_nil_iff.mpr fun e he => by rw [(mem_stationEntries.mp he).2]; exact h

theorem filter_stationTable (p : Slot → Bool) (slots : List Slot) (f : Slot → List Station) :
    (stationTable slots f).filter (fun e => p e.owner) = stationTable slots fun i => if p i = true then f i else [] := by
  induction slots with
  | nil => rfl
  | cons i slots ih =>
    rw [stationTable_cons, stationTable_cons, List.filter_append, ih, filter_stationEntries]
    split <;> rfl

/-- The table without one slot's entries. -/
theorem stationTable_purged (i : Slot) (slots : List Slot) (f : Slot → List Station) :
    (stationTable slots f).filter (fun e => decide (e.owner ≠ i)) =
      stationTable slots fun j => if j = i then [] else f j := by
  rw [filter_stationTable fun j => decide (j ≠ i)]
  refine stationTable_congr fun j _ => ?_
  by_cases h : j = i <;> simp [h]

/-- A slot's entries put at its place of an ascending table. -/
theorem placeEntries_stationTable (i : Slot) (l : List Station) (f : Slot → List Station) (slots : List Slot)
    (hasc : slots.Pairwise (· < ·)) (hi : i ∈ slots) :
    placeEntries ((stationTable slots f).filter fun e => decide (e.owner ≠ i)) i l =
      stationTable slots fun j => if j = i then l else f j := by
  rw [stationTable_purged, placeEntries, filter_stationTable fun j => decide (j < i),
    filter_stationTable fun j => !decide (j < i)]
  change _ ++ stationEntries i l ++ _ = _
  induction slots with
  | nil => cases hi
  | cons a slots ih =>
    obtain ⟨ha, hasc⟩ := List.pairwise_cons.mp hasc
    simp only [stationTable_cons]
    by_cases hai : a = i
    · subst hai
      have hbefore : stationTable slots (fun j => if decide (j < a) = true then if j = a then [] else f j else []) = [] := by
        refine (stationTable_congr (g := fun _ => []) fun j hj => ?_).trans ?_
        · simp [(ha j hj).not_gt]
        · simp [stationTable, stationEntries]
      have hafter : stationTable slots (fun j => if (!decide (j < a)) = true then if j = a then [] else f j else []) =
          stationTable slots fun j => if j = a then l else f j :=
        stationTable_congr fun j hj => by simp [(ha j hj).not_gt, (ha j hj).ne']
      rw [hbefore, hafter]
      simp [stationEntries]
    · have hmem : i ∈ slots := (List.mem_cons.mp hi).resolve_left fun h => hai h.symm
      have hlt := ha i hmem
      rw [← ih hasc hmem]
      simp [hlt, hai, stationEntries]

/-! ### The refresh and the purge -/

theorem enteredAddresses_released (r : SlotRecord) (l : List AddressEntry) (h : r.inv.addresses = l.map releaseAddress) :
    enteredAddresses r = [] := by
  rw [enteredAddresses, h, List.map_eq_nil_iff, List.filter_eq_nil_iff]
  intro a ha
  obtain ⟨b, -, rfl⟩ := List.mem_map.mp ha
  unfold releaseAddress
  cases hb : b.status <;> simp [hb]

theorem firstAppearances_sublist (l : List Station) : (firstAppearances l).Sublist l := by
  induction l with
  | nil => exact .slnil
  | cons a l ih => exact (List.filter_sublist.trans ih).cons_cons a

theorem firstAppearances_nodup (l : List Station) : (firstAppearances l).Nodup := by
  induction l with
  | nil => exact List.nodup_nil
  | cons a l ih => exact List.nodup_cons.mpr ⟨by simp, ih.filter _⟩

/-- The addresses of an announce that enter the table (R26 step 3). -/
def enteredOf (s : State) (others : List StationEntry) (l : List Station) : List Station :=
  (((firstAppearances l).map (judgeAddress s others)).filter fun a => a.status == .entered).map (·.address)

theorem judgeAddress_entered (s : State) (others : List StationEntry) (a : Station) :
    (judgeAddress s others a).status = .entered ↔ invalidStation s a = false ∧ ownerOf others a = none := by
  unfold judgeAddress
  split
  next h => simp [h]
  next h =>
    split
    next h' => simp [Option.isSome_iff_ne_none.mp h']
    next h' => simpa [h] using h'

theorem enteredOf_eq (s : State) (others : List StationEntry) (l : List Station) :
    enteredOf s others l = (firstAppearances l).filter fun a => (judgeAddress s others a).status == .entered := by
  rw [enteredOf, List.filter_map, List.map_map]
  exact List.map_id _

theorem mem_enteredOf {s : State} {others : List StationEntry} {l : List Station} {a : Station}
    (h : a ∈ enteredOf s others l) : invalidStation s a = false ∧ ∀ e ∈ others, e.address ≠ a := by
  rw [enteredOf_eq, List.mem_filter, beq_iff_eq, judgeAddress_entered] at h
  obtain ⟨-, hv, ho⟩ := h
  refine ⟨hv, fun e he => ?_⟩
  simpa using List.find?_eq_none.mp (Option.map_eq_none_iff.mp ho) e he

theorem enteredOf_nodup (s : State) (others : List StationEntry) (l : List Station) :
    (enteredOf s others l).Nodup := by
  rw [enteredOf_eq]
  exact (firstAppearances_nodup l).filter _

theorem enteredOf_length (s : State) (others : List StationEntry) (l : List Station) :
    (enteredOf s others l).length ≤ l.length := by
  rw [enteredOf_eq]
  exact (List.length_filter_le _ _).trans (firstAppearances_sublist l).length_le

/-! ### The table and the straps of a move -/

/-- Two states with the same station table and station address. -/
structure SameTable (s t : State) : Prop where
  stations : t.stations = s.stations
  straps : t.fwd.straps = s.fwd.straps

theorem SameTable.trans {s t u : State} (h : SameTable s t) (h' : SameTable t u) : SameTable s u :=
  ⟨h'.stations.trans h.stations, h'.straps.trans h.straps⟩

theorem SameTable.of_core {s t : State} (h : SameCore s t) : SameTable s t := ⟨h.stations, h.straps⟩

theorem SameTable.raise (a : Alert) (s : State) : SameTable s (raise a s) := .of_core (.raise a s)

theorem SameTable.rezoneSlot (i : Slot) (s : State) : SameTable s (rezoneSlot i s) := .of_core (.rezoneSlot i s)

theorem SameTable.moveTo (i : Slot) (st : SlotState) (s : State) : SameTable s (moveTo i st s) := by
  obtain ⟨q, h⟩ := moveTo_frame i st s
  rw [h]
  exact ⟨rfl, rfl⟩

theorem SameTable.movedIf (i : Slot) (st : SlotState) (s : State) (c : Prop) [Decidable c] :
    SameTable s (if c then Machine.moveTo i st s else s) := by
  split
  next => exact .moveTo i st s
  next => exact ⟨rfl, rfl⟩

theorem SameTable.freeLane (i : Slot) (s : State) : SameTable s (freeLane i s) := by
  obtain ⟨n, h⟩ := freeLane_frame i s
  rw [h]
  exact ⟨rfl, rfl⟩

theorem SameTable.setPriority (i : Slot) (p : Fin 4) (s : State) : SameTable s (setPriority i p s) := by
  unfold Machine.setPriority
  split
  next => exact ⟨rfl, rfl⟩
  next =>
    dsimp only
    split <;> exact ⟨rfl, rfl⟩

theorem insertion_table (i : Slot) (s : State) : SameTable s (insertion i (s.modAdm i takePresence)) := by
  have h1 : SameTable s (s.modAdm i takePresence) := ⟨rfl, rfl⟩
  refine (h1.trans (.moveTo i .standbyWait _)).trans (.trans ?_ (.raise _ _))
  exact ⟨rfl, rfl⟩

theorem mainOff_table (i : Slot) (st : SlotState) (s : State) : SameTable s (mainOff i st s) := by
  refine (SameTable.freeLane i s).trans (.trans ?_ (.rezoneSlot i _))
  refine .trans ?_ (.moveTo i st _)
  exact ⟨rfl, rfl⟩

theorem online_table (i : Slot) (s : State) : SameTable s
    ((moveTo i .online (freeLane i s)).modRail i fun r =>
      { r with resetAsserted := false, stage := .none, resetHold := .stopped }) := by
  refine ((SameTable.freeLane i s).trans (.moveTo i .online _)).trans ?_
  exact ⟨rfl, rfl⟩

theorem beginShutdown_table (i : Slot) (form : ShutdownForm) (s : State) : SameTable s (beginShutdown i form s) := by
  refine .trans ?_ (.moveTo i .shuttingDown _)
  exact ⟨rfl, rfl⟩

theorem capSlot_table (i : Slot) (s : State) : SameTable s (capSlot i s) := by
  unfold capSlot
  dsimp only
  refine .trans (.trans ?_ (.movedIf i .capped _ _)) (.raise _ _)
  exact ⟨rfl, rfl⟩

theorem uncapSlot_table (i : Slot) (s : State) : SameTable s (uncapSlot i s) := by
  unfold uncapSlot
  dsimp only
  refine .trans ?_ (.movedIf i .online _ _)
  exact ⟨rfl, rfl⟩

theorem grantStandby_table (i : Slot) (s : State) : SameTable s (grantStandby i s) := by
  refine (SameTable.moveTo i .announceWait s).trans ?_
  exact ⟨rfl, rfl⟩

theorem grantMain_table (i : Slot) (s : State) : SameTable s (grantMain i s) := by
  refine (SameTable.moveTo i .powering s).trans (.trans ?_ (.rezoneSlot i _))
  exact ⟨rfl, rfl⟩

/-- The table of a state that purges a slot's entries (R27). -/
structure TablePurged (i : Slot) (s t : State) : Prop where
  stations : t.stations = s.stations.filter fun e => decide (e.owner ≠ i)
  straps : t.fwd.straps = s.fwd.straps

theorem TablePurged.trans {i : Slot} {s t u : State} (h : TablePurged i s t) (h' : SameTable t u) : TablePurged i s u :=
  ⟨h'.stations.trans h.stations, h'.straps.trans h.straps⟩

theorem SameTable.purged {i : Slot} {s t u : State} (h : SameTable s t) (h' : TablePurged i t u) : TablePurged i s u :=
  ⟨by rw [h'.stations, h.stations], h'.straps.trans h.straps⟩

theorem purgeStations_table (i : Slot) (s : State) : TablePurged i s (purgeStations i s) := ⟨rfl, rfl⟩

theorem flushSlot_table (i : Slot) (s : State) : SameTable s (flushSlot i s) := ⟨rfl, rfl⟩

theorem standbyCut_table (i : Slot) (s : State) : TablePurged i s (standbyCut i s) := by
  refine .trans (.trans (.trans ?_ (flushSlot_table i _)) (.moveTo i .standbyWait _)) (.raise _ _)
  refine SameTable.purged ?_ (purgeStations_table i _)
  exact ⟨rfl, rfl⟩

theorem removal_table (i : Slot) (s : State) : TablePurged i s (removal i (s.modAdm i takePresence)) := by
  have h1 : SameTable s (s.modAdm i takePresence) := ⟨rfl, rfl⟩
  refine .trans (.trans (.trans (.trans ?_ (flushSlot_table i _)) (.moveTo i .empty _)) (.rezoneSlot i _)) (.raise _ _)
  refine SameTable.purged ((h1.trans (.freeLane i _)).trans ?_) (purgeStations_table i _)
  exact ⟨rfl, rfl⟩

theorem refreshStations_table (i : Slot) (l : List Station) (s : State) :
    (refreshStations i l s).stations =
      placeEntries (s.stations.filter fun e => decide (e.owner ≠ i)) i
        (enteredOf s (s.stations.filter fun e => decide (e.owner ≠ i)) l) ∧
      (refreshStations i l s).fwd.straps = s.fwd.straps := by
  unfold refreshStations
  dsimp only
  split
  next =>
    rw [raiseSlot, (SameTable.raise _ _).stations, (SameTable.raise _ _).straps]
    exact ⟨rfl, rfl⟩
  next => exact ⟨rfl, rfl⟩

/-! ### What a slot move makes of the table -/

/-- The table and the address lists after a slot move: as they were, purged of one slot, or refreshed for one slot. -/
inductive TableChange (s t : State) : Prop
  | kept : SameTable s t → (∀ j, (t.slot j).inv.addresses = (s.slot j).inv.addresses) → TableChange s t
  | purged (i : Slot) : TablePurged i s t →
      (∀ j, (t.slot j).inv.addresses =
        if j = i then (s.slot i).inv.addresses.map releaseAddress else (s.slot j).inv.addresses) → TableChange s t
  | refreshed (i : Slot) (l : List Station) : l.length ≤ 4 → (s.slotState i).unlisted = false →
      t = refreshStations i l s → TableChange s t

/-- A table kept through a change of one slot. -/
theorem TableChange.of_slot {s t : State} {i : Slot} {r : SlotRecord} (h : SameTable s t)
    (hslot : ∀ j, t.slot j = if j = i then r else s.slot j) (hr : r.inv.addresses = (s.slot i).inv.addresses) :
    TableChange s t :=
  .kept h fun j => by
    rw [hslot]
    split
    next hj => rw [hr, hj]
    next => rfl

/-- A table purged with a change of one slot. -/
theorem TableChange.of_purge {s t : State} {i : Slot} {r : SlotRecord} (h : TablePurged i s t)
    (hslot : ∀ j, t.slot j = if j = i then r else s.slot j)
    (hr : r.inv.addresses = (s.slot i).inv.addresses.map releaseAddress) : TableChange s t :=
  .purged i h fun j => by
    rw [hslot]
    split
    next => rw [hr]
    next => rfl

theorem SlotMove.tableChange {s t : State} (h : SlotMove s t) : TableChange s t := by
  cases h with
  | same t h => exact .kept (.of_core h) fun j => congrArg (fun r => r.inv.addresses) (h.slots j)
  | insert i _ _ => exact .of_slot (insertion_table i s) (insertion_slot i · s) rfl
  | remove i _ => exact .of_purge (removal_table i s) (removal_slot i · s) rfl
  | unpowered i st _ _ _ => exact .of_slot (.moveTo i st s) (moveTo_slot i st s ·) rfl
  | refresh i l hl hu => exact .refreshed i l hl hu rfl
  | mainOff i st _ _ => exact .of_slot (mainOff_table i st s) (mainOff_slot i st s ·) rfl
  | online i _ => exact .of_slot (online_table i s) (online_slot i · s) rfl
  | priority i p => exact .of_slot (.setPriority i p s) (setPriority_slot i · p s) rfl
  | budgetSettings a m l _ => exact .kept ⟨rfl, rfl⟩ fun _ => rfl
  | shutdown i form _ => exact .of_slot (beginShutdown_table i form s) (beginShutdown_slot i · form s) rfl
  | cap i _ => exact .of_slot (capSlot_table i s) (capSlot_slot i · s) rfl
  | uncap i _ => exact .of_slot (uncapSlot_table i s) (uncapSlot_slot i · s) rfl
  | cut i _ => exact .of_purge (standbyCut_table i s) (standbyCut_slot i · s) rfl
  | grantStandby e _ _ _ _ => exact .of_slot (grantStandby_table e.slot s) (grantStandby_slot e.slot · s) rfl
  | grantMain e _ _ _ _ => exact .of_slot (grantMain_table e.slot s) (grantMain_slot e.slot · s) rfl
  | short e _ _ => exact .kept ⟨rfl, rfl⟩ fun _ => rfl
  | presenceLine i _ _ _ => exact .of_slot ⟨rfl, rfl⟩ (State.slot_modSlot s i · _) rfl
  | powerGoodLine i _ _ _ => exact .of_slot ⟨rfl, rfl⟩ (State.slot_modSlot s i · _) rfl
  | filtered i _ => exact .of_slot ⟨rfl, rfl⟩ (State.slot_modSlot s i · _) rfl
  | ackStopped i => exact .of_slot ⟨rfl, rfl⟩ (State.slot_modSlot s i · _) rfl
  | powerGood i => exact .of_slot ⟨rfl, rfl⟩ (State.slot_modSlot s i · _) rfl
  | leaveRailUp i _ _ => exact .of_slot ⟨rfl, rfl⟩ (State.slot_modSlot s i · _) rfl

/-! ### The invariants (O58) -/

theorem invalidStation_congr {s t : State} (h : t.fwd.straps = s.fwd.straps) (a : Station) :
    invalidStation t a = invalidStation s a := by
  rw [invalidStation, invalidStation, State.station, State.station, h]

/-- A table changed at one slot to entries that are new to it. -/
theorem StationsConsistent.change {s t : State} (h : StationsConsistent s) {i : Slot} {l : List Station}
    (hst : t.stations = placeEntries (s.stations.filter fun e => decide (e.owner ≠ i)) i l)
    (hf : t.fwd.straps = s.fwd.straps)
    (hent : ∀ j, enteredAddresses (t.slot j) = if j = i then l else enteredAddresses (s.slot j))
    (hnodup : l.Nodup) (hlen : l.length ≤ 4)
    (hnew : ∀ a ∈ l, invalidStation s a = false ∧ ∀ e ∈ s.stations.filter fun e => decide (e.owner ≠ i), e.address ≠ a) :
    StationsConsistent t := by
  obtain ⟨htable, hn, h4, hv⟩ := h
  have hplace : (placeEntries (s.stations.filter fun e => decide (e.owner ≠ i)) i l).Perm
      (stationEntries i l ++ s.stations.filter fun e => decide (e.owner ≠ i)) := by
    have hsplit := List.filter_append_perm (fun e : StationEntry => decide (e.owner < i))
      (s.stations.filter fun e => decide (e.owner ≠ i))
    rw [placeEntries, List.append_assoc]
    refine List.perm_append_comm_assoc _ _ _ |>.trans ?_
    exact hsplit.append_left _
  have hmem (e : StationEntry) (he : e ∈ t.stations) :
      (e.address ∈ l ∧ e.owner = i) ∨ e ∈ s.stations.filter fun e => decide (e.owner ≠ i) := by
    rw [hst, hplace.mem_iff, List.mem_append, mem_stationEntries] at he
    exact he
  refine ⟨?_, ?_, fun j => ?_, fun e he => ?_⟩
  · rw [hst, htable]
    refine (placeEntries_stationTable i l _ allSlots allSlots_ascending (mem_allSlots i)).trans ?_
    exact stationTable_congr fun j _ => (hent j).symm
  · have haddr : (stationEntries i l).map (·.address) = l := by
      rw [stationEntries, List.map_map]
      exact List.map_id _
    rw [hst, (hplace.map _).nodup_iff, List.map_append, haddr]
    refine List.Nodup.append hnodup (hn.sublist (List.filter_sublist.map _)) fun a ha hb => ?_
    obtain ⟨e, he, hea⟩ := List.mem_map.mp hb
    exact (hnew a ha).2 e he hea
  · rw [hent]
    split
    next => exact hlen
    next => exact h4 j
  · rw [invalidStation_congr hf]
    obtain ⟨ha, -⟩ | he := hmem e he
    · exact (hnew _ ha).1
    · exact hv e (List.mem_filter.mp he).1

/-- The station table is kept by every slot move and holds after a reset. -/
theorem stationsConsistent_kept : KeptByMoves StationsConsistent where
  reset straps s := by
    have hnone (i : Slot) : enteredAddresses ((afterReset straps s).slot i) = [] := by
      rw [afterReset_slot, enteredAddresses, (resetSlot_fresh i _).2]
      rfl
    refine ⟨?_, List.nodup_nil, fun i => by simp [hnone], fun e he => (List.not_mem_nil he).elim⟩
    simp only [hnone]
    rfl
  move {s t} hs h := by
    cases h.tableChange with
    | kept h haddr =>
      have hent (j : Slot) : enteredAddresses (t.slot j) = enteredAddresses (s.slot j) := by
        rw [enteredAddresses, haddr]
        rfl
      obtain ⟨h1, h2, h3, h4⟩ := hs
      unfold StationsConsistent
      simp only [h.stations, hent, invalidStation_congr h.straps]
      exact ⟨h1, h2, h3, h4⟩
    | purged i h haddr =>
      refine hs.change (i := i) (l := []) ?_ h.straps (fun j => ?_) List.nodup_nil (Nat.zero_le _)
        (fun a ha => (List.not_mem_nil ha).elim)
      · rw [h.stations, hs.1]
        refine Eq.trans ?_ (placeEntries_stationTable i [] _ allSlots allSlots_ascending (mem_allSlots i)).symm
        exact stationTable_purged i allSlots _
      · split
        next hj =>
          have := haddr j
          rw [if_pos hj] at this
          exact enteredAddresses_released _ _ this
        next hj =>
          have := haddr j
          rw [if_neg hj] at this
          rw [enteredAddresses, this]
          rfl
    | refreshed i l hl _ ht =>
      subst ht
      obtain ⟨hst, hf⟩ := refreshStations_table i l s
      refine hs.change hst hf (fun j => ?_) (enteredOf_nodup _ _ _) ((enteredOf_length _ _ _).trans hl)
        fun a ha => mem_enteredOf ha
      rw [refreshStations_slot]
      split <;> rfl

/-- A slot with a station entry keeps a state that may own one, but where its entries are purged. -/
theorem SlotMove.listed_kept {o : Prop} {s t : State} (hs : PowerInv o s) (h : SlotMove s t) (j : Slot)
    (hj : (s.slotState j).unlisted = false) :
    (t.slotState j).unlisted = false ∨ ∀ e ∈ t.stations, e.owner ≠ j := by
  have of_slot {i : Slot} {r : SlotRecord} (hslot : ∀ j, t.slot j = if j = i then r else s.slot j)
      (hr : (s.slotState i).unlisted = false → r.adm.state.unlisted = false) : (t.slotState j).unlisted = false := by
    rw [State.slotState, hslot]
    split
    next hji => exact hr (hji ▸ hj)
    next => exact hj
  have of_purge {i : Slot} (ht : TablePurged i s t) (hslot : ∀ j, j ≠ i → t.slot j = s.slot j) :
      (t.slotState j).unlisted = false ∨ ∀ e ∈ t.stations, e.owner ≠ j := by
    by_cases hji : j = i
    · refine .inr fun e he => ?_
      rw [ht.stations, List.mem_filter, decide_eq_true_eq] at he
      rw [hji]
      exact he.2
    · rw [State.slotState, hslot j hji]
      exact .inl hj
  cases h with
  | remove i _ => exact of_purge (removal_table i s) fun j hj => by rw [removal_slot, if_neg hj]
  | cut i _ => exact of_purge (standbyCut_table i s) fun j hj => by rw [standbyCut_slot, if_neg hj]
  | same t h =>
    refine .inl ?_
    have hst : t.slotState j = s.slotState j := congrArg (fun r => r.adm.state) (h.slots j)
    rw [hst]
    exact hj
  | insert i _ hst => exact .inl (of_slot (insertion_slot i · s) fun hu => by rw [State.slotState, hst] at hu; cases hu)
  | unpowered i st _ _ hu =>
    refine .inl (of_slot (moveTo_slot i st s ·) fun hl => ?_)
    by_contra hn
    rw [hu (by simpa using hn)] at hl
    cases hl
  | refresh i l _ _ => exact .inl (of_slot (refreshStations_slot i · l s) id)
  | mainOff i st _ hto =>
    simp only [List.mem_cons, List.not_mem_nil, or_false] at hto
    refine .inl (of_slot (mainOff_slot i st s ·) fun _ => ?_)
    obtain rfl | rfl | rfl := hto <;> rfl
  | online i _ => exact .inl (of_slot (online_slot i · s) fun _ => rfl)
  | priority i p => exact .inl (of_slot (setPriority_slot i · p s) id)
  | budgetSettings a m l _ => exact .inl hj
  | shutdown i form _ => exact .inl (of_slot (beginShutdown_slot i · form s) fun _ => rfl)
  | cap i _ =>
    refine .inl (of_slot (capSlot_slot i · s) fun hl => ?_)
    rw [cappedRecord]
    split
    next => rfl
    next => exact hl
  | uncap i _ =>
    refine .inl (of_slot (uncapSlot_slot i · s) fun hl => ?_)
    rw [uncappedRecord]
    split
    next => rfl
    next => exact hl
  | grantStandby e _ hq hk _ =>
    refine .inl (of_slot (grantStandby_slot e.slot · s) fun hl => ?_)
    have hst : s.slotState e.slot = .standbyWait := requestOf_standby (hk ▸ hs.head hq)
    rw [hst] at hl
    cases hl
  | grantMain e _ _ _ _ => exact .inl (of_slot (grantMain_slot e.slot · s) fun _ => rfl)
  | short e _ _ => exact .inl hj
  | presenceLine i _ _ _ => exact .inl (of_slot (State.slot_modSlot s i · _) id)
  | powerGoodLine i _ _ _ => exact .inl (of_slot (State.slot_modSlot s i · _) id)
  | filtered i _ => exact .inl (of_slot (State.slot_modSlot s i · _) id)
  | ackStopped i => exact .inl (of_slot (State.slot_modSlot s i · _) id)
  | powerGood i => exact .inl (of_slot (State.slot_modSlot s i · _) id)
  | leaveRailUp i _ _ => exact .inl (of_slot (State.slot_modSlot s i · _) id)

theorem stationOwners_iff (s : State) :
    StationOwners s ↔ ∀ e ∈ s.stations, (s.slotState e.owner).unlisted = false := by
  refine forall₂_congr fun e _ => ?_
  generalize s.slotState e.owner = st
  cases st <;> decide

/-- The owners of a changed table owned an entry before, or are refreshed in a state that may own one. -/
theorem TableChange.listed {s t : State} (h : TableChange s t) (hs : StationOwners s) (e : StationEntry)
    (he : e ∈ t.stations) : (s.slotState e.owner).unlisted = false := by
  rw [stationOwners_iff] at hs
  cases h with
  | kept h _ => exact hs e (h.stations ▸ he)
  | purged i h _ =>
    rw [h.stations] at he
    exact hs e (List.mem_filter.mp he).1
  | refreshed i l _ hu ht =>
    rw [ht, (refreshStations_table i l s).1] at he
    simp only [placeEntries, List.mem_append, List.mem_filter, List.mem_map] at he
    obtain (⟨⟨he, -⟩, -⟩ | ⟨a, -, rfl⟩) | ⟨⟨he, -⟩, -⟩ := he
    · exact hs e he
    · exact hu
    · exact hs e he

/-- The owners of station entries are kept with the power invariants, which say that a standby grant is one of
STANDBY_WAIT. -/
theorem stationOwners_kept : KeptByMoves fun s => PowerInv False s ∧ StationOwners s where
  reset straps s := ⟨(powerInv_kept False).reset straps s, fun e he => (List.not_mem_nil he).elim⟩
  move {s t} hs h := by
    refine ⟨(powerInv_kept False).move hs.1 h, (stationOwners_iff t).mpr fun e he => ?_⟩
    obtain hl | hl := h.listed_kept hs.1 e.owner (h.tableChange.listed hs.2 e he)
    · exact hl
    · exact absurd rfl (hl e he)

/-- Settles O58: the table and its owners are kept by every slot move, and every step is a chain of slot moves. -/
theorem everyStepKeepsTheStationTable : Obligations.EveryStepKeepsTheStationTable :=
  ⟨fun _ _ hs h => stationsConsistent_kept.step hs h,
    fun _ _ hp ho h => (stationOwners_kept.step ⟨⟨hp, False.elim⟩, ho⟩ h).2⟩

end Sys2Proof.Machine
end

section
/-! SUPPORT. What a change of the zones hands on to fans, override, F and alerts (R104, R105, R112, R115, R125). -/

namespace Sys2Proof.Machine

/-! ### Zone temperatures recomputed (R104) -/

/-- A zone's temperature is computed from the slots, the channels and the zone's substitute. -/
theorem zoneTemp_congr {s t : State} (hs : t.slots = s.slots) (hc : t.channels = s.channels) (z : Zone)
    (hz : t.zones[z].substitute = s.zones[z].substitute) : zoneTemp t z = zoneTemp s z := by
  rw [zoneTemp, zoneTemp, contributions, contributions, hz, hc]
  simp only [State.slot, hs]
  rfl

theorem retemp_zones (zs : List Zone) (s : State) (z : Zone) : (retemp zs s).zones[z] =
    if z ∈ zs then { s.zones[z] with temp := zoneTemp s z } else s.zones[z] := by
  induction zs generalizing s with
  | nil => rfl
  | cons w zs ih =>
    have hmod := State.zones_modZone s w
    have hsub (z : Zone) : (s.modZone w fun r => { r with temp := zoneTemp s w }).zones[z].substitute =
        s.zones[z].substitute := by
      rw [hmod]
      split
      next h => rw [h]
      next => rfl
    have hstep : retemp (w :: zs) s = retemp zs (s.modZone w fun r => { r with temp := zoneTemp s w }) := rfl
    rw [hstep, ih, hmod, zoneTemp_congr (s := s) (t := s.modZone w fun r => { r with temp := zoneTemp s w }) rfl rfl z
      (hsub z)]
    by_cases hz : z = w
    · subst hz
      simp
    · simp [hz]

/-! ### Steps that change one fan at a time -/

/-- A fold of steps that each change one fan by a rule of its own record changes each fan of the list by that rule. -/
theorem foldl_eachFan (l : List Fan) (hl : l.Nodup) (s : State) (step : State → Fan → State)
    (rule : FanRecord → FanRecord)
    (h : ∀ fs f, ∃ gs, step { s with fans := fs } f = { s with fans := gs } ∧
      ∀ g : Fan, gs[g] = if g = f then rule fs[f] else fs[g]) (fs : Vector FanRecord 6) :
    ∃ gs, l.foldl step { s with fans := fs } = { s with fans := gs } ∧
      ∀ g : Fan, gs[g] = if g ∈ l then rule fs[g] else fs[g] := by
  induction l generalizing fs with
  | nil => exact ⟨fs, rfl, fun _ => rfl⟩
  | cons f l ih =>
    obtain ⟨hf, hl⟩ := List.nodup_cons.mp hl
    obtain ⟨gs, h1, hg⟩ := h fs f
    obtain ⟨gs', h2, hg'⟩ := ih hl gs
    refine ⟨gs', by rw [List.foldl_cons, h1, h2], fun g => ?_⟩
    rw [hg', hg]
    by_cases hgf : g = f
    · subst hgf
      simp [hf]
    · simp [hgf]

theorem mem_allFans : ∀ f : Fan, f ∈ allFans := by decide

theorem mem_allZones : ∀ z : Zone, z ∈ allZones := by decide

theorem changeFan_fans (f g : Fan) (rule : FanRecord → FanRecord) (s : State) :
    (changeFan f rule s).fans[g] =
      if g = f then repower s.thermal.overrideOn (rule s.fans[f]) else s.fans[g] := State.fans_modFan _ _ _ _

/-- The fans after every fan is settled (R119, R120). -/
theorem settleAll_fans (s : State) (f : Fan) :
    (settleAll s).fans[f] = repower s.thermal.overrideOn (settle s.thermal.overrideOn s.fans[f]) := by
  obtain ⟨gs, h, hg⟩ := foldl_eachFan allFans (by decide) s
    (fun s f => changeFan f (settle s.thermal.overrideOn) s)
    (fun r => repower s.thermal.overrideOn (settle s.thermal.overrideOn r))
    (fun fs f => ⟨_, rfl, fun g => changeFan_fans f g _ { s with fans := fs }⟩) s.fans
  have h' : settleAll s = { s with fans := gs } := h
  rw [h', hg, if_pos (mem_allFans f)]

/-! ### The override (R105) -/

theorem settleAll_thermal (s : State) : (settleAll s).thermal = s.thermal := by
  obtain ⟨fs, h⟩ := settleAll_frame s
  rw [h]

theorem settleAll_mgmt (s : State) : (settleAll s).mgmt = s.mgmt := by
  obtain ⟨fs, h⟩ := settleAll_frame s
  rw [h]

theorem raise_thermal (a : Alert) (s : State) : (raise a s).thermal = s.thermal ∧ (raise a s).fans = s.fans := by
  obtain ⟨al, h⟩ := raise_frame a s
  rw [h]
  exact ⟨rfl, rfl⟩

/-- The override after its evaluation. -/
theorem evaluateOverride_on (s : State) : (evaluateOverride s).thermal.overrideOn =
    if s.thermal.overrideOn = true then !belowLimit s else overLimit s := by
  unfold evaluateOverride
  split
  next h =>
    split
    next hb => rw [settleAll_thermal, hb]; rfl
    next hb => simp [h, hb]
  next h =>
    split
    next hb => rw [settleAll_thermal, raiseChassis, (raise_thermal _ _).1, hb]
    next hb => simpa [hb] using h

/-- The fans after an evaluation of the override: settled where it began or ended. -/
theorem evaluateOverride_fans (s : State) (f : Fan) : (evaluateOverride s).fans[f] =
    if (evaluateOverride s).thermal.overrideOn = s.thermal.overrideOn then s.fans[f]
    else repower (evaluateOverride s).thermal.overrideOn (settle (evaluateOverride s).thermal.overrideOn s.fans[f]) := by
  unfold evaluateOverride
  split
  next hon =>
    split
    next =>
      rw [settleAll_fans, settleAll_thermal]
      simp [hon]
    next => rw [if_pos rfl]
  next hon =>
    split
    next =>
      rw [settleAll_fans, settleAll_thermal, raiseChassis, (raise_thermal _ _).1, (raise_thermal _ _).2]
      simp [hon]
    next => rw [if_pos rfl]

/-- The alerts after an evaluation of the override: OVERRIDE where it began (R168). -/
theorem evaluateOverride_alerts (s : State) (a : Alert) : a ∈ (evaluateOverride s).mgmt.alerts ↔
    a ∈ s.mgmt.alerts ∨ (a = { kind := .override, index := 0 } ∧ s.thermal.overrideOn = false ∧
      (evaluateOverride s).thermal.overrideOn = true) := by
  rw [evaluateOverride_on]
  unfold evaluateOverride
  split
  next hon => split <;> simp [settleAll_mgmt, hon]
  next hon =>
    replace hon : s.thermal.overrideOn = false := by simpa using hon
    split
    next ho =>
      rw [settleAll_mgmt, raiseChassis, mem_raise]
      simp only [hon, ho, and_self, and_true]
      exact or_comm
    next ho => simp [ho]

/-! ### A change handed on -/

/-- Two states with the same zones, thermal settings, fans and F. -/
structure SameThermal (s t : State) : Prop where
  zones : t.zones = s.zones
  thermal : t.thermal = s.thermal
  fans : t.fans = s.fans
  reservation : t.fanReservation = s.fanReservation

theorem SameThermal.trans {s t u : State} (h : SameThermal s t) (h' : SameThermal t u) : SameThermal s u :=
  ⟨h'.zones.trans h.zones, h'.thermal.trans h.thermal, h'.fans.trans h.fans, h'.reservation.trans h.reservation⟩

theorem ThermalHandedOn.congr {s t m : State} (h : ThermalHandedOn t m) (hst : SameThermal s t) :
    ThermalHandedOn s m := by
  obtain ⟨h1, h2, h3, h4, h5⟩ := h
  unfold FollowedZoneMoved at h4
  simp only [hst.zones, hst.thermal, hst.fans, hst.reservation] at h1 h2 h3 h4 h5
  exact ⟨h1, h2, h3, h4, h5⟩

/-- What a retargeting makes of a fan that follows a zone that moved (R112, R115). -/
def retargeted (before after : State) (r : FanRecord) : FanRecord :=
  if allZones.any (fun z => zoneChanged before after z && follows r z) = true then
    if targetOf after.zones r = r.target then r
    else repower after.thermal.overrideOn
      (settle after.thermal.overrideOn { r with target := targetOf after.zones r })
  else r

/-- The fans retargeted after a change of the zones (R112). -/
def retargetedFans (before after : State) : State :=
  allFans.foldl
    (fun s f => if allZones.any (fun z => zoneChanged before after z && follows s.fans[f] z) then retarget f s else s)
    after

theorem retargetedFans_eq (before after : State) :
    ∃ gs, retargetedFans before after = { after with fans := gs } ∧
      ∀ f : Fan, gs[f] = retargeted before after after.fans[f] := by
  have hstep (fs : Vector FanRecord 6) (f : Fan) : ∃ gs,
      (if allZones.any (fun z => zoneChanged before after z && follows fs[f] z) then
        retarget f { after with fans := fs } else { after with fans := fs }) = { after with fans := gs } ∧
      ∀ g : Fan, gs[g] = if g = f then retargeted before after fs[f] else fs[g] := by
    have hsame {r : FanRecord} (hr : r = fs[f]) : ∃ gs, ({ after with fans := fs } : State) = { after with fans := gs } ∧
        ∀ g : Fan, gs[g] = if g = f then r else fs[g] :=
      ⟨fs, rfl, fun g => by
        split
        next h => rw [hr, h]
        next => rfl⟩
    unfold retargeted
    split
    next =>
      unfold retarget
      dsimp only
      split
      next => exact hsame rfl
      next => exact ⟨_, rfl, fun g => changeFan_fans f g
        (fun r => settle after.thermal.overrideOn { r with target := targetOf after.zones fs[f] })
        { after with fans := fs }⟩
    next => exact hsame rfl
  obtain ⟨gs, h, hg⟩ := foldl_eachFan allFans (by decide) after
    (fun s f => if allZones.any (fun z => zoneChanged before after z && follows s.fans[f] z) then retarget f s else s)
    (retargeted before after) hstep after.fans
  exact ⟨gs, h, fun f => by rw [hg, if_pos (mem_allFans f)]⟩

/-- The retargeted fans with the override evaluated where its inputs changed (R105). -/
def overrideStep (before after : State) : State :=
  if overrideInputsChanged before after = true then evaluateOverride (retargetedFans before after)
  else retargetedFans before after

theorem propagate_eq (before after : State) : propagate before after =
    if before.zones = after.zones ∧ before.thermal = after.thermal then after
    else updateReservation (overrideStep before after) := rfl

theorem overLimit_iff (s : State) :
    overLimit s = true ↔ ∃ z : Zone, s.zones[z].limit ≠ -128 ∧ s.zones[z].limit < s.zones[z].temp := by
  simp [overLimit, mem_allZones]

theorem belowLimit_iff (s : State) : belowLimit s = true ↔
    ∀ z : Zone, s.zones[z].limit = -128 ∨ s.zones[z].temp ≤ s.zones[z].limit - s.thermal.hysteresis := by
  simp [belowLimit, mem_allZones]

theorem overrideInputsChanged_iff (s t : State) : overrideInputsChanged s t = true ↔
    ¬((∀ z : Zone, t.zones[z].temp = s.zones[z].temp ∧ t.zones[z].limit = s.zones[z].limit) ∧
      t.thermal.hysteresis = s.thermal.hysteresis) := by
  have hz (z : Zone) : (decide (s.zones[z].temp ≠ t.zones[z].temp) || decide (s.zones[z].limit ≠ t.zones[z].limit)) =
      true ↔ ¬(t.zones[z].temp = s.zones[z].temp ∧ t.zones[z].limit = s.zones[z].limit) := by
    grind
  rw [overrideInputsChanged, Bool.or_eq_true, List.any_eq_true, decide_eq_true_eq]
  simp only [mem_allZones, true_and, hz]
  rw [← not_forall, not_and_or, or_comm, ne_comm]

theorem zoneChanged_iff (s t : State) (r : FanRecord) :
    allZones.any (fun z => zoneChanged s t z && follows r z) = true ↔ FollowedZoneMoved s t r := by
  rw [List.any_eq_true]
  refine exists_congr fun z => ?_
  simp only [mem_allZones, true_and, zoneChanged]
  grind

/-- The zones, the hysteresis, the fans and the alerts before the override is evaluated. -/
theorem retargetedFans_keeps (before after : State) : (retargetedFans before after).zones = after.zones ∧
    (retargetedFans before after).thermal = after.thermal ∧ (retargetedFans before after).mgmt = after.mgmt := by
  obtain ⟨gs, h, -⟩ := retargetedFans_eq before after
  rw [h]
  exact ⟨rfl, rfl, rfl⟩

theorem overrideStep_on (before after : State) : (overrideStep before after).thermal.overrideOn =
    if overrideInputsChanged before after = true then
      (if after.thermal.overrideOn = true then !belowLimit after else overLimit after)
    else after.thermal.overrideOn := by
  obtain ⟨hz, ht, -⟩ := retargetedFans_keeps before after
  have hb : belowLimit (retargetedFans before after) = belowLimit after := by rw [belowLimit, belowLimit, hz, ht]
  have ho : overLimit (retargetedFans before after) = overLimit after := by rw [overLimit, overLimit, hz]
  unfold overrideStep
  split
  next => rw [evaluateOverride_on, ht, hb, ho]
  next => rw [ht]

theorem overrideStep_fans (before after : State) (f : Fan) : (overrideStep before after).fans[f] =
    if (overrideStep before after).thermal.overrideOn = after.thermal.overrideOn then
      retargeted before after after.fans[f]
    else repower (overrideStep before after).thermal.overrideOn
      (settle (overrideStep before after).thermal.overrideOn (retargeted before after after.fans[f])) := by
  obtain ⟨gs, h, hg⟩ := retargetedFans_eq before after
  have hfan : (retargetedFans before after).fans[f] = retargeted before after after.fans[f] := by rw [h, hg]
  have ht : (retargetedFans before after).thermal = after.thermal := by rw [h]
  unfold overrideStep
  split
  next => rw [evaluateOverride_fans, ht, hfan]
  next => rw [ht, if_pos rfl, hfan]

theorem overrideStep_alerts (before after : State) (a : Alert) : a ∈ (overrideStep before after).mgmt.alerts ↔
    a ∈ after.mgmt.alerts ∨ (a = { kind := .override, index := 0 } ∧ after.thermal.overrideOn = false ∧
      (overrideStep before after).thermal.overrideOn = true) := by
  obtain ⟨-, ht, hm⟩ := retargetedFans_keeps before after
  unfold overrideStep
  split
  next => rw [evaluateOverride_alerts, ht, hm]
  next =>
    rw [ht, hm]
    refine (or_iff_left ?_).symm
    rintro ⟨-, h, h'⟩
    rw [h] at h'
    cases h'

/-- Nothing is handed on where no zone and no hysteresis changed. -/
theorem thermalHandedOn_unchanged {s t : State} (h : SameThermal s t) : ThermalHandedOn s t where
  kept _ _ := by rw [h.thermal]
  ends hne := absurd ⟨fun z => by rw [h.zones]; exact ⟨rfl, rfl⟩, by rw [h.thermal]⟩ hne
  begins hne := absurd ⟨fun z => by rw [h.zones]; exact ⟨rfl, rfl⟩, by rw [h.thermal]⟩ hne
  fans f := by
    refine ⟨s.fans[f], _, rfl, fun ⟨hm, _⟩ => ?_, fun _ => rfl, fun _ => by rw [h.fans], fun hne => ?_⟩
    · obtain ⟨z, -, hz⟩ := hm
      rw [h.zones] at hz
      simp at hz
    · rw [h.thermal] at hne
      exact absurd rfl hne
  reservation := by rw [h.zones, h.thermal, h.reservation, if_pos ⟨rfl, rfl⟩]

/-- The thermal settings apart from the override are the hysteresis. -/
theorem thermal_eq_iff {a b : Thermal} (h : a.overrideOn = b.overrideOn) : a = b ↔ a.hysteresis = b.hysteresis := by
  cases a
  cases b
  cases h
  simp

/-- What a change of zones and hysteresis hands on, said as the statements say it (R104, R105, R112, R125). -/
theorem overrideStep_handedOn {s t : State} (hon : t.thermal.overrideOn = s.thermal.overrideOn)
    (hfans : t.fans = s.fans) (hchanged : ¬(t.zones = s.zones ∧ t.thermal.hysteresis = s.thermal.hysteresis)) :
    ThermalHandedOn s (updateReservation (overrideStep s t)) := by
  obtain ⟨fs, b, F, al, hframe⟩ := propagate_frame s t
  rw [propagate_eq, if_neg (by
    rw [thermal_eq_iff hon.symm]
    exact fun ⟨hz, hh⟩ => hchanged ⟨hz.symm, hh.symm⟩)] at hframe
  have hzones : (updateReservation (overrideStep s t)).zones = t.zones := by rw [hframe]
  have hhyst : (updateReservation (overrideStep s t)).thermal.hysteresis = t.thermal.hysteresis := by rw [hframe]
  have honm := overrideStep_on s t
  have hin := overrideInputsChanged_iff s t
  generalize hm : updateReservation (overrideStep s t) = m at hzones hhyst ⊢
  have hmon : m.thermal.overrideOn = (overrideStep s t).thermal.overrideOn := by rw [← hm]; rfl
  rw [← hmon, hon] at honm
  constructor
  · rw [hzones, hhyst]
    intro hz hh
    rw [honm, if_neg fun h => hin.mp h ⟨hz, hh⟩]
  · rw [hzones, hhyst]
    intro hne hs
    rw [honm, if_pos (hin.mpr hne), if_pos hs, ← belowLimit_iff]
    simp
  · rw [hzones, hhyst]
    intro hne hs
    rw [honm, if_pos (hin.mpr hne), if_neg (by simp [hs]), ← overLimit_iff]
  · intro f
    have hmf : m.fans[f] = (overrideStep s t).fans[f] := by rw [← hm]; rfl
    have hmoved : FollowedZoneMoved s m s.fans[f] ↔ FollowedZoneMoved s t s.fans[f] := by
      rw [FollowedZoneMoved, FollowedZoneMoved, hzones]
    rw [overrideStep_fans, ← hmon, hon, hfans] at hmf
    refine ⟨retargeted s t s.fans[f], _, rfl, ?_, ?_, fun h => by rw [hmf, if_pos h], fun h => by
      rw [hmf, if_neg h]; rfl⟩
    · rintro ⟨h1, h2⟩
      rw [hzones] at h2 ⊢
      rw [retargeted, if_pos ((zoneChanged_iff s t _).mpr (hmoved.mp h1)), if_neg h2, hon]
      rfl
    · intro hn
      rw [hmoved, hzones, ← zoneChanged_iff] at hn
      unfold retargeted
      split
      next h1 => rw [if_pos (not_not.mp fun h2 => hn ⟨h1, h2⟩)]
      next => rfl
  · rw [hzones, hhyst, if_neg hchanged, ← hm]
    rfl

/-- A change of zones and hysteresis is handed on as the statements say (R104, R105, R112, R125), and the one alert is
OVERRIDE where the override begins. -/
theorem propagate_handedOn {s t : State} (hon : t.thermal.overrideOn = s.thermal.overrideOn)
    (hfans : t.fans = s.fans) (hres : t.fanReservation = s.fanReservation) :
    ThermalHandedOn s (propagate s t) ∧
      ∀ a : Alert, a ∈ (propagate s t).mgmt.alerts ↔ a ∈ t.mgmt.alerts ∨
        (a = { kind := .override, index := 0 } ∧ s.thermal.overrideOn = false ∧
          (propagate s t).thermal.overrideOn = true) := by
  rw [propagate_eq]
  split
  next h =>
    obtain ⟨hz, ht⟩ := h
    refine ⟨thermalHandedOn_unchanged ⟨hz.symm, ht.symm, hfans, hres⟩, fun a => (or_iff_left ?_).symm⟩
    rintro ⟨-, h, h'⟩
    rw [← hon, h'] at h
    cases h
  next h =>
    refine ⟨overrideStep_handedOn hon hfans ?_, fun a => ?_⟩
    · rw [thermal_eq_iff hon.symm] at h
      exact fun ⟨hz, hh⟩ => h ⟨hz.symm, hh.symm⟩
    · have := overrideStep_alerts s t a
      rwa [hon] at this

/-- A recomputation of some zones after changes elsewhere, said as the statements say it. -/
theorem rezone_handedOn {s t : State} (h : SameThermal s t) (zs : List Zone) :
    ZonesRecomputed s (rezone zs t) (fun z => z ∈ zs) ∧ ThermalHandedOn s (rezone zs t) ∧
      ∀ a : Alert, a ∈ (rezone zs t).mgmt.alerts ↔ a ∈ t.mgmt.alerts ∨
        (a = { kind := .override, index := 0 } ∧ s.thermal.overrideOn = false ∧
          (rezone zs t).thermal.overrideOn = true) := by
  obtain ⟨zones, hr⟩ := retemp_frame zs t
  have hz := retemp_zones zs t
  obtain ⟨hh, ha⟩ := propagate_handedOn (s := t) (t := retemp zs t) (by rw [hr]) (by rw [hr]) (by rw [hr])
  refine ⟨fun z => ?_, hh.congr h, fun a => ?_⟩
  · obtain ⟨fs, b, F, al, hp⟩ := propagate_frame t (retemp zs t)
    have hmz : (rezone zs t).zones[z] = if z ∈ zs then { t.zones[z] with temp := zoneTemp t z } else t.zones[z] := by
      rw [rezone, hp]
      exact hz z
    have htemp : zoneTemp (rezone zs t) z = zoneTemp t z := by
      refine zoneTemp_congr (rezone_slots zs t) (by rw [rezone, hp, hr]) z ?_
      rw [hmz]
      split <;> rfl
    rw [htemp, hmz, h.zones]
    exact ⟨fun h => if_pos h, fun h => if_neg h⟩
  · have h1 := ha a
    rw [h.thermal, hr] at h1
    rw [rezone, hr]
    exact h1

end Sys2Proof.Machine
end

section
/-! SUPPORT. The slot moves written out: the main-off (O12), insertion and removal (O7, O8), the announce window (O13). -/

namespace Sys2Proof.Machine

/-! ### Frames that name the result -/

/-- The alert set after a raise (R168). -/
def raisedAlerts (a : Alert) (l : List Alert) : List Alert := if a ∈ l then l else insertAlert a l

theorem raise_eq (a : Alert) (s : State) :
    raise a s = { s with mgmt := { s.mgmt with alerts := raisedAlerts a s.mgmt.alerts } } := by
  unfold raise raisedAlerts
  split <;> rfl

theorem mem_raisedAlerts (a b : Alert) (l : List Alert) : b ∈ raisedAlerts a l ↔ b = a ∨ b ∈ l := by
  unfold raisedAlerts
  split
  next h => exact ⟨.inr, fun hb => hb.elim (fun hb => hb ▸ h) id⟩
  next => exact mem_insertAlert a b l

/-- A recomputation of zones after changes of slots and budget alone. -/
theorem rezone_slotsBudget {s t : State} (h : t = { s with slots := t.slots, budget := t.budget }) (zs : List Zone) :
    rezone zs t =
      { s with
        slots := (rezone zs t).slots, budget := (rezone zs t).budget, zones := (rezone zs t).zones
        thermal := { s.thermal with overrideOn := (rezone zs t).thermal.overrideOn }
        fans := (rezone zs t).fans, fanReservation := (rezone zs t).fanReservation
        mgmt := { s.mgmt with alerts := (rezone zs t).mgmt.alerts } } := by
  generalize t.slots = slots, t.budget = budget at h
  subst h
  obtain ⟨z, fs, b, F, al, h⟩ := rezone_frame zs { s with slots := slots, budget := budget }
  rw [h]

theorem freeLane_eq (i : Slot) (s : State) : freeLane i s =
    { s with budget := { s.budget with
      lanesInUse := if s.slotState i = .powering then s.budget.lanesInUse - 1 else s.budget.lanesInUse } } := by
  unfold freeLane
  split
  next => rfl
  next => rfl

/-! ### A recomputation after changes elsewhere -/

/-- A recomputation of a slot's zone after changes elsewhere. -/
theorem rezoneSlot_handedOn {s t : State} (h : SameThermal s t) {i : Slot}
    (hz : (t.slot i).adm.zone = (s.slot i).adm.zone) :
    ZonesRecomputed s (rezoneSlot i t) (fun z => z = (s.slot i).adm.zone) ∧ ThermalHandedOn s (rezoneSlot i t) ∧
      ∀ a : Alert, a ∈ (rezoneSlot i t).mgmt.alerts ↔ a ∈ t.mgmt.alerts ∨
        (a = { kind := .override, index := 0 } ∧ s.thermal.overrideOn = false ∧
          (rezoneSlot i t).thermal.overrideOn = true) := by
  have h1 := rezone_handedOn h [(s.slot i).adm.zone]
  simp only [List.mem_singleton] at h1
  rw [rezoneSlot, hz]
  exact h1

theorem ThermalHandedOn.congr_right {s t m : State} (h : ThermalHandedOn s t) (hm : SameThermal t m) :
    ThermalHandedOn s m := by
  obtain ⟨h1, h2, h3, h4, h5⟩ := h
  unfold FollowedZoneMoved at h4
  simp only [← hm.zones, ← hm.thermal, ← hm.fans, ← hm.reservation] at h1 h2 h3 h4 h5
  exact ⟨h1, h2, h3, h4, h5⟩

/-- The state of a slot written is no change of a priority. -/
theorem modAdm_state_priorityOf (i : Slot) (st : SlotState) (s : State) :
    (s.modAdm i fun a => { a with state := st }).priorityOf = s.priorityOf := by
  funext j
  simp only [State.priorityOf, State.modAdm_eq, State.slot_modSlot]
  split
  next h => rw [h]
  next => rfl

/-- A move written out (R14, R51). -/
theorem moveTo_eq (i : Slot) (st : SlotState) (s : State) : moveTo i st s =
    { s.modAdm i fun a => { a with state := st } with
      budget := { s.budget with
        queue :=
          if st = .standbyWait then
            insertStandby { slot := i, kind := .standby, short := false } (withoutRequest i s.budget.queue)
          else if st = .powerWait then
            insertMain s.priorityOf { slot := i, kind := .main, short := false } (withoutRequest i s.budget.queue)
          else withoutRequest i s.budget.queue } } := by
  rw [← modAdm_state_priorityOf i st s]
  cases st <;> rfl

/-- The state of a main-off before its zone is recomputed (R76). -/
def offState (i : Slot) (st : SlotState) (s : State) : State :=
  moveTo i st ((freeLane i s).modSlot i fun r =>
    { r with rail := railsOff r.rail, bud := releaseMain r.bud, que := discardPowerFrames r.que })

theorem mainOff_eq (i : Slot) (st : SlotState) (s : State) : mainOff i st s = rezoneSlot i (offState i st s) := rfl

/-- The budget of a main-off (R57, R76). -/
theorem offState_budget (i : Slot) (st : SlotState) (s : State) : (offState i st s).budget =
    { s.budget with
      queue := (moveTo i st s).budget.queue
      lanesInUse := if s.slotState i = .powering then s.budget.lanesInUse - 1 else s.budget.lanesInUse } := by
  have hprio : ((freeLane i s).modSlot i fun r =>
      { r with rail := railsOff r.rail, bud := releaseMain r.bud, que := discardPowerFrames r.que }).priorityOf =
      s.priorityOf := by
    funext j
    simp only [State.priorityOf, State.slot_modSlot, freeLane_slot]
    split
    next h => rw [h]
    next => rfl
  rw [offState, moveTo_eq, moveTo_eq, hprio, freeLane_eq]
  rfl

/-- A main-off before its zone is recomputed touches slots and budget alone. -/
theorem offState_eq (i : Slot) (st : SlotState) (s : State) : offState i st s =
    { s with slots := (offState i st s).slots, budget := (offState i st s).budget } := by
  rw [offState, moveTo_eq, freeLane_eq]
  rfl

theorem offState_zone (i : Slot) (st : SlotState) (s : State) :
    ((offState i st s).slot i).adm.zone = (s.slot i).adm.zone := by
  rw [offState, moveTo_slot_same, State.slot_modSlot_same, freeLane_slot]

/-- What a main-off leaves as it is (R76). -/
theorem mainOff_frame (i : Slot) (st : SlotState) (s : State) : mainOff i st s =
    { s with
      slots := (mainOff i st s).slots, budget := (mainOff i st s).budget, zones := (mainOff i st s).zones
      thermal := { s.thermal with overrideOn := (mainOff i st s).thermal.overrideOn }
      fans := (mainOff i st s).fans, fanReservation := (mainOff i st s).fanReservation
      mgmt := { s.mgmt with alerts := (mainOff i st s).mgmt.alerts } } :=
  rezone_slotsBudget (offState_eq i st s) _

/-- Settles O12: the main-off is a move with its slot's record changed, and a recomputation of the slot's zone. -/
theorem mainOffEndsMainPower : Obligations.MainOffEndsMainPower := by
  refine ⟨fun i st s left hl => ?_, fun i st s => ?_⟩
  · rw [hl]
    exact moveTo_eq i st s
  · have hframe := offState_eq i st s
    obtain ⟨hz, hth, hal⟩ := rezoneSlot_handedOn (s := s) (t := offState i st s)
      (by rw [hframe]; exact ⟨rfl, rfl, rfl, rfl⟩) (offState_zone i st s)
    refine ⟨mainOff_slot_same i st s, fun j hj => by rw [mainOff_slot, if_neg hj], ?_, hz, hth, fun a => ?_, ?_⟩
    · rw [mainOff_eq, rezoneSlot_budget, offState_budget]
    · rw [mainOff_eq, hal a, hframe]
      simp
    · exact mainOff_frame i st s

/-! ### Presence (R4, R16) -/

theorem exec_presenceFilterExpiry (i : Slot) (s : State) (h : (s.slot i).adm.window.isRunning = true) :
    exec (.presenceFilterExpiry i) s =
      .next (close s (presenceExpiry i s).state (presenceExpiry i s).cause) := by
  show Host.Outcome.next (if _ then _ else _) = _
  rw [if_pos h]

/-- A filtered level that differs from the one held is handed on with its insertion or its removal (R2). -/
theorem presenceExpiry_rise (i : Slot) (s : State) (hline : (s.slot i).adm.presenceLine = true)
    (hf : (s.slot i).adm.filtered = false) (hst : (s.slot i).adm.state = .empty) :
    presenceExpiry i s = { state := changeTrigger (insertion i (s.modAdm i takePresence)), cause := true } := by
  unfold presenceExpiry
  dsimp only
  rw [if_neg (by simp [hline, hf]), if_pos hline, if_pos hst]
  rfl

theorem presenceExpiry_fall (i : Slot) (s : State) (hline : (s.slot i).adm.presenceLine = false)
    (hf : (s.slot i).adm.filtered = true) (hst : (s.slot i).adm.state ≠ .empty) :
    presenceExpiry i s = { state := changeTrigger (removal i (s.modAdm i takePresence)), cause := true } := by
  unfold presenceExpiry
  dsimp only
  rw [if_neg (by simp [hline, hf]), if_neg (by simp [hline]), if_neg hst]
  rfl

theorem takePresence_eq {a : AdmissionPart} {level : Bool} (h : a.presenceLine = level) :
    takePresence a = { a with window := .stopped, filtered := level } := by
  subst h
  rfl

/-- Settles O7: the insertion of R4 is a move to STANDBY_WAIT, an inventory change and INSERT. -/
theorem presenceRiseInserts : Obligations.PresenceRiseInserts := by
  intro i s hw hline hf hst
  refine ⟨insertion i (s.modAdm i takePresence), ?_, ?_, fun j hj => ?_, ?_, fun b => ?_, ?_⟩
  · rw [exec_presenceFilterExpiry i s hw, presenceExpiry_rise i s hline hf hst]
  · rw [insertion_slot, if_pos rfl, insertedRecord, takePresence_eq hline]
  · rw [insertion_slot, if_neg hj]
  · rw [insertion, raiseSlot, raise_budget]
    rfl
  · exact mem_raise _ b _
  · rw [insertion, raiseSlot, raise_eq]
    rfl

/-- The state of a removal before its zone is recomputed (R16). -/
def removalState (i : Slot) (s : State) : State :=
  moveTo i .empty (flushSlot i (purgeStations i ((freeLane i (s.modAdm i takePresence)).modSlot i fun r =>
    { r with
      rail := { railsOff r.rail with standbyRail := false }, bud := { releaseMain r.bud with standbyW := 0 },
      adm := { r.adm with announceWindow := .stopped }, inv := { r.inv with present := false },
      tel := clearTelemetry r.tel })))

theorem removal_eq (i : Slot) (s : State) :
    removal i (s.modAdm i takePresence) = raiseSlot .remove i (rezoneSlot i (removalState i s)) := rfl

theorem removalState_slot (i j : Slot) (s : State) : (removalState i s).slot j =
    if j = i then removedRecord (s.slot i) else s.slot j := by
  rw [← removal_slot, removal_eq, raiseSlot_slot, rezoneSlot_slot]

/-- What a removal makes of the state outside its slot, before its zone is recomputed. -/
theorem removalState_eq (i : Slot) (s : State) : removalState i s =
    { s with
      slots := (removalState i s).slots
      stations := s.stations.filter fun e => decide (e.owner ≠ i)
      budget := { s.budget with
        queue := s.budget.queue.filter fun e => decide (e.slot ≠ i)
        lanesInUse := if s.slotState i = .powering then s.budget.lanesInUse - 1 else s.budget.lanesInUse }
      freeCells := s.freeCells + frameCells (s.slot i).que.egress } := by
  have hst : (s.modAdm i takePresence).slotState i = s.slotState i := by
    rw [State.slotState, State.modAdm_eq, State.slot_modSlot_same]
    rfl
  have hcells : frameCells ((purgeStations i ((freeLane i (s.modAdm i takePresence)).modSlot i fun r =>
      { r with
        rail := { railsOff r.rail with standbyRail := false }, bud := { releaseMain r.bud with standbyW := 0 },
        adm := { r.adm with announceWindow := .stopped }, inv := { r.inv with present := false },
        tel := clearTelemetry r.tel })).slot i).que.egress = frameCells (s.slot i).que.egress := by
    simp [purgeStations_slot]
  rw [removalState, moveTo_eq, flushSlot, flushEgress, hcells, freeLane_eq, hst]
  rfl

theorem releaseAddress_eq (a : AddressEntry) :
    releaseAddress a = { a with status := if a.status = .entered then .released else a.status } := by
  obtain ⟨address, status⟩ := a
  cases status <;> rfl

/-- Settles O8: the removal of R16 is a purge, a flush and a move to EMPTY, and a recomputation of the slot's zone. -/
theorem presenceFallRemoves : Obligations.PresenceFallRemoves := by
  intro i s hw hline hf hst
  have hframe := removalState_eq i s
  have hslot := removalState_slot i i s
  rw [if_pos rfl] at hslot
  obtain ⟨hz, hth, hal⟩ := rezoneSlot_handedOn (s := s) (t := removalState i s) (i := i)
    (by rw [hframe]; exact ⟨rfl, rfl, rfl, rfl⟩) (by rw [hslot]; rfl)
  refine ⟨removal i (s.modAdm i takePresence), ?_, ?_, fun j hj => ?_, ?_⟩
  · rw [exec_presenceFilterExpiry i s hw, presenceExpiry_fall i s hline hf hst]
  · rw [removal_slot, if_pos rfl, removedRecord, takePresence_eq hline, funext releaseAddress_eq]
    rfl
  · rw [removal_slot, if_neg hj]
  · have hgain : AlertsGain s (removal i (s.modAdm i takePresence))
        (fun a => a = { kind := .remove, index := i.val + 1 }) := by
      intro a
      rw [removal_eq, raiseSlot, mem_raise, hal a, raise_eq, hframe]
    obtain ⟨z, fs, b, F, al, ht⟩ := rezoneSlot_frame i (removalState i s)
    rw [removal_eq, raiseSlot, raise_eq] at hgain ⊢
    refine ⟨?_, ?_, ?_, ?_, hz, hth.congr_right ⟨rfl, rfl, rfl, rfl⟩, hgain, ?_⟩
    all_goals rw [ht, hframe]

/-- Settles O13: the window's expiry is a move to UNIDENTIFIED with ATTENTION. -/
theorem announceWindowExpiryUnidentifies : Obligations.AnnounceWindowExpiryUnidentifies := by
  intro i s hw hst
  have hexec : exec (.announceWindowExpiry i) s = .next (close s (announceExpiry i s) false) := by
    show Host.Outcome.next (if _ then _ else _) = _
    rw [if_pos hw]
  have hm : announceExpiry i s = raiseSlot .attention i
      (moveTo i .unidentified (s.modAdm i fun a => { a with announceWindow := .stopped })) := if_pos hst
  refine ⟨_, hexec, ?_, fun j hj => ?_, ?_, fun b => ?_, ?_⟩
  · rw [hm, raiseSlot_slot, moveTo_slot_same, State.modAdm_eq, State.slot_modSlot_same]
  · rw [hm, raiseSlot_slot, moveTo_slot_ne _ _ _ hj, State.modAdm_eq, State.slot_modSlot_ne _ _ hj]
  · rw [hm, raiseSlot, raise_budget]
    rfl
  · rw [hm]
    exact mem_raise _ b _
  · rw [hm]
    rw [raiseSlot, raise_eq]
    rfl

end Sys2Proof.Machine
end

section
/-! SUPPORT. Reset and the input lines (O3, O4, O5, O6). -/

namespace Sys2Proof.Machine

/-! ### The reset state, member by member -/

theorem reset_slot (i : Slot) : State.reset.slot i =
    SlotRecord.reset (if i.val < 4 then 0 else if i.val < 8 then 1 else if i.val < 12 then 2 else 3) := by
  simp [State.reset, State.slot]

theorem reset_slot_zone : ∀ i : Slot, (State.reset.slot i).adm.zone.val = i.val / 4 := by decide

/-- Settles O3: the reset state read item by item. -/
theorem resetLeavesTheSpecValues : Obligations.ResetLeavesTheSpecValues := by
  refine ⟨fun i => ?_, rfl, rfl, rfl, rfl, ?_, rfl, rfl, rfl, ?_, ?_, rfl, ?_, rfl, rfl, rfl, rfl, rfl, rfl, rfl, ?_,
    rfl, rfl, ?_, ?_, rfl, rfl, rfl, rfl, rfl⟩
  · have hzone := reset_slot_zone i
    rw [reset_slot] at hzone ⊢
    exact ⟨rfl, rfl, rfl, rfl, rfl, rfl, hzone, rfl, rfl, rfl, rfl, rfl, rfl, rfl, rfl, rfl, rfl, rfl, rfl, rfl, rfl,
      rfl, rfl, rfl⟩
  · decide
  · decide
  · decide
  · decide
  · exact fun p => by simp [State.reset]
  · intro u; cases u <;> exact ⟨rfl, rfl, rfl⟩
  · intro u c; cases u <;> revert c <;> decide

theorem reset_power : PowerConsistent State.reset ∧ QueueOrdered State.reset ∧ BudgetSafe State.reset ∧
    LanesBounded State.reset := by
  refine ⟨?_, .nil, .inr ?_, Nat.zero_le _⟩
  · unfold PowerConsistent QueueMatches LanesMatch SlotsConsistent OutputsFollow BudgetFollows FiltersFollow
    decide
  · decide

theorem reset_stations : StationsConsistent State.reset ∧ StationOwners State.reset := by
  unfold StationsConsistent StationOwners
  decide

theorem reset_thermal : ZonesCurrent State.reset ∧ OverrideConsistent State.reset ∧ TargetsCurrent State.reset ∧
    PowersCurrent State.reset ∧ FansHeld State.reset := by
  unfold ZonesCurrent OverrideConsistent TargetsCurrent PowersCurrent FansHeld FanHeld
  decide

theorem reset_queues : PoolBalance State.reset ∧ CongestionConsistent State.reset ∧
    BackpressureConsistent State.reset ∧ ControlLists State.reset := by
  refine ⟨?_, fun u => ?_, ?_, ?_⟩
  · unfold PoolBalance
    decide
  · cases u <;> unfold QueueCongestion <;> decide
  · unfold BackpressureConsistent
    decide
  · unfold ControlLists
    decide

theorem reset_orders : AlertsOrdered State.reset ∧ SegmentsOrdered State.reset ∧ AdmissionOrdered State.reset ∧
    PeriodArmed State.reset.sweep ∧ LinksBusy State.reset := by
  refine ⟨?_, ?_, ?_, ?_, fun u => ?_, ?_⟩
  · unfold AlertsOrdered
    decide
  · unfold SegmentsOrdered
    decide
  · unfold AdmissionOrdered
    decide
  · unfold PeriodArmed
    decide
  · cases u <;> unfold UplinkBusy <;> decide
  · unfold SlotLinkBusy
    decide

/-- Settles O4: the invariants of power, stations, thermal state, queues and tables. -/
theorem resetMeetsTheInvariants : Obligations.ResetMeetsTheInvariants := by
  obtain ⟨hpower, hqueue, hsafe, hlanes⟩ := reset_power
  obtain ⟨htable, howners⟩ := reset_stations
  obtain ⟨hzones, hoverride, htargets, hpowers, hfans⟩ := reset_thermal
  obtain ⟨hpool, hcongestion, hpressure, hcontrol⟩ := reset_queues
  obtain ⟨halerts, hsegments, hadmission, hperiod, hlinks⟩ := reset_orders
  exact ⟨hpool, hpower, hqueue, hsafe, htable, hzones, hoverride, htargets, hpowers, hfans, hperiod, hcongestion,
    hpressure, hcontrol, halerts, hsegments, hadmission, hlinks, hlanes, howners⟩

/-- Settles O5: a reset is the reset state with the lines, the links, the waiting commands and the straps kept. -/
theorem chassisResetReturnsEveryItem : Obligations.ChassisResetReturnsEveryItem := by
  intro straps s
  have hwindow (level : Bool) : filterWindow false level 100 = if level = true then .running 100 else .stopped := by
    cases level <;> rfl
  refine ⟨afterReset straps s, rfl, fun i => ?_, fun b => ?_, rfl⟩
  · rw [afterReset_slot, resetSlot, hwindow, hwindow, reset_slot]
    exact ⟨rfl, rfl, rfl, rfl⟩
  · simp only [afterReset, resetBay, hwindow, Fin.getElem_fin, Vector.getElem_ofFn]

/-- Settles O6: each line's event writes its level and its filter window. -/
theorem lineMovesRunTheFilters : Obligations.LineMovesRunTheFilters := by
  intro s level
  exact ⟨fun i => rfl, fun i => rfl, fun b => rfl, fun b => rfl⟩

end Sys2Proof.Machine
end

section
/-! SUPPORT. The grants (O46). -/

namespace Sys2Proof.Machine

/-! ### The queue's entries (R51) -/

/-- A standby request enters behind the standby requests. -/
theorem insertStandby_split (e : Request) (before after : List Request) (hb : ∀ x ∈ before, x.kind = .standby)
    (ha : ∀ x ∈ after, x.kind = .main) : insertStandby e (before ++ after) = before ++ e :: after := by
  induction before with
  | nil =>
    cases after with
    | nil => rfl
    | cons r after =>
      have hr := ha r (by simp)
      rw [List.nil_append, insertStandby, if_neg (by rw [hr]; simp)]
      rfl
  | cons r before ih =>
    obtain ⟨hr, hb⟩ := List.forall_mem_cons.mp hb
    rw [List.cons_append, insertStandby, if_pos hr, ih hb]
    rfl

/-- A main request enters behind every request that does not follow its priority. -/
theorem insertMain_split (p : Slot → Fin 4) (e : Request) (before after : List Request)
    (hb : ∀ x ∈ before, x.kind = .standby ∨ p x.slot ≤ p e.slot)
    (ha : ∀ x ∈ after, x.kind = .main ∧ p e.slot < p x.slot) :
    insertMain p e (before ++ after) = before ++ e :: after := by
  induction before with
  | nil =>
    cases after with
    | nil => rfl
    | cons r after =>
      rw [List.nil_append, insertMain, if_pos (ha r (by simp))]
      rfl
  | cons r before ih =>
    obtain ⟨hr, hb⟩ := List.forall_mem_cons.mp hb
    have hn : ¬(r.kind = .main ∧ p e.slot < p r.slot) := by
      rintro ⟨hk, hlt⟩
      obtain hr | hr := hr
      · rw [hk] at hr
        cases hr
      · exact absurd hlt hr.not_gt
    rw [List.cons_append, insertMain, if_neg hn, ih hb]
    rfl

/-! ### The loop (R53 to R56) -/

theorem grants_nil (n : Nat) (s : State) (h : s.budget.queue = []) : grants n s = s := by
  cases n with
  | zero => rfl
  | succ n => rw [grants, h]

/-- A standby request at the head. -/
theorem grants_standby (n : Nat) {e : Request} {rest : List Request} {s : State} (hq : s.budget.queue = e :: rest)
    (hk : e.kind = .standby) :
    grants (n + 1) s = if standbyServed s = true then grants n (grantStandby e.slot s) else s := by
  rw [grants, hq]
  dsimp only
  rw [hk]

/-- A main request at the head. -/
theorem grants_main (n : Nat) {e : Request} {rest : List Request} {s : State} (hq : s.budget.queue = e :: rest)
    (hk : e.kind = .main) :
    grants (n + 1) s = if mainServed s e.slot = true then grants n (grantMain e.slot s) else markShort s := by
  rw [grants, hq]
  dsimp only
  rw [hk]

theorem grantStandby_budget (i : Slot) (s : State) : (grantStandby i s).budget =
    { s.budget with queue := withoutRequest i s.budget.queue } := rfl

theorem grantMain_budget (i : Slot) (s : State) : (grantMain i s).budget =
    { s.budget with queue := withoutRequest i s.budget.queue, lanesInUse := s.budget.lanesInUse + 1 } := by
  rw [grantMain, rezoneSlot_budget]
  rfl

/-- A grant of the head takes at least the head out of the queue. -/
theorem withoutRequest_head_length (e : Request) (rest : List Request) :
    (withoutRequest e.slot (e :: rest)).length ≤ rest.length := by
  rw [withoutRequest, List.filter_cons_of_neg (by simp)]
  exact List.length_filter_le _ _

/-- Grants beyond the queue's length change nothing (log 20). -/
theorem grants_bound (m n : Nat) (s : State) (hm : s.budget.queue.length ≤ m) (hn : s.budget.queue.length ≤ n) :
    grants m s = grants n s := by
  induction m generalizing n s with
  | zero =>
    have hq := List.length_eq_zero_iff.mp (Nat.le_zero.mp hm)
    rw [grants_nil _ s hq, grants_nil _ s hq]
  | succ m ih =>
    cases hq : s.budget.queue with
    | nil => rw [grants_nil _ s hq, grants_nil _ s hq]
    | cons e rest =>
      rw [hq, List.length_cons] at hm hn
      obtain ⟨n, rfl⟩ := Nat.exists_eq_succ_of_ne_zero (Nat.ne_of_gt (Nat.lt_of_lt_of_le (Nat.succ_pos _) hn))
      have hlen := withoutRequest_head_length e rest
      cases hk : e.kind with
      | standby =>
        rw [grants_standby m hq hk, grants_standby n hq hk]
        split
        next =>
          refine ih n (grantStandby e.slot s) ?_ ?_
          all_goals
            rw [grantStandby_budget, hq]
            dsimp only
            omega
        next => rfl
      | main =>
        rw [grants_main m hq hk, grants_main n hq hk]
        split
        next =>
          refine ih n (grantMain e.slot s) ?_ ?_
          all_goals
            rw [grantMain_budget, hq]
            dsimp only
            omega
        next => rfl

theorem standbyServed_iff (s : State) :
    standbyServed s = true ↔ 1 ≤ s.budget.allowance ∧ (s.budget.allowance : Int) ≤ headroom s := by
  simp [standbyServed]

theorem anyCapped_eq_false (s : State) : anyCapped s = false ↔ ∀ i : Slot, (s.slot i).bud.capped = false := by
  simp [anyCapped, mem_allSlots]

theorem mainServed_iff (s : State) (i : Slot) : mainServed s i = true ↔
    (∀ i : Slot, (s.slot i).bud.capped = false) ∧ s.supply.brownout = false ∧
      s.budget.lanesInUse < s.budget.laneCount ∧ (effectiveRequested (s.slot i) : Int) ≤ headroom s := by
  simp only [mainServed, Bool.and_eq_true, Bool.not_eq_true', decide_eq_true_eq, anyCapped_eq_false, and_assoc]

/-- A main head found short with a clear mark is marked (R56). -/
theorem markShort_eq {e : Request} {rest : List Request} {s : State} (hq : s.budget.queue = e :: rest) :
    markShort s =
      if headroom s < effectiveRequested (s.slot e.slot) ∧ e.short = false then
        raiseChassis .budgetShort (setQueue ({ e with short := true } :: rest) s)
      else s := by
  rw [markShort, hq]

/-! ### The main grant (R55, R78) -/

/-- The state of a main grant before its zone is recomputed. -/
def grantedState (i : Slot) (s : State) : State :=
  let t := (moveTo i .powering s).modSlot i fun r =>
    { r with
      bud := { r.bud with mainW := effectiveRequested (s.slot i), grantW := effectiveRequested (s.slot i) },
      rail := startSequence s.timing.powerGoodTimeout s.timing.resetHold r.rail }
  { t with budget := { t.budget with lanesInUse := t.budget.lanesInUse + 1 } }

theorem grantMain_eq (i : Slot) (s : State) : grantMain i s = rezoneSlot i (grantedState i s) := rfl

theorem grantedState_eq (i : Slot) (s : State) : grantedState i s =
    { s with slots := (grantedState i s).slots, budget := (grantedState i s).budget } := rfl

theorem startSequence_eq (timeout hold : Nat) (r : RailPart) : startSequence timeout hold r =
    { r with
      mainRail := true, resetAsserted := true
      stage := if r.powerGood = true then .resetHold else .railUp
      powerGoodTimer := if r.powerGood = true then .stopped else .running timeout
      resetHold := if r.powerGood = true then .running hold else r.resetHold } := by
  obtain ⟨_, _, _, _, _, good, _, _, _, _, _⟩ := r
  cases good <;> rfl

/-- Settles O46: the loop of the grants, where requests enter, and what each grant changes. -/
theorem grantsServeTheHeadOfTheQueue : Obligations.GrantsServeTheHeadOfTheQueue := by
  refine ⟨fun s => ⟨rfl, rfl⟩, fun r => ⟨rfl, fun p hp => ?_⟩, insertStandby_split, insertMain_split,
    fun n s h => grants_bound n _ s h le_rfl, grants_nil, fun n x rest s hq => ⟨fun hk => ?_, fun hk => ?_⟩,
    fun i s => ⟨?_, fun j hj => ?_, rfl⟩, fun i s => ?_⟩
  · rw [effectiveRequested, effectiveFloor, hp]
    exact ⟨rfl, rfl⟩
  · rw [grants_standby n hq hk]
    refine ⟨fun h1 h2 => if_pos ((standbyServed_iff s).mpr ⟨h1, h2⟩), fun h => if_neg ?_⟩
    rwa [standbyServed_iff]
  · rw [grants_main n hq hk, markShort_eq hq]
    refine ⟨fun h1 h2 h3 h4 => if_pos ((mainServed_iff s _).mpr ⟨h1, h2, h3, h4⟩), fun h => ?_⟩
    rw [← mainServed_iff] at h
    rw [if_neg h]
    refine ⟨fun hn => if_neg ?_, fun h1 h2 => if_pos ⟨h1, h2⟩⟩
    rintro ⟨h1, h2⟩
    obtain hn | hn := hn
    · omega
    · rw [h2] at hn
      cases hn
  · rw [grantStandby_slot, if_pos rfl]
  · rw [grantStandby_slot, if_neg hj]
  · have hframe := grantedState_eq i s
    have hslot := grantMain_slot i i s
    rw [if_pos rfl] at hslot
    have hzone : ((grantedState i s).slot i).adm.zone = (s.slot i).adm.zone := by
      rw [grantMain_eq, rezoneSlot_slot] at hslot
      rw [hslot]
    obtain ⟨hz, hth, hal⟩ := rezoneSlot_handedOn (s := s) (t := grantedState i s) ⟨rfl, rfl, rfl, rfl⟩ hzone
    refine ⟨?_, fun j hj => ?_, grantMain_budget i s, hz, hth, fun a => ?_, rezone_slotsBudget hframe _⟩
    · rw [hslot, startSequence_eq]
    · rw [grantMain_slot, if_neg hj]
    · rw [grantMain_eq, hal a]
      exact (iff_of_eq (false_or _)).symm

end Sys2Proof.Machine
end

section
/-! SUPPORT. Shedding and restore (O47). -/

namespace Sys2Proof.Machine

/-! ### Sums over the slots -/

theorem sum_update {α : Type} [DecidableEq α] (l : List α) (hl : l.Nodup) (i : α) (hi : i ∈ l) (f g : α → Nat)
    (h : ∀ j, j ≠ i → g j = f j) : (l.map g).sum + f i = (l.map f).sum + g i := by
  induction l with
  | nil => cases hi
  | cons a l ih =>
    obtain ⟨ha, hl⟩ := List.nodup_cons.mp hl
    rw [List.map_cons, List.map_cons, List.sum_cons, List.sum_cons]
    by_cases hai : a = i
    · subst hai
      have hc : l.map g = l.map f := List.map_congr_left fun j hj => h j fun hja => ha (hja ▸ hj)
      rw [hc]
      omega
    · have hrec := ih hl ((List.mem_cons.mp hi).resolve_left fun hia => hai hia.symm)
      rw [h a hai]
      omega

/-- A sum over the slots where one slot's record changes. -/
theorem slotSum_change {s t : State} {i : Slot} {r : SlotRecord} (w : SlotRecord → Nat)
    (h : ∀ j, t.slot j = if j = i then r else s.slot j) :
    (allSlots.map fun j => w (t.slot j)).sum + w (s.slot i) = (allSlots.map fun j => w (s.slot j)).sum + w r := by
  have hi : t.slot i = r := by rw [h, if_pos rfl]
  rw [← hi]
  exact sum_update allSlots (by decide) i (mem_allSlots i) (fun j => w (s.slot j)) (fun j => w (t.slot j))
    fun j hj => by rw [h, if_neg hj]

/-- H moves by what one slot gives up and takes (R49). -/
theorem headroom_change {s t : State} {i : Slot} {r : SlotRecord}
    (h : ∀ j, t.slot j = if j = i then r else s.slot j) (hs : t.supply = s.supply)
    (hf : t.fanReservation = s.fanReservation) :
    headroom t = headroom s + commitment (s.slot i) - commitment r := by
  have hsum := slotSum_change commitment h
  rw [headroom, headroom, hs, hf, commitments, commitments]
  omega

/-! ### What is left to take -/

/-- The shedding actions that a slot still offers: a cap, a power-off, a standby cut (R58, R60, R62). -/
def shedWeight (r : SlotRecord) : Nat :=
  if capCandidate r = true then 3 else if r.adm.state.mainPowered = true then 2
  else if r.adm.state.standbyHeld = true then 1 else 0

def shedMeasure (s : State) : Nat := (allSlots.map fun i => shedWeight (s.slot i)).sum

theorem shedWeight_le (r : SlotRecord) : shedWeight r ≤ 3 := by
  unfold shedWeight
  split
  next => exact le_rfl
  next => split <;> [exact Nat.le_succ 2; split <;> omega]

theorem shedMeasure_le (s : State) : shedMeasure s ≤ 48 := by
  have h := List.sum_le_card_nsmul (allSlots.map fun i => shedWeight (s.slot i)) 3 fun n hn => by
    obtain ⟨i, -, rfl⟩ := List.mem_map.mp hn
    exact shedWeight_le _
  rw [List.length_map] at h
  exact h

/-- An action that lowers its slot's weight lowers the measure. -/
theorem shedMeasure_lt {s t : State} {i : Slot} {r : SlotRecord} (h : ∀ j, t.slot j = if j = i then r else s.slot j)
    (hw : shedWeight r < shedWeight (s.slot i)) : shedMeasure t < shedMeasure s := by
  have := slotSum_change shedWeight h
  unfold shedMeasure
  omega

theorem capSlot_measure {i : Slot} {s : State} (h : capCandidate (s.slot i) = true) :
    shedMeasure (capSlot i s) < shedMeasure s := by
  have hcap : capCandidate (cappedRecord s i) = false := by
    simp only [capCandidate, cappedRecord]
    split <;> simp_all
  refine shedMeasure_lt (capSlot_slot i · s) ?_
  rw [shedWeight, shedWeight, if_pos h, hcap]
  simp only [Bool.false_eq_true, if_false]
  split <;> [omega; split <;> omega]

theorem powerOff_slot (i j : Slot) (s : State) :
    (powerOff i s).slot j = if j = i then offRecord .powerWait (s.slot i) else s.slot j := by
  rw [powerOff, raiseChassis_slot, mainOff_slot]

theorem powerOff_measure {i : Slot} {s : State} (h : (s.slot i).adm.state.mainPowered = true) :
    shedMeasure (powerOff i s) < shedMeasure s := by
  refine shedMeasure_lt (powerOff_slot i · s) ?_
  have hoff : shedWeight (offRecord .powerWait (s.slot i)) = 1 := rfl
  rw [hoff, shedWeight, if_pos h]
  split <;> omega

theorem standbyCut_measure {i : Slot} {s : State} (h : isStandbyOnly (s.slot i) = true) :
    shedMeasure (standbyCut i s) < shedMeasure s := by
  refine shedMeasure_lt (standbyCut_slot i · s) ?_
  have hcut : shedWeight (cutRecord (s.slot i)) = 0 := rfl
  simp only [isStandbyOnly, Bool.and_eq_true] at h
  rw [hcut, shedWeight, if_pos h.1]
  split <;> [omega; split <;> omega]

theorem shedOne_measure {s t : State} (h : shedOne s = some t) : shedMeasure t < shedMeasure s := by
  unfold shedOne at h
  split at h
  next i hi => cases h; exact capSlot_measure (pickWorst_holds hi)
  next =>
    split at h
    next i hi => cases h; exact powerOff_measure (isPowering_mainPowered (pickHighest_holds hi))
    next =>
      split at h
      next i hi => cases h; exact powerOff_measure (pickWorst_holds hi)
      next =>
        split at h
        next i hi => cases h; exact standbyCut_measure (pickWorst_holds hi)
        next => cases h

/-! ### The loop of shedding (R63) -/

/-- Shedding ends where H is not below 0 and where nothing is left. -/
theorem shed_ended (n : Nat) {s : State} (h : 0 ≤ headroom s ∨ shedOne s = none) : shed n s = s := by
  cases n with
  | zero => rfl
  | succ n =>
    rw [shed]
    obtain h | h := h
    · exact if_neg h.not_gt
    · rw [h]
      exact ite_self s

theorem shed_some (n : Nat) {s t : State} (hneg : headroom s < 0) (h : shedOne s = some t) :
    shed (n + 1) s = shed n t := by rw [shed, if_pos hneg, h]

/-- Where shedding has not ended it has an action, which lowers the measure. -/
theorem shed_acts {s : State} (h : ¬(0 ≤ headroom s ∨ shedOne s = none)) :
    ∃ t, shedMeasure t < shedMeasure s ∧ ∀ n, shed (n + 1) s = shed n t := by
  obtain ⟨hneg, hone⟩ := not_or.mp h
  obtain ⟨t, ht⟩ := Option.ne_none_iff_exists'.mp hone
  exact ⟨t, shedOne_measure ht, fun n => shed_some n (not_le.mp hneg) ht⟩

/-- A bound that covers the measure ends the shedding, and every such bound ends it alike (log 20). -/
theorem shed_bound (n : Nat) (s : State) (hn : shedMeasure s ≤ n) :
    (0 ≤ headroom (shed n s) ∨ shedOne (shed n s) = none) ∧ ∀ m, shedMeasure s ≤ m → shed m s = shed n s := by
  induction n generalizing s with
  | zero =>
    by_cases hend : 0 ≤ headroom s ∨ shedOne s = none
    · exact ⟨hend, fun m _ => shed_ended m hend⟩
    · obtain ⟨t, ht, -⟩ := shed_acts hend
      omega
  | succ n ih =>
    by_cases hend : 0 ≤ headroom s ∨ shedOne s = none
    · rw [shed_ended _ hend]
      exact ⟨hend, fun m _ => shed_ended m hend⟩
    · obtain ⟨t, ht, hstep⟩ := shed_acts hend
      obtain ⟨hended, hsame⟩ := ih t (by omega)
      rw [hstep]
      refine ⟨hended, fun m hm => ?_⟩
      obtain ⟨m, rfl⟩ := Nat.exists_eq_succ_of_ne_zero (Nat.ne_of_gt (by omega : 0 < m))
      rw [Nat.succ_eq_add_one, hstep, hsame m (by omega)]

/-! ### The loop of restore (R64) -/

theorem restore_brownout (n : Nat) {s : State} (h : s.supply.brownout = true) : restore n s = s := by
  cases n with
  | zero => rfl
  | succ n => rw [restore, if_pos h]

theorem restore_none (n : Nat) {s : State} (h : pickBest s isCapped = none) : restore n s = s := by
  cases n with
  | zero => rfl
  | succ n =>
    rw [restore, h]
    exact ite_self s

theorem restore_some (n : Nat) {s : State} {i : Slot} (hb : s.supply.brownout = false)
    (h : pickBest s isCapped = some i) :
    restore (n + 1) s = if restoreNeed s i ≤ headroom s then restore n (uncapSlot i s) else s := by
  rw [restore, h, if_neg (by simp [hb])]

def cappedCount (s : State) : Nat := allSlots.countP fun i => isCapped (s.slot i)

theorem uncapSlot_cappedCount {i : Slot} {s : State} (h : isCapped (s.slot i) = true) :
    cappedCount (uncapSlot i s) < cappedCount s := by
  have hi : isCapped ((uncapSlot i s).slot i) = false := by rw [uncapSlot_slot, if_pos rfl]; rfl
  have hc := countP_update allSlots (by decide) i (mem_allSlots i) (fun j => isCapped (s.slot j))
    (fun j => isCapped ((uncapSlot i s).slot j)) fun j hj => by rw [uncapSlot_slot, if_neg hj]
  rw [if_pos h, if_neg (by simp [hi])] at hc
  unfold cappedCount
  omega

/-- Restores beyond the capped slots change nothing (log 20). -/
theorem restore_bound (m n : Nat) (s : State) (hm : cappedCount s ≤ m) (hn : cappedCount s ≤ n) :
    restore m s = restore n s := by
  induction m generalizing n s with
  | zero =>
    cases hp : pickBest s isCapped with
    | none => rw [restore_none _ hp, restore_none _ hp]
    | some i =>
      have := uncapSlot_cappedCount (pickBest_holds hp)
      omega
  | succ m ih =>
    cases hb : s.supply.brownout with
    | true => rw [restore_brownout _ hb, restore_brownout _ hb]
    | false =>
      cases hp : pickBest s isCapped with
      | none => rw [restore_none _ hp, restore_none _ hp]
      | some i =>
        have hlt := uncapSlot_cappedCount (pickBest_holds hp)
        obtain ⟨n, rfl⟩ := Nat.exists_eq_succ_of_ne_zero (Nat.ne_of_gt (by omega : 0 < n))
        rw [Nat.succ_eq_add_one, restore_some m hb hp, restore_some n hb hp,
          ih n (uncapSlot i s) (by omega) (by omega)]

theorem cappedCount_le (s : State) : cappedCount s ≤ 16 := List.countP_le_length

/-! ### The actions written out -/

theorem offerControl_eq (i : Slot) (f : ControlFrame) (s : State) :
    offerControl i f s = { s with slots := (offerControl i f s).slots } := rfl

/-- The state of a cap before its slot moves (R59). -/
def capOffered (i : Slot) (s : State) : State :=
  offerControl i (capFrame s ((s.slot i).bud.capSeq + 1) (effectiveFloor (s.slot i)))
    (s.modBud i fun b =>
      { b with
        mainW := effectiveFloor (s.slot i), capped := true, capSeq := (s.slot i).bud.capSeq + 1
        capAck := .running (s.timing.capAckS * 1000) })

theorem capSlot_moves (i : Slot) (s : State) : capSlot i s = raise { kind := .shed, index := 0 }
    (if s.slotState i = .online then moveTo i .capped (capOffered i s) else capOffered i s) := rfl

theorem capSlot_eq (i : Slot) (s : State) : capSlot i s =
    { s with
      slots := (capSlot i s).slots
      mgmt := { s.mgmt with alerts := raisedAlerts { kind := .shed, index := 0 } s.mgmt.alerts }
      budget := { s.budget with
        queue := if s.slotState i = .online then withoutRequest i s.budget.queue else s.budget.queue } } := by
  rw [capSlot_moves, raise_eq]
  by_cases h : s.slotState i = .online
  · simp only [if_pos h]
    rfl
  · simp only [if_neg h]
    rfl

/-- The state of an uncap before its slot moves (R65). -/
def uncapOffered (i : Slot) (s : State) : State :=
  offerControl i (uncapFrame s (s.slot i).bud.capSeq (s.slot i).bud.grantW)
    (s.modBud i fun b => { b with mainW := b.grantW, capped := false, capAck := .stopped })

theorem uncapSlot_moves (i : Slot) (s : State) : uncapSlot i s =
    if s.slotState i = .capped then moveTo i .online (uncapOffered i s) else uncapOffered i s := rfl

theorem uncapSlot_eq (i : Slot) (s : State) : uncapSlot i s =
    { s with
      slots := (uncapSlot i s).slots
      budget := { s.budget with
        queue := if s.slotState i = .capped then withoutRequest i s.budget.queue else s.budget.queue } } := by
  rw [uncapSlot_moves]
  by_cases h : s.slotState i = .capped
  · simp only [if_pos h]
    rfl
  · simp only [if_neg h]
    rfl

theorem standbyCut_eq (i : Slot) (s : State) : standbyCut i s =
    { s with
      slots := (standbyCut i s).slots, stations := s.stations.filter fun e => decide (e.owner ≠ i)
      freeCells := s.freeCells + frameCells (s.slot i).que.egress
      budget := { s.budget with
        queue := insertStandby { slot := i, kind := .standby, short := false } (withoutRequest i s.budget.queue) }
      mgmt := { s.mgmt with alerts := raisedAlerts { kind := .shed, index := 0 } s.mgmt.alerts } } := by
  have hcells : frameCells ((purgeStations i (s.modSlot i fun r =>
      { r with
        rail := { r.rail with standbyRail := false }, bud := { r.bud with standbyW := 0 },
        adm := { r.adm with announceWindow := .stopped }, tel := clearTelemetry r.tel })).slot i).que.egress =
      frameCells (s.slot i).que.egress := by
    simp [purgeStations_slot]
  simp only [standbyCut, raiseChassis, raise_eq, flushSlot, flushEgress, hcells]
  rfl

/-- Settles O47: the orders by the picks, the loops by their measures, the actions by their records and frames. -/
theorem shedAndRestoreActOnTheirSlots : Obligations.ShedAndRestoreActOnTheirSlots := by
  refine ⟨fun r => ?_, fun s p => ⟨pickWorst_eq_none s p, pickBest_eq_none s p, pickHighest_eq_none s p⟩, fun s => ?_,
    fun n s => ?_, fun n s => ?_, pickWorst_eq_some, pickBest_eq_some, pickHighest_eq_some, fun i s hst => ?_,
    fun i s hst => ?_, fun i s => ?_, fun i s => ?_⟩
  · refine ⟨by simp [capCandidate], by simp [isPowering], ?_, ?_, Iff.rfl⟩
    · rw [isMainPowered]
      generalize r.adm.state = st
      cases st <;> decide
    · rw [isStandbyOnly]
      generalize r.adm.state = st
      cases st <;> decide
  · refine ⟨fun i hi => by rw [shedOne, hi], fun h1 => ?_⟩
    rw [← pickWorst_eq_none] at h1
    refine ⟨fun i hi => by rw [shedOne, h1, hi], fun h2 => ?_⟩
    have h2' : pickHighest s isPowering = none := (pickHighest_eq_none s _).mpr fun i => by
      simpa [isPowering, State.slotState] using h2 i
    refine ⟨fun i hi => by rw [shedOne, h1, h2', hi], fun h3 => ?_⟩
    rw [← pickWorst_eq_none] at h3
    refine ⟨fun i hi => by rw [shedOne, h1, h2', h3, hi], fun h4 => ?_⟩
    rw [← pickWorst_eq_none] at h4
    rw [shedOne, h1, h2', h3, h4]
  · obtain ⟨hended, hsame⟩ := shed_bound 48 s (shedMeasure_le s)
    exact ⟨fun h => shed_ended _ (.inl h), fun _ h => shed_ended _ (.inr h), fun t hneg h => shed_some n hneg h,
      fun hn => hsame n ((shedMeasure_le s).trans hn), hended⟩
  · refine ⟨fun h => ?_, fun i hb hi => ?_, fun hn => restore_bound n 16 s ((cappedCount_le s).trans hn) (cappedCount_le s)⟩
    · obtain h | h := h
      · exact restore_brownout _ h
      · exact restore_none _ ((pickBest_eq_none s _).mpr h)
    · rw [restore_some n hb hi]
      exact ⟨fun h => if_pos h, fun h => if_neg h.not_ge⟩
  · have hslot := capSlot_slot i i s
    rw [if_pos rfl] at hslot
    have hframe := capSlot_eq i s
    refine ⟨?_, fun j hj => by rw [capSlot_slot, if_neg hj], fun a => ?_, ?_, ?_⟩
    · have hstate : (if (s.slot i).adm.state = .online then .capped else (s.slot i).adm.state) =
          if s.slotState i = .online then SlotState.capped else .shuttingDown := by
        rw [State.slotState] at hst ⊢
        obtain hst | hst := hst <;> simp [hst]
      rw [hslot, cappedRecord, hstate]
    · rw [hframe]
      exact mem_raisedAlerts _ a _
    · have hcommit : commitment (cappedRecord s i) = (s.slot i).bud.standbyW + effectiveFloor (s.slot i) := rfl
      rw [headroom_change (capSlot_slot i · s) (by rw [hframe]) (by rw [hframe]), hcommit, commitment]
      omega
    · rw [hframe]
      rfl
  · have hslot := uncapSlot_slot i i s
    rw [if_pos rfl] at hslot
    have hframe := uncapSlot_eq i s
    refine ⟨?_, fun j hj => by rw [uncapSlot_slot, if_neg hj], ?_, hframe⟩
    · have hstate : (if (s.slot i).adm.state = .capped then .online else (s.slot i).adm.state) =
          if s.slotState i = .capped then SlotState.online else .shuttingDown := by
        rw [State.slotState] at hst ⊢
        obtain hst | hst := hst <;> simp [hst]
      rw [hslot, uncappedRecord, hstate]
    · have hcommit : commitment (uncappedRecord s i) = (s.slot i).bud.standbyW + (s.slot i).bud.grantW := rfl
      rw [headroom_change (uncapSlot_slot i · s) (by rw [hframe]) (by rw [hframe]), hcommit, commitment]
      omega
  · refine ⟨?_, fun a => mem_raise _ _ _⟩
    have hmgmt := congrArg State.mgmt (mainOff_frame i .powerWait s)
    rw [powerOff, raiseChassis, raise_eq, hmgmt]
  · have hslot := standbyCut_slot i i s
    rw [if_pos rfl] at hslot
    have hframe := standbyCut_eq i s
    refine ⟨?_, fun j hj => by rw [standbyCut_slot, if_neg hj], ?_, ?_, ?_, ?_, fun a => ?_, ?_⟩
    · rw [hslot, cutRecord, funext releaseAddress_eq]
      rfl
    · rw [hframe]
    · rw [hframe]
    · rw [hframe]
      rfl
    · have hcommit : commitment (cutRecord (s.slot i)) = (s.slot i).bud.mainW := Nat.zero_add _
      rw [headroom_change (standbyCut_slot i · s) (by rw [hframe]) (by rw [hframe]), hcommit, commitment]
      omega
    · rw [hframe]
      exact mem_raisedAlerts _ a _
    · rw [hframe]

end Sys2Proof.Machine
end

section
/-! SUPPORT. ANNOUNCE bodies read back, and what an ANNOUNCE does by the slot's state (O24, O25). -/

namespace Sys2Proof.Machine

/-! ### ANNOUNCE bodies read back (R178) -/

theorem octetAt_append_left (a l : Octets) (k : Nat) (h : k < a.length) : octetAt (a ++ l) k = a[k] := by
  rw [octetAt, List.getD_append _ _ _ _ h, List.getD_eq_getElem _ _ h]

theorem octet_toNat {n : Nat} (h : n < 256) : (octet n).toNat = n := by
  rw [octet, BitVec.toNat_ofNat, Nat.mod_eq_of_lt h]

/-- Addresses are read back in their order. -/
theorem stationsIn_octets (l : List Station) : stationsIn l.length (l.flatMap be48) = l := by
  induction l with
  | nil => rfl
  | cons a l ih =>
    rw [List.length_cons, List.flatMap_cons, stationsIn, ← be48_length a, List.drop_left, ih]
    congr 1
    exact stationAt_be48 [] _ a 0 rfl

/-- The octets of an ANNOUNCE before its addresses. -/
def announceFront (b : AnnounceBody) : Octets :=
  be16 b.bladeType ++ (b.serial.toList ++ (be16 b.firmware ++ (be16 b.requested ++ (be16 b.floor ++
    [octet b.addresses.length]))))

theorem announceOctets_eq (b : AnnounceBody) :
    announceOctets b = announceFront b ++ b.addresses.flatMap be48 := by
  simp [announceOctets, announceFront]

theorem announceFront_length (b : AnnounceBody) : (announceFront b).length = 25 := by
  simp [announceFront]

theorem announceOctets_length (b : AnnounceBody) : (announceOctets b).length = 25 + 6 * b.addresses.length := by
  have h (l : List Station) : (l.flatMap be48).length = 6 * l.length := by
    induction l with
    | nil => rfl
    | cons a l ih =>
      rw [List.flatMap_cons, List.length_append, ih, be48_length, List.length_cons]
      omega
  rw [announceOctets_eq, List.length_append, announceFront_length, h]

/-- An ANNOUNCE body is read back with every field it was composed of. -/
theorem readAnnounce_octets (b : AnnounceBody) (h : b.addresses.length < 256) :
    octetAt (announceOctets b) 24 = octet b.addresses.length ∧ readAnnounce (announceOctets b) = b := by
  have hserial : b.serial.toList.length = 16 := by simp
  have heq := announceOctets_eq b
  have hcount : octetAt (announceOctets b) 24 = octet b.addresses.length := by
    have h1 := octetAt_append_right (be16 b.bladeType ++ (b.serial.toList ++ (be16 b.firmware ++ (be16 b.requested ++
      be16 b.floor)))) (octet b.addresses.length :: b.addresses.flatMap be48) 0
    simpa [announceOctets, octetAt_zero] using h1
  refine ⟨hcount, ?_⟩
  have hdrop : (announceOctets b).drop 25 = b.addresses.flatMap be48 := by
    rw [heq, ← announceFront_length b, List.drop_left]
  have htype : word16At (announceOctets b) 0 = b.bladeType := by
    rw [heq, announceFront, List.append_assoc]
    exact word16At_be16 [] _ _ 0 rfl
  have hfirmware : word16At (announceOctets b) 18 = b.firmware := by
    have := word16At_be16 (be16 b.bladeType ++ b.serial.toList)
      (be16 b.requested ++ (be16 b.floor ++ [octet b.addresses.length]) ++ b.addresses.flatMap be48) b.firmware 18
      (by simp)
    simpa [announceOctets] using this
  have hrequested : word16At (announceOctets b) 20 = b.requested := by
    have := word16At_be16 (be16 b.bladeType ++ (b.serial.toList ++ be16 b.firmware))
      (be16 b.floor ++ [octet b.addresses.length] ++ b.addresses.flatMap be48) b.requested 20 (by simp)
    simpa [announceOctets] using this
  have hfloor : word16At (announceOctets b) 22 = b.floor := by
    have := word16At_be16 (be16 b.bladeType ++ (b.serial.toList ++ (be16 b.firmware ++ be16 b.requested)))
      ([octet b.addresses.length] ++ b.addresses.flatMap be48) b.floor 22 (by simp)
    simpa [announceOctets] using this
  have hbytes (k : Fin 16) : octetAt (announceOctets b) (2 + k.val) = b.serial[k] := by
    rw [heq, announceFront, List.append_assoc]
    have h1 := octetAt_append_right (be16 b.bladeType) (b.serial.toList ++ (be16 b.firmware ++ (be16 b.requested ++
      (be16 b.floor ++ [octet b.addresses.length]))) ++ b.addresses.flatMap be48) k.val
    rw [be16_length] at h1
    rw [h1, List.append_assoc, octetAt_append_left _ _ _ (by rw [hserial]; exact k.isLt)]
    simp
  rw [readAnnounce, htype, hfirmware, hrequested, hfloor, hcount, octet_toNat h, hdrop, stationsIn_octets]
  simp only [hbytes]
  obtain ⟨_, serial, _, _, _, _⟩ := b
  congr 1
  ext k hk
  simp

/-- An ANNOUNCE that arrives is handed to its slot (R7, R130). -/
theorem exec_announce_arrives (i : Slot) (e : Envelope) (b : AnnounceBody) (s : State) (hn : b.addresses.length < 256)
    (h : ControlArrives s e (25 + 6 * b.addresses.length)) :
    exec (.announce i e b) s = .next (close (countReceived (.slot i) s)
      (takeAnnounce i b (countReceived (.slot i) s)).state (takeAnnounce i b (countReceived (.slot i) s)).cause) := by
  obtain ⟨hcount, hread⟩ := readAnnounce_octets b hn
  have hlen := announceOctets_length b
  show Host.Outcome.next (receive (.slot i) (composeControl e kindAnnounce (announceOctets b)) s) = _
  rw [receive_control s (.slot i) e kindAnnounce (announceOctets b) (by rw [hlen]; exact h)]
  have hclass : bodyClass s (.slot i) kindAnnounce e.sequence e.source (announceOctets b) = .announce i b := by
    rw [bodyClass, if_pos rfl, hcount, octet_toNat hn, hlen, if_pos ⟨by omega, rfl⟩, hread]
  rw [hclass]
  rfl

/-! ### The refresh written out (R26) -/

/-- Whether a refresh finds an address that another slot holds. -/
def refreshConflict (i : Slot) (l : List Station) (s : State) : Bool :=
  ((firstAppearances l).map (judgeAddress s (s.stations.filter fun e => decide (e.owner ≠ i)))).any
    fun a => a.status == .conflict

/-- The table and the address list of a refresh, before its alert. -/
def refreshedState (i : Slot) (l : List Station) (s : State) : State :=
  State.modInv
    { s with
      stations := placeEntries (s.stations.filter fun e => decide (e.owner ≠ i)) i
        (enteredOf s (s.stations.filter fun e => decide (e.owner ≠ i)) l) }
    i fun r =>
    { r with
      addresses := (firstAppearances l).map (judgeAddress s (s.stations.filter fun e => decide (e.owner ≠ i)))
      conflict := refreshConflict i l s }

theorem refreshStations_eq (i : Slot) (l : List Station) (s : State) : refreshStations i l s =
    if refreshConflict i l s = true then raise { kind := .addrConflict, index := i.val + 1 } (refreshedState i l s)
    else refreshedState i l s := rfl

/-- What a refresh leaves as it is, and what it makes of the table and the alert set. -/
theorem refreshStations_frame (i : Slot) (l : List Station) (s : State) : refreshStations i l s =
    { s with
      slots := (refreshStations i l s).slots
      stations := placeEntries (s.stations.filter fun e => decide (e.owner ≠ i)) i
        (enteredOf s (s.stations.filter fun e => decide (e.owner ≠ i)) l)
      mgmt := { s.mgmt with
        alerts :=
          if refreshConflict i l s = true then
            raisedAlerts { kind := .addrConflict, index := i.val + 1 } s.mgmt.alerts
          else s.mgmt.alerts } } := by
  rw [refreshStations_eq, raise_eq]
  by_cases h : refreshConflict i l s = true
  · simp only [if_pos h]
    rfl
  · simp only [if_neg h]
    rfl

/-! ### ANNOUNCE by the slot's state (R7, R8, R13) -/

theorem takeAnnounce_offline {i : Slot} {s : State} (b : AnnounceBody)
    (h : s.slotState i = .empty ∨ s.slotState i = .standbyWait) :
    takeAnnounce i b s = { state := drop (.slot i) .notOnline s, cause := false } := if_pos h

theorem takeAnnounce_unasked {i : Slot} {s : State} {b : AnnounceBody} (h1 : s.slotState i ≠ .empty)
    (h2 : s.slotState i ≠ .standbyWait) (hb : b.requested = 0) :
    takeAnnounce i b s = { state := drop (.slot i) .malformed s, cause := false } := by
  rw [takeAnnounce, if_neg (not_or.mpr ⟨h1, h2⟩), if_pos hb]

theorem takeAnnounce_asked {i : Slot} {s : State} {b : AnnounceBody} (h1 : s.slotState i ≠ .empty)
    (h2 : s.slotState i ≠ .standbyWait) (hb : b.requested ≠ 0) :
    takeAnnounce i b s = if (s.slotState i).evaluated = true then evaluateAnnounce i b s
      else { state := recordOnly i b s, cause := false } := by
  rw [takeAnnounce, if_neg (not_or.mpr ⟨h1, h2⟩), if_neg hb]

/-- An alert that is raised under a condition. -/
theorem mem_alerts_ite {c : Prop} [Decidable c] (a b : Alert) (l : List Alert) :
    b ∈ (if c then raisedAlerts a l else l) ↔ (b = a ∧ c) ∨ b ∈ l := by
  split
  next h => rw [mem_raisedAlerts]; simp [h]
  next h => simp [h]

/-- Settles O24: an ANNOUNCE that arrives is dropped, evaluated or recorded. -/
theorem announceByTheSlotState : Obligations.AnnounceByTheSlotState := by
  intro i e b s r hn harr hr
  have hexec := exec_announce_arrives i e b s hn harr
  rw [← hr] at hexec
  have hstate : r.slotState i = s.slotState i := by rw [hr]; rfl
  rw [hexec]
  refine ⟨fun h => ?_, fun h1 h2 hb => ?_, fun hb hst => ?_, fun hb hst => ?_⟩
  · rw [takeAnnounce_offline b (by rw [hstate]; exact h)]
  · rw [takeAnnounce_unasked (by rwa [hstate]) (by rwa [hstate]) hb]
  · have hcase : s.slotState i ≠ .empty ∧ s.slotState i ≠ .standbyWait ∧ (s.slotState i).evaluated = true := by
      generalize s.slotState i = st at hst
      cases st <;> simp_all [SlotState.evaluated]
    rw [takeAnnounce_asked (by rw [hstate]; exact hcase.1) (by rw [hstate]; exact hcase.2.1) hb, hstate,
      if_pos hcase.2.2]
  · have hcase : s.slotState i ≠ .empty ∧ s.slotState i ≠ .standbyWait ∧ (s.slotState i).evaluated = false := by
      generalize s.slotState i = st at hst
      cases st <;> simp_all [SlotState.evaluated]
    rw [takeAnnounce_asked (by rw [hstate]; exact hcase.1) (by rw [hstate]; exact hcase.2.1) hb, hstate,
      if_neg (by rw [hcase.2.2]; simp)]
    have hslot (j : Slot) := refreshStations_slot i j (b.addresses.take 4)
      (r.modInv i (recordAnnounce (governing r b.bladeType) b))
    have hi := hslot i
    have hmod : (r.modInv i (recordAnnounce (governing r b.bladeType) b)).slot i =
        { r.slot i with inv := recordAnnounce (governing r b.bladeType) b (r.slot i).inv } :=
      State.slot_modSlot_same _ _ _
    rw [if_pos rfl, hmod] at hi
    refine ⟨recordOnly i b r, rfl, ?_, ?_, fun j hj => ?_, ?_, fun a => ?_, ?_⟩
    · rw [recordOnly, hi, hr]
      rfl
    · rw [recordOnly, hi, hr]
      rfl
    · rw [recordOnly, hslot, if_neg hj, State.modInv_eq, State.slot_modSlot_ne _ _ hj, hr]
      rfl
    · rw [recordOnly, hi, (refreshStations_table _ _ _).1, hr]
      rfl
    · rw [recordOnly, hi, refreshStations_frame, hr]
      exact mem_alerts_ite _ a _
    · rw [recordOnly, refreshStations_frame]
      rfl

end Sys2Proof.Machine
end

section
/-! SUPPORT. The evaluation of an ANNOUNCE by its governing record (O25). -/

namespace Sys2Proof.Machine

/-! ### The steps of a refresh, the placing of entries, the governing record (R10, R25, R26) -/

theorem firstAppearances_append (l : List Station) (a : Station) : firstAppearances (l ++ [a]) =
    if a ∈ l then firstAppearances l else firstAppearances l ++ [a] := by
  induction l with
  | nil => rfl
  | cons b l ih =>
    rw [List.cons_append, firstAppearances, ih, firstAppearances]
    by_cases hl : a ∈ l
    · rw [if_pos hl, if_pos (List.mem_cons_of_mem b hl)]
    · rw [if_neg hl, List.filter_append]
      by_cases hab : a = b
      · subst hab
        simp
      · rw [if_neg (by simp [hab, hl]), List.filter_cons_of_pos (by simpa using hab)]
        rfl

theorem ownerOf_isSome (table : List StationEntry) (a : Station) :
    (ownerOf table a).isSome = true ↔ a ∈ table.map (·.address) := by
  simp [ownerOf]

theorem judgeAddress_eq (s : State) (others : List StationEntry) (a : Station) : judgeAddress s others a =
    { address := a
      status :=
        if a.getLsbD 40 = true ∨ a = 0 ∨ a = s.station then .invalid
        else if a ∈ others.map (·.address) then .conflict else .entered } := by
  have hinvalid : invalidStation s a = true ↔ a.getLsbD 40 = true ∨ a = 0 ∨ a = s.station := by
    simp [invalidStation, isGroup, or_assoc]
  rw [judgeAddress]
  exact congrArg (AddressEntry.mk a) (if_congr hinvalid rfl (if_congr (ownerOf_isSome others a) rfl rfl))

/-- A slot's entries stand between those of the slots before and after it. -/
theorem placeEntries_split (before after : List StationEntry) (i : Slot) (l : List Station)
    (hb : ∀ x ∈ before, x.owner < i) (ha : ∀ x ∈ after, i < x.owner) :
    placeEntries (before ++ after) i l = before ++ l.map (fun a => { address := a, owner := i }) ++ after := by
  have h1 : (before ++ after).filter (fun e => decide (e.owner < i)) = before := by
    rw [List.filter_append, List.filter_eq_self.mpr (by simpa using hb), List.filter_eq_nil_iff.mpr, List.append_nil]
    exact fun x hx => by simpa using (ha x hx).le
  have h2 : (before ++ after).filter (fun e => !decide (e.owner < i)) = after := by
    rw [List.filter_append, List.filter_eq_nil_iff.mpr (by simpa using hb), List.filter_eq_self.mpr, List.nil_append]
    exact fun x hx => by simpa using (ha x hx).le
  rw [placeEntries, h1, h2]

/-- The entry of a blade type governs it in an ordered table. -/
theorem governing_entry {s : State} {x : AdmissionEntry} (hx : x ∈ s.admissionTable) (h : AdmissionOrdered s) :
    governing s x.bladeType = x.rule := by
  obtain ⟨hord, -⟩ := h
  have hnodup : (s.admissionTable.map fun e => e.bladeType.toNat).Nodup :=
    List.pairwise_map.mpr (hord.imp fun h => h.ne)
  obtain ⟨y, hy⟩ := Option.isSome_iff_exists.mp
    (List.find?_isSome (p := fun e => decide (e.bladeType = x.bladeType)).mpr ⟨x, hx, by simp⟩)
  have htype : y.bladeType = x.bladeType := by simpa using List.find?_some hy
  have hxy : y = x := List.inj_on_of_nodup_map hnodup (List.mem_of_find?_eq_some hy) hx (congrArg BitVec.toNat htype)
  rw [governing, hy, hxy]

theorem governing_default {s : State} {k : Word16} (h : ∀ x ∈ s.admissionTable, x.bladeType ≠ k) :
    governing s k = s.admissionDefault := by
  rw [governing, List.find?_eq_none.mpr (by simpa using h)]

/-! ### The record and the state of an evaluated ANNOUNCE (R8, R10, R11, R12) -/

/-- The state that a record's action gives a slot. -/
def judgedState (g : AdmissionRule) (a : AdmissionPart) : SlotState :=
  if g.action = .deny then .denied
  else if a.state = .powerWait ∨ a.policy = .auto then .powerWait else .standby

theorem applyPriority_slot (g : AdmissionRule) (i j : Slot) (s : State) : (applyPriority g i s).slot j =
    if j = i then
      { s.slot i with adm := { (s.slot i).adm with priority := g.priority.getD (s.slot i).adm.priority } }
    else s.slot j := by
  unfold applyPriority
  cases g.priority with
  | none =>
    dsimp only [Option.getD]
    split
    next h => rw [h]
    next => rfl
  | some p => exact setPriority_slot i j p s

theorem applyAction_eq (g : AdmissionRule) (i : Slot) (s : State) : applyAction g i s =
    if g.action = .deny then raiseSlot .attention i (moveTo i .denied s)
    else if s.slotState i = .powerWait then s else moveTo i (judgedState g (s.slot i).adm) s := by
  unfold applyAction
  split
  next h => rw [if_pos h]
  next h =>
    have hn : g.action ≠ .deny := by simp [h]
    rw [if_neg hn]
    split
    next => rfl
    next hw =>
      have hw' : (s.slot i).adm.state ≠ .powerWait := hw
      have hto : admittedState (s.slotState i) (s.slot i).adm.policy = judgedState g (s.slot i).adm := by
        unfold admittedState judgedState
        rw [if_neg hw, if_neg hn]
        cases (s.slot i).adm.policy <;> simp [hw']
      rw [hto]

theorem applyAction_slot (g : AdmissionRule) (i j : Slot) (s : State) : (applyAction g i s).slot j =
    if j = i then { s.slot i with adm := { (s.slot i).adm with state := judgedState g (s.slot i).adm } }
    else s.slot j := by
  rw [applyAction_eq]
  split
  next h => rw [raiseSlot_slot, moveTo_slot, judgedState, if_pos h]
  next h =>
    split
    next hw =>
      have hw' : (s.slot i).adm.state = .powerWait := hw
      have hstay : judgedState g (s.slot i).adm = (s.slot i).adm.state := by
        rw [judgedState, if_neg h, if_pos (.inl hw'), hw']
      rw [hstay]
      split
      next hj => rw [hj]
      next => rfl
    next => exact moveTo_slot i _ s j

/-- What setting a priority leaves as it is. -/
theorem setPriority_frame (i : Slot) (p : Fin 4) (s : State) : setPriority i p s =
    { s with
      slots := (setPriority i p s).slots
      budget := { s.budget with queue := (setPriority i p s).budget.queue } } := by
  unfold setPriority
  split
  next => rfl
  next =>
    dsimp only
    split <;> rfl

theorem applyPriority_frame (g : AdmissionRule) (i : Slot) (s : State) : applyPriority g i s =
    { s with
      slots := (applyPriority g i s).slots
      budget := { s.budget with queue := (applyPriority g i s).budget.queue } } := by
  unfold applyPriority
  cases g.priority with
  | none => rfl
  | some p => exact setPriority_frame i p s

theorem applyAction_frame (g : AdmissionRule) (i : Slot) (s : State) : applyAction g i s =
    { s with
      slots := (applyAction g i s).slots
      budget := { s.budget with queue := (applyAction g i s).budget.queue }
      mgmt := { s.mgmt with
        alerts :=
          if g.action = .deny then raisedAlerts { kind := .attention, index := i.val + 1 } s.mgmt.alerts
          else s.mgmt.alerts } } := by
  rw [applyAction_eq, raiseSlot, raise_eq]
  by_cases h : g.action = .deny
  · simp only [if_pos h]
    rfl
  · simp only [if_neg h]
    by_cases hw : s.slotState i = .powerWait
    · simp only [if_pos hw]
    · simp only [if_neg hw]
      rw [moveTo_eq]
      rfl

/-- The inventory after an evaluated ANNOUNCE, before its addresses (R23). -/
def judgedInventory (g : AdmissionRule) (b : AnnounceBody) (r : InventoryRecord) : InventoryRecord :=
  { recordAnnounce g b r with lastOutcome := match g.action with
      | .allow => .allowed
      | .deny => .denied }

/-- An evaluated ANNOUNCE before its addresses are refreshed. -/
def judgedAnnounce (i : Slot) (b : AnnounceBody) (s : State) : State :=
  let g := governing s b.bladeType
  (applyAction g i (applyPriority g i (s.modInv i (judgedInventory g b)))).modAdm i
    fun a => { a with announceWindow := .stopped }

theorem evaluateAnnounce_state (i : Slot) (b : AnnounceBody) (s : State) : (evaluateAnnounce i b s).state =
    offerControl i
      (admitResultFrame s ((governing s b.bladeType).action == .deny)
        (effectivePair (governing s b.bladeType) (announcedPair b)))
      (refreshStations i (b.addresses.take 4) (judgedAnnounce i b s)) := rfl

theorem judgedAnnounce_slot (i j : Slot) (b : AnnounceBody) (s : State) : (judgedAnnounce i b s).slot j =
    if j = i then
      { s.slot i with
        adm := { (s.slot i).adm with
          state := judgedState (governing s b.bladeType) (s.slot i).adm
          priority := (governing s b.bladeType).priority.getD (s.slot i).adm.priority
          announceWindow := .stopped }
        inv := judgedInventory (governing s b.bladeType) b (s.slot i).inv }
    else s.slot j := by
  simp only [judgedAnnounce, State.modAdm_eq, State.modInv_eq, State.slot_modSlot, applyAction_slot,
    applyPriority_slot, if_true, slot_ite_ite]
  rfl

theorem judgedAnnounce_frame (i : Slot) (b : AnnounceBody) (s : State) : judgedAnnounce i b s =
    { s with
      slots := (judgedAnnounce i b s).slots
      budget := { s.budget with queue := (judgedAnnounce i b s).budget.queue }
      mgmt := { s.mgmt with
        alerts :=
          if (governing s b.bladeType).action = .deny then
            raisedAlerts { kind := .attention, index := i.val + 1 } s.mgmt.alerts
          else s.mgmt.alerts } } := by
  unfold judgedAnnounce
  dsimp only
  rw [applyAction_frame, applyPriority_frame]
  rfl

/-! ### The state after an evaluated ANNOUNCE -/

theorem evaluateAnnounce_slot (i j : Slot) (b : AnnounceBody) (s : State) : (evaluateAnnounce i b s).state.slot j =
    if j = i then
      { s.slot i with
        adm := { (s.slot i).adm with
          state := judgedState (governing s b.bladeType) (s.slot i).adm
          priority := (governing s b.bladeType).priority.getD (s.slot i).adm.priority
          announceWindow := .stopped }
        inv := { judgedInventory (governing s b.bladeType) b (s.slot i).inv with
          addresses := (firstAppearances (b.addresses.take 4)).map
            (judgeAddress s (s.stations.filter fun e => decide (e.owner ≠ i)))
          conflict := refreshConflict i (b.addresses.take 4) s }
        que := { (s.slot i).que with
          control := replaceOrAppend
            (admitResultFrame s ((governing s b.bladeType).action == .deny)
              (effectivePair (governing s b.bladeType) (announcedPair b))) (s.slot i).que.control } }
    else s.slot j := by
  have hframe := judgedAnnounce_frame i b s
  have hjudge : judgeAddress (judgedAnnounce i b s) = judgeAddress s := by rw [hframe]; rfl
  have hstations : (judgedAnnounce i b s).stations = s.stations := by rw [hframe]
  rw [evaluateAnnounce_state, offerControl_slot, refreshStations_slot, if_pos rfl, refreshStations_slot, hjudge, hstations]
  simp only [judgedAnnounce_slot, if_true, slot_ite_ite]
  rfl

/-- What an evaluated ANNOUNCE leaves as it is, with its table and its alerts. -/
theorem evaluateAnnounce_frame (i : Slot) (b : AnnounceBody) (s : State) : (evaluateAnnounce i b s).state =
    { s with
      slots := (evaluateAnnounce i b s).state.slots
      stations := placeEntries (s.stations.filter fun e => decide (e.owner ≠ i)) i
        (enteredOf s (s.stations.filter fun e => decide (e.owner ≠ i)) (b.addresses.take 4))
      budget := { s.budget with queue := (judgedAnnounce i b s).budget.queue }
      mgmt := { s.mgmt with
        alerts :=
          if refreshConflict i (b.addresses.take 4) s = true then
            raisedAlerts { kind := .addrConflict, index := i.val + 1 }
              (if (governing s b.bladeType).action = .deny then
                raisedAlerts { kind := .attention, index := i.val + 1 } s.mgmt.alerts
              else s.mgmt.alerts)
          else if (governing s b.bladeType).action = .deny then
            raisedAlerts { kind := .attention, index := i.val + 1 } s.mgmt.alerts
          else s.mgmt.alerts } } := by
  rw [evaluateAnnounce_state, refreshStations_frame]
  have hframe := judgedAnnounce_frame i b s
  generalize (judgedAnnounce i b s).slots = slots, (judgedAnnounce i b s).budget.queue = queue at hframe ⊢
  rw [hframe]
  rfl

/-! ### The queue after an evaluated ANNOUNCE (R12, R14, R52) -/

theorem setPriority_priorityOf (i : Slot) (p : Fin 4) (s : State) : (setPriority i p s).priorityOf i = p := by
  rw [State.priorityOf, setPriority_slot, if_pos rfl]

/-- A priority that stays leaves the queue. -/
theorem applyPriority_queue_same {g : AdmissionRule} {i : Slot} {s : State}
    (h : (applyPriority g i s).priorityOf i = s.priorityOf i) : (applyPriority g i s).budget.queue = s.budget.queue := by
  unfold applyPriority at h ⊢
  cases hp : g.priority with
  | none => rfl
  | some p =>
    rw [hp] at h
    dsimp only at h ⊢
    rw [setPriority_priorityOf] at h
    rw [setPriority, if_pos h]

/-- A changed priority moves the waiting main request to the tail of its new group, its mark kept. -/
theorem applyPriority_queue_moved {g : AdmissionRule} {i : Slot} {s : State}
    (h : (applyPriority g i s).priorityOf i ≠ s.priorityOf i) (hnodup : (s.budget.queue.map (·.slot)).Nodup)
    {x : Request} (hx : x ∈ s.budget.queue) (hi : x.slot = i) (hk : x.kind = .main) :
    (applyPriority g i s).budget.queue =
      insertMain (applyPriority g i s).priorityOf x (withoutRequest i s.budget.queue) := by
  unfold applyPriority at h ⊢
  cases hp : g.priority with
  | none =>
    rw [hp] at h
    exact absurd rfl h
  | some p =>
    rw [hp] at h
    dsimp only at h ⊢
    rw [setPriority_priorityOf] at h
    obtain ⟨y, hy⟩ := Option.isSome_iff_exists.mp
      (List.find?_isSome (p := fun e => decide (e.slot = i) && e.kind == .main).mpr ⟨x, hx, by simp [hi, hk]⟩)
    have hyi : y.slot = i ∧ y.kind = .main := by simpa using List.find?_some hy
    have hxy : y = x :=
      List.inj_on_of_nodup_map hnodup (List.mem_of_find?_eq_some hy) hx (hyi.1.trans hi.symm)
    rw [setPriority_budget, if_neg h, hy, hxy]

theorem withoutRequest_idem (i : Slot) (q : List Request) : withoutRequest i (withoutRequest i q) = withoutRequest i q := by
  simp [withoutRequest]

theorem withoutRequest_insertMain (p : Slot → Fin 4) {e : Request} {i : Slot} (he : e.slot = i) (q : List Request) :
    withoutRequest i (insertMain p e q) = withoutRequest i q := by
  have hdrop (l : List Request) : withoutRequest i (e :: l) = withoutRequest i l :=
    List.filter_cons_of_neg (by simp [he])
  induction q with
  | nil => exact hdrop []
  | cons r q ih =>
    unfold insertMain
    split
    next => exact hdrop _
    next =>
      have hcons (l : List Request) : withoutRequest i (r :: l) =
          (if decide (r.slot ≠ i) = true then [r] else []) ++ withoutRequest i l := by
        unfold withoutRequest
        rw [List.filter_cons]
        split <;> rfl
      rw [hcons, hcons, ih]

/-- Without the slot's own request the queue is as it was. -/
theorem applyPriority_queue_without (g : AdmissionRule) (i : Slot) (s : State) :
    withoutRequest i (applyPriority g i s).budget.queue = withoutRequest i s.budget.queue := by
  unfold applyPriority
  cases g.priority with
  | none => rfl
  | some p =>
    dsimp only
    rw [setPriority_budget]
    split
    next => rfl
    next =>
      dsimp only
      split
      next => rfl
      next e he =>
        have hei : e.slot = i ∧ e.kind = .main := by simpa using List.find?_some he
        rw [withoutRequest_insertMain _ hei.1, withoutRequest_idem]

/-! ### The evaluation judged -/

/-- The priorities after an evaluated ANNOUNCE are those that its record sets. -/
theorem prioritized_slot (g : AdmissionRule) (i j : Slot) (b : AnnounceBody) (s : State) :
    (applyPriority g i (s.modInv i (judgedInventory g b))).slot j = if j = i then
      { s.slot i with
        adm := { (s.slot i).adm with priority := g.priority.getD (s.slot i).adm.priority }
        inv := judgedInventory g b (s.slot i).inv }
      else s.slot j := by
  rw [applyPriority_slot]
  simp only [State.modInv_eq, State.slot_modSlot, if_true, slot_ite_ite]

theorem evaluateAnnounce_priorityOf (i : Slot) (b : AnnounceBody) (s : State) :
    (evaluateAnnounce i b s).state.priorityOf =
      (applyPriority (governing s b.bladeType) i
        (s.modInv i (judgedInventory (governing s b.bladeType) b))).priorityOf := by
  funext j
  rw [State.priorityOf, State.priorityOf, evaluateAnnounce_slot, prioritized_slot]
  split <;> rfl

/-- The queue after an evaluated ANNOUNCE by the record's action and the slot's state. -/
theorem evaluateAnnounce_queue (i : Slot) (b : AnnounceBody) (s t : State) (g : AdmissionRule)
    (hg : g = governing s b.bladeType) (ht : t = applyPriority g i (s.modInv i (judgedInventory g b))) :
    (evaluateAnnounce i b s).state.budget.queue =
      if g.action = .deny then withoutRequest i s.budget.queue
      else if s.slotState i = .powerWait then t.budget.queue
      else if judgedState g (s.slot i).adm = .powerWait then
        insertMain (evaluateAnnounce i b s).state.priorityOf { slot := i, kind := .main, short := false }
          (withoutRequest i s.budget.queue)
      else withoutRequest i s.budget.queue := by
  have hwithout : withoutRequest i t.budget.queue = withoutRequest i s.budget.queue := by
    rw [ht, applyPriority_queue_without]
    rfl
  have hslot : t.slot i = { s.slot i with
      adm := { (s.slot i).adm with priority := g.priority.getD (s.slot i).adm.priority }
      inv := judgedInventory g b (s.slot i).inv } := by rw [ht, prioritized_slot, if_pos rfl]
  have hstate : t.slotState i = s.slotState i := by rw [State.slotState, hslot]; rfl
  have hjudged : judgedState g (t.slot i).adm = judgedState g (s.slot i).adm := by rw [hslot]; rfl
  have hprio : (evaluateAnnounce i b s).state.priorityOf = t.priorityOf := by
    rw [ht, hg]
    exact evaluateAnnounce_priorityOf i b s
  have hqueue : (evaluateAnnounce i b s).state.budget.queue = (applyAction g i t).budget.queue := by
    rw [evaluateAnnounce_frame, ht, hg]
    rfl
  rw [hqueue, applyAction_eq, hprio, ← hwithout, hstate, hjudged]
  split
  next => rw [raiseSlot, raise_budget]; rfl
  next hn =>
    split
    next => rfl
    next =>
      rw [moveTo_eq]
      dsimp only
      have hstandby : judgedState g (s.slot i).adm ≠ .standbyWait := by
        unfold judgedState
        rw [if_neg hn]
        split <;> simp
      rw [if_neg hstandby]

/-- When an evaluation of the budget follows (R50). -/
theorem evaluateAnnounce_cause (i : Slot) (b : AnnounceBody) (s : State) :
    (evaluateAnnounce i b s).cause = true ↔
      (evaluateAnnounce i b s).state.priorityOf i ≠ s.priorityOf i ∨ s.slotState i = .powerWait ∨
        (evaluateAnnounce i b s).state.slotState i = .powerWait := by
  have hslot : (applyAction (governing s b.bladeType) i (applyPriority (governing s b.bladeType) i
      (s.modInv i (judgedInventory (governing s b.bladeType) b)))).slot i =
      { s.slot i with
        adm := { (s.slot i).adm with
          state := judgedState (governing s b.bladeType) (s.slot i).adm
          priority := (governing s b.bladeType).priority.getD (s.slot i).adm.priority }
        inv := judgedInventory (governing s b.bladeType) b (s.slot i).inv } := by
    rw [applyAction_slot, if_pos rfl, prioritized_slot, if_pos rfl]
    rfl
  have hcause : (evaluateAnnounce i b s).cause =
      (decide ((applyAction (governing s b.bladeType) i (applyPriority (governing s b.bladeType) i
        (s.modInv i (judgedInventory (governing s b.bladeType) b)))).priorityOf i ≠ s.priorityOf i) ||
        decide (s.slotState i = .powerWait) ||
        decide ((applyAction (governing s b.bladeType) i (applyPriority (governing s b.bladeType) i
          (s.modInv i (judgedInventory (governing s b.bladeType) b)))).slotState i = .powerWait)) := rfl
  generalize applyAction _ _ _ = t at hslot hcause
  have hprio : t.priorityOf i = (evaluateAnnounce i b s).state.priorityOf i := by
    rw [State.priorityOf, State.priorityOf, hslot, evaluateAnnounce_slot, if_pos rfl]
  have hstate : t.slotState i = (evaluateAnnounce i b s).state.slotState i := by
    rw [State.slotState, State.slotState, hslot, evaluateAnnounce_slot, if_pos rfl]
  rw [hcause, hprio, hstate]
  simp only [Bool.or_eq_true, decide_eq_true_eq, or_assoc]

theorem judgedInventory_eq (g : AdmissionRule) (b : AnnounceBody) (r : InventoryRecord) : judgedInventory g b r =
    { r with
      announced := true
      identity := some { bladeType := b.bladeType, serial := b.serial, firmware := b.firmware }
      announcedPair := some (announcedPair b), effectivePair := some (effectivePair g (announcedPair b))
      clamped := decide (g.maximum ≠ 0 ∧ g.maximum < (announcedPair b).requested)
      lastOutcome := if g.action = .allow then .allowed else .denied } := by
  have houtcome : (match g.action with
      | .allow => AdmissionOutcome.allowed
      | .deny => .denied) = if g.action = .allow then .allowed else .denied := by cases g.action <;> rfl
  have hclamps : clamps g (announcedPair b) =
      decide (g.maximum ≠ 0 ∧ g.maximum < (announcedPair b).requested) := (Bool.decide_and _ _).symm
  rw [judgedInventory, houtcome, recordAnnounce, hclamps]

/-- The steps of the announced pair and its clamps (R8, R10). -/
theorem effectivePair_eq (g : AdmissionRule) (p : PowerPair) :
    (g.maximum ≠ 0 → g.maximum < p.requested →
      effectivePair g p = { requested := g.maximum, floor := min p.floor g.maximum }) ∧
    ((g.maximum = 0 ∨ p.requested ≤ g.maximum) → effectivePair g p = p) := by
  unfold effectivePair clamps
  refine ⟨fun h1 h2 => by simp [h1, h2], fun h => if_neg ?_⟩
  simp only [Bool.and_eq_true, decide_eq_true_eq, not_and]
  omega

/-- A slot in a state that does not wait has no request (R14). -/
theorem QueueMatches.no_request {s : State} (h : QueueMatches s) {i : Slot} (hi : requestOf (s.slotState i) = none) :
    ∀ x ∈ s.budget.queue, x.slot ≠ i := by
  rintro x hx rfl
  obtain ⟨-, hkinds, -⟩ := h
  rw [hkinds x hx] at hi
  cases hi

theorem withoutRequest_of_none {q : List Request} {i : Slot} (h : ∀ x ∈ q, x.slot ≠ i) : withoutRequest i q = q :=
  List.filter_eq_self.mpr fun x hx => by simpa using h x hx

theorem requestOf_evaluated {st : SlotState} (h : st ∈ [.announceWait, .unidentified, .denied, .standby, .powerWait])
    (hw : st ≠ .powerWait) : requestOf st = none := by
  cases st <;> simp_all [requestOf]

/-- Settles O25: an evaluated ANNOUNCE as its record's priority and action, a refresh and an ADMIT_RESULT. -/
theorem announceIsJudgedByItsRecord : Obligations.AnnounceIsJudgedByItsRecord := by
  refine ⟨fun i b s m g pair others hst hs hg hpair hothers hm => ?_, ⟨rfl, firstAppearances_append⟩, judgeAddress_eq,
    placeEntries_split, fun s k => ⟨fun x hx h hk => hk ▸ governing_entry hx h, governing_default⟩⟩
  obtain ⟨hmatch, -⟩ := hs
  obtain ⟨hclamped, hunclamped⟩ := effectivePair_eq g (announcedPair b)
  have hslot (j : Slot) := evaluateAnnounce_slot i j b s
  have hframe := evaluateAnnounce_frame i b s
  have hqueue := evaluateAnnounce_queue i b s _ g hg rfl
  have hprio := evaluateAnnounce_priorityOf i b s
  have hcause := evaluateAnnounce_cause i b s
  rw [← hm, ← hg] at hframe hprio
  rw [← hm] at hqueue hcause
  simp only [← hm, ← hg] at hslot
  have hi := hslot i
  rw [if_pos rfl] at hi
  have hold : (s.modInv i (judgedInventory g b)).priorityOf i = s.priorityOf i := by
    rw [State.priorityOf, State.modInv_eq, State.slot_modSlot_same]
    rfl
  have hidle (hw : s.slotState i ≠ .powerWait) : withoutRequest i s.budget.queue = s.budget.queue := by
    exact withoutRequest_of_none (hmatch.no_request (requestOf_evaluated hst hw))
  have hstate (ha : g.action = .allow) (hw : s.slotState i ≠ .powerWait) :
      judgedState g (s.slot i).adm = if (s.slot i).adm.policy = .auto then .powerWait else .standby := by
    have hw' : (s.slot i).adm.state ≠ .powerWait := hw
    rw [judgedState, if_neg (by simp [ha])]
    exact if_congr (or_iff_right hw') rfl rfl
  refine ⟨rfl, rfl, fun h1 h2 => hpair.trans (hclamped h1 h2), fun h => hpair.trans (hunclamped h), ?_, ?_, ?_,
    fun j hj => by rw [hslot, if_neg hj], ?_, fun ha hw hp => ?_, fun ha hw hp => ?_, fun ha hw hp => ?_,
    fun ha hw hp x hx hxi => ?_, fun hd => ?_, hcause, fun a => ?_, ?_⟩
  · rw [hi, judgedInventory_eq, ← hpair, hothers]
    rfl
  · rw [hi]
    rfl
  · rw [hi, ← hpair]
  · rw [hi, hothers]
    exact congrArg State.stations hframe
  · have hto := (hstate ha hw).trans (if_pos hp)
    rw [hqueue, if_neg (by simp [ha]), if_neg hw, if_pos hto, hidle hw]
  · have hto := (hstate ha hw).trans (if_neg (by simp [hp]))
    rw [hqueue, if_neg (by simp [ha]), if_neg hw, if_neg (by rw [hto]; simp), hidle hw]
  · rw [hqueue, if_neg (by simp [ha]), if_pos hw]
    exact applyPriority_queue_same (s := s.modInv i (judgedInventory g b)) (by rw [← hprio, hold]; exact hp)
  · have hk : x.kind = .main := by
      have := hmatch.2.1 x hx
      rw [hxi, hw] at this
      exact (Option.some.inj this).symm
    rw [hqueue, if_neg (by simp [ha]), if_pos hw, hprio]
    exact applyPriority_queue_moved (s := s.modInv i (judgedInventory g b)) (by rw [← hprio, hold]; exact hp) hmatch.1
      hx hxi hk
  · rw [hqueue, if_pos hd]
    rfl
  · have halerts := congrArg (fun t : State => t.mgmt.alerts) hframe
    dsimp only at halerts
    rw [halerts, mem_alerts_ite, mem_alerts_ite, hi, or_left_comm]
  · rw [hframe]

end Sys2Proof.Machine
end

section
/-! SUPPORT. The commands that admit and release a slot (O44). -/

namespace Sys2Proof.Machine

/-! ### A command whose fields were read -/

theorem withArgs_some {α : Type} {args : Option α} {a : α} (h : args = some a) (s : State) (run : α → Answer) :
    withArgs args s run = run a := by
  rw [h]
  rfl

/-! ### The fields and the target of SLOT_ADMIT (R18, R24, R181) -/

theorem fieldSlot_eq_some (n : Nat) (items : List Item) (i : Slot) :
    fieldSlot n items = some i ↔ fieldNat n items = some (i.val + 1) :=
  bind_memberOf_eq_some (fieldNat n items) i

theorem slotAdmitArgs_eq_some (items : List Item) (i : Slot) (pair : PowerPair) :
    slotAdmitArgs items = some (i, pair) ↔
      itemsFit [req 1 1, req 2 2, req 3 2] items = true ∧ fieldNat 1 items = some (i.val + 1) ∧
      ∃ r f : Nat, fieldNat 2 items = some r ∧ fieldNat 3 items = some f ∧ r ≠ 0 ∧
        pair = { requested := min r 4000, floor := min f (min r 4000) } := by
  rw [← fieldSlot_eq_some, slotAdmitArgs]
  split
  next hfit =>
    simp only [Option.bind_eq_bind, Option.bind_eq_some_iff, Option.ite_none_left_eq_some, Option.some_inj,
      Prod.mk.injEq]
    constructor
    · rintro ⟨_, hi, r, hr, f, hf, hne, rfl, rfl⟩
      exact ⟨hfit, hi, r, f, hr, hf, hne, rfl⟩
    · rintro ⟨-, hi, r, f, hr, hf, hne, rfl⟩
      exact ⟨i, hi, r, hr, f, hf, hne, rfl, rfl⟩
  next hfit => simp [hfit]

/-- The clamps of R18 give a pair in range with its floor under its request. -/
theorem slotAdmitArgs_range {items : List Item} {i : Slot} {pair : PowerPair}
    (h : slotAdmitArgs items = some (i, pair)) :
    pair.floor ≤ pair.requested ∧ 1 ≤ pair.requested ∧ pair.requested ≤ 4000 := by
  obtain ⟨-, -, r, f, -, -, hr, rfl⟩ := (slotAdmitArgs_eq_some items i pair).mp h
  refine ⟨Nat.min_le_right _ _, ?_, Nat.min_le_right _ _⟩
  show 1 ≤ min r 4000
  omega

theorem policyState_eq (p : Policy) : policyState p = if p = .manual then .standby else .powerWait := by
  cases p <;> rfl

/-! ### What an admission and a release give (R18, R19, R51) -/

/-- The queue after a move depends on the queue and the priorities before it alone. -/
theorem moveTo_queue_congr (i : Slot) (st : SlotState) {s t : State} (hq : s.budget.queue = t.budget.queue)
    (hp : s.priorityOf = t.priorityOf) : (moveTo i st s).budget.queue = (moveTo i st t).budget.queue := by
  rw [moveTo_eq, moveTo_eq]
  dsimp only
  rw [hq, hp]

theorem moveTo_budget (i : Slot) (st : SlotState) (s : State) :
    (moveTo i st s).budget = { s.budget with queue := (moveTo i st s).budget.queue } := by
  rw [moveTo_eq]

theorem moveTo_slotsBudget (i : Slot) (st : SlotState) (s : State) : moveTo i st s =
    { s with slots := (moveTo i st s).slots, budget := (moveTo i st s).budget } := by
  rw [moveTo_eq]
  rfl

/-- The state of SLOT_ADMIT: the manager's pair, the policy's state and the ADMIT_RESULT (R18). -/
def admittedByManager (i : Slot) (pair : PowerPair) (s : State) : State :=
  offerControl i (admitResultFrame s false pair) (moveTo i (policyState (s.slot i).adm.policy)
    (s.modInv i fun r => { r with effectivePair := some pair, clamped := false, lastOutcome := .allowed }))

theorem admitSlot_eq (i : Slot) (pair : PowerPair) (s : State) : admitSlot i pair s =
    answerOk (admittedByManager i pair s) [[pairField pair]]
      (decide (policyState (s.slot i).adm.policy = .powerWait)) := rfl

theorem admittedByManager_slot (i : Slot) (pair : PowerPair) (s : State) (j : Slot) :
    (admittedByManager i pair s).slot j =
      if j = i then
        { s.slot i with
          adm := { (s.slot i).adm with state := policyState (s.slot i).adm.policy }
          inv := { (s.slot i).inv with effectivePair := some pair, clamped := false, lastOutcome := .allowed }
          que := { (s.slot i).que with
            control := replaceOrAppend (admitResultFrame s false pair) (s.slot i).que.control } }
      else s.slot j := by
  rw [admittedByManager, offerControl_slot, moveTo_slot, moveTo_slot, State.modInv_eq, State.slot_modSlot,
    State.slot_modSlot]
  simp only [if_pos]
  by_cases h : j = i
  · simp only [if_pos h]
    rfl
  · simp only [if_neg h]

theorem modInv_priorityOf (i : Slot) (f : InventoryRecord → InventoryRecord) (s : State) :
    (s.modInv i f).priorityOf = s.priorityOf := by
  funext j
  rw [State.priorityOf, State.modInv_eq, State.slot_modSlot]
  split
  next h => rw [h]; rfl
  next => rfl

theorem admittedByManager_queue (i : Slot) (pair : PowerPair) (s : State) :
    (admittedByManager i pair s).budget.queue =
      (moveTo i (policyState (s.slot i).adm.policy) s).budget.queue :=
  moveTo_queue_congr i _ rfl (modInv_priorityOf i _ s)

theorem admittedByManager_frame (i : Slot) (pair : PowerPair) (s : State) : admittedByManager i pair s =
    { s with
      slots := (admittedByManager i pair s).slots
      budget := { s.budget with queue := (admittedByManager i pair s).budget.queue } } := by
  rw [admittedByManager, offerControl_eq, moveTo_slotsBudget, moveTo_budget]
  rfl

/-- The state of SLOT_RELEASE in UNIDENTIFIED: ANNOUNCE_WAIT with a full window (R19). -/
def releasedToAnnounce (i : Slot) (s : State) : State :=
  (moveTo i .announceWait s).modAdm i fun a =>
    { a with announceWindow := .running (s.timing.announceWindowS * 1000) }

theorem releasedToAnnounce_slot (i : Slot) (s : State) (j : Slot) : (releasedToAnnounce i s).slot j =
    if j = i then
      { s.slot i with
        adm := { (s.slot i).adm with
          state := .announceWait, announceWindow := .running (s.timing.announceWindowS * 1000) } }
    else s.slot j := by
  rw [releasedToAnnounce, State.modAdm_eq, State.slot_modSlot, moveTo_slot, moveTo_slot]
  simp only [if_pos]
  by_cases h : j = i
  · simp only [if_pos h]
  · simp only [if_neg h]

theorem releasedToAnnounce_frame (i : Slot) (s : State) : releasedToAnnounce i s =
    { s with
      slots := (releasedToAnnounce i s).slots
      budget := { s.budget with queue := s.budget.queue.filter fun q => decide (q.slot ≠ i) } } := by
  rw [releasedToAnnounce, moveTo_eq]
  rfl

theorem slotRelease_unidentified {i : Slot} {s : State} (h : s.slotState i = .unidentified) :
    slotRelease i s = answerOk (releasedToAnnounce i s) [] false := by
  rw [slotRelease, h]
  rfl

theorem slotRelease_fault {i : Slot} {s : State} (h : s.slotState i = .fault) : slotRelease i s =
    answerOk (moveTo i (policyState (s.slot i).adm.policy) s) []
      (decide (policyState (s.slot i).adm.policy = .powerWait)) := by
  rw [slotRelease, h]
  rfl

theorem slotRelease_badState {i : Slot} {s : State} (h : s.slotState i ∉ [.fault, .unidentified]) :
    slotRelease i s = refuse s .badState := by
  unfold slotRelease
  split
  case h_1 hf => simp [hf] at h
  case h_2 hu => simp [hu] at h
  all_goals rfl

theorem slotAdmit_admits {i : Slot} {s : State} (h : s.slotState i ∈ [.denied, .unidentified]) (pair : PowerPair) :
    slotAdmit i pair s = admitSlot i pair s :=
  if_pos (by simpa using h)

theorem slotAdmit_badState {i : Slot} {s : State} (h : s.slotState i ∉ [.denied, .unidentified]) (pair : PowerPair) :
    slotAdmit i pair s = refuse s .badState :=
  if_neg (by simpa using h)

/-! ### SLOT_ADMIT and SLOT_RELEASE (O44) -/

/-- Settles O44: the two commands by the cases of the slot's state. -/
theorem admitAndReleaseFollowTheSlotState : Obligations.AdmitAndReleaseFollowTheSlotState := by
  refine ⟨slotAdmitArgs_eq_some, ?_⟩
  intro s cs u e items i target answer harrives hcs hanswer htarget
  subst hcs
  rw [← policyState_eq] at htarget
  refine ⟨?_, ?_⟩
  · intro pair hargs
    obtain ⟨hfloor, hone, hmost⟩ := slotAdmitArgs_range hargs
    have hexec : exec (.slotAdmit u e items) s =
        .next (commandDone s u e 0x33#16 (slotAdmit i pair (commandState s u e))) := by
      rw [exec_slotAdmit_arrives s u e items harrives, cmdSlotAdmit, withArgs_some hargs]
    refine ⟨hfloor, hone, hmost, ?_, ?_⟩
    · intro hst
      have hslot := admittedByManager_slot i pair (commandState s u e)
      refine ⟨admittedByManager i pair (commandState s u e), ?_, ?_, fun j hj => ?_, ?_, ?_⟩
      · rw [hexec, slotAdmit_admits (s := commandState s u e) hst, admitSlot_eq, hanswer, htarget]
        rfl
      · rw [hslot, if_pos rfl, htarget]
        rfl
      · rw [hslot, if_neg hj]
        rfl
      · rw [admittedByManager_queue, htarget]
        exact moveTo_queue_congr i _ rfl rfl
      · exact admittedByManager_frame i pair (commandState s u e)
    · intro hst
      rw [hexec, slotAdmit_badState (s := commandState s u e) hst, hanswer]
      rfl
  · intro hargs
    have hexec : exec (.slotRelease u e items) s =
        .next (commandDone s u e 0x34#16 (slotRelease i (commandState s u e))) := by
      rw [exec_slotRelease_arrives s u e items harrives, cmdSlotRelease, withArgs_some hargs]
    refine ⟨?_, ?_, ?_⟩
    · intro hst
      rw [hexec, slotRelease_fault (s := commandState s u e) hst, hanswer, htarget]
      rfl
    · intro hst
      have hslot := releasedToAnnounce_slot i (commandState s u e)
      refine ⟨releasedToAnnounce i (commandState s u e), ?_, ?_, fun j hj => ?_, ?_⟩
      · rw [hexec, slotRelease_unidentified (s := commandState s u e) hst, hanswer]
        rfl
      · rw [hslot, if_pos rfl]
        rfl
      · rw [hslot, if_neg hj]
        rfl
      · exact releasedToAnnounce_frame i (commandState s u e)
    · intro hst
      rw [hexec, slotRelease_badState (s := commandState s u e) hst, hanswer]
      rfl

end Sys2Proof.Machine
end

section
/-! SUPPORT. SET_SLOT stores its settings (O36). -/

namespace Sys2Proof.Machine

/-! ### The fields of SET_SLOT (R20, R181) -/

theorem slotArgs_eq_some (items : List Item) (i : Slot) (x : SlotSettings) : slotArgs items = some (i, x) ↔
    itemsFit [req 1 1, opt 2 1, opt 3 1, opt 4 1, opt 5 2, opt 6 1, opt 7 2] items = true ∧
    fieldNat 1 items = some (i.val + 1) ∧
    x.policy.map Policy.code = fieldNat 2 items ∧
    x.priority.map Fin.val = (fieldNat 3 items).map (fun v => min v 3) ∧
    x.zone.map (fun z => z.val + 1) = fieldNat 4 items ∧
    x.segment.map (fun g => g.getD 0) = fieldNat 5 items ∧
    (∀ id, x.segment = some (some id) → 1 ≤ id ∧ id ≤ 4094) ∧
    x.cls.map Fin.val = (fieldNat 6 items).map (fun v => min v 3) ∧
    x.quanta = (fieldNat 7 items).map (fun v => max 1 v) := by
  have hpolicy (p : Option Policy) : fieldEnum 2 policyCode items = some p ↔ p.map Policy.code = fieldNat 2 items :=
    fieldEnum_eq_some policyCode_eq_some 2 items p
  have hzone (z : Option Zone) : fieldEnum 4 (memberOf 4) items = some z ↔
      z.map (fun z => z.val + 1) = fieldNat 4 items := fieldEnum_eq_some memberOf_eq_some 4 items z
  unfold slotArgs
  split
  next hfit =>
    simp only [Option.bind_eq_bind, Option.bind_eq_some_iff, Option.some_inj, Prod.mk.injEq, fieldSlot_eq_some,
      hpolicy, hzone, fieldEnum_segment]
    constructor
    · rintro ⟨_, hi, p, hp, z, hz, g, ⟨hg, hrange⟩, rfl, rfl⟩
      exact ⟨hfit, hi, hp, (map_fin4 _ _).mp rfl, hz, hg, hrange, (map_fin4 _ _).mp rfl, rfl⟩
    · rintro ⟨-, hi, hp, hprio, hz, hg, hrange, hc, hq⟩
      obtain ⟨p, prio, z, g, c, q⟩ := x
      refine ⟨i, hi, p, hp, z, hz, g, ⟨hg, hrange⟩, rfl, ?_⟩
      rw [(map_fin4 _ _).mpr hprio, (map_fin4 _ _).mpr hc]
      exact congrArg (SlotSettings.mk p prio z g c) hq.symm
  next hfit => simp [hfit]

/-! ### What storing the settings gives (R20, R52) -/

/-- The state with the settings stored, before its zones are recomputed. -/
def slotStored (i : Slot) (x : SlotSettings) (s : State) : State :=
  storePriority i x.priority (s.modAdm i (storeSlot x))

/-- The state of SET_SLOT. -/
def slotSet (i : Slot) (x : SlotSettings) (s : State) : State :=
  if ((slotStored i x s).slot i).adm.zone = (s.slot i).adm.zone then slotStored i x s
  else rezone [(s.slot i).adm.zone, ((slotStored i x s).slot i).adm.zone] (slotStored i x s)

theorem setSlot_eq (i : Slot) (x : SlotSettings) (s : State) : setSlot i x s =
    answerOk (slotSet i x s)
      [ifCarried (fun p => one (Policy.code p)) x.policy, ifCarried (fun p => one p.val) x.priority,
        ifCarried (fun z => one (z.val + 1)) x.zone, ifCarried segmentField x.segment,
        ifCarried (fun c => one c.val) x.cls, ifCarried be16n x.quanta] x.priority.isSome := rfl

theorem slotStored_slot (i : Slot) (x : SlotSettings) (s : State) (j : Slot) : (slotStored i x s).slot j =
    if j = i then
      { s.slot i with
        adm := { (s.slot i).adm with
          policy := x.policy.getD (s.slot i).adm.policy, priority := x.priority.getD (s.slot i).adm.priority
          zone := x.zone.getD (s.slot i).adm.zone, segment := x.segment.getD (s.slot i).adm.segment
          cls := x.cls.getD (s.slot i).adm.cls, quanta := x.quanta.getD (s.slot i).adm.quanta } }
    else s.slot j := by
  unfold slotStored storePriority
  cases x.priority with
  | none =>
    dsimp only [Option.getD]
    rw [State.modAdm_eq, State.slot_modSlot]
    rfl
  | some p =>
    dsimp only [Option.getD]
    rw [setPriority_slot, State.modAdm_eq, State.slot_modSlot, State.slot_modSlot]
    by_cases h : j = i
    · simp only [if_pos h, if_pos]
      rfl
    · simp only [if_neg h]

/-- A waiting main request at the tail of its priority group, its mark kept (R20, R52). -/
def regrouped (priority : Slot → Fin 4) (i : Slot) (q : List Request) : List Request :=
  match q.find? fun r => decide (r.slot = i) && r.kind == .main with
  | none => q
  | some r => insertMain priority r (withoutRequest i q)

theorem modAdm_storeSlot_priorityOf (i : Slot) (x : SlotSettings) (s : State) :
    (s.modAdm i (storeSlot x)).priorityOf i = (s.slot i).adm.priority := by
  rw [State.priorityOf, State.modAdm_eq, State.slot_modSlot, if_pos rfl]
  rfl

theorem slotStored_budget_kept (i : Slot) (x : SlotSettings) (s : State)
    (h : x.priority.getD (s.slot i).adm.priority = (s.slot i).adm.priority) :
    (slotStored i x s).budget = s.budget := by
  unfold slotStored storePriority
  cases hp : x.priority with
  | none => rfl
  | some p =>
    rw [hp] at h
    dsimp only
    rw [setPriority_budget, modAdm_storeSlot_priorityOf, if_pos (show p = (s.slot i).adm.priority from h)]
    rfl

theorem slotStored_budget_moved (i : Slot) (x : SlotSettings) (s : State)
    (h : x.priority.getD (s.slot i).adm.priority ≠ (s.slot i).adm.priority) :
    (slotStored i x s).budget =
      { s.budget with queue := regrouped (slotStored i x s).priorityOf i s.budget.queue } := by
  unfold slotStored storePriority
  cases hp : x.priority with
  | none =>
    rw [hp] at h
    exact absurd rfl h
  | some p =>
    rw [hp] at h
    dsimp only
    rw [setPriority_budget, modAdm_storeSlot_priorityOf, if_neg (show p ≠ (s.slot i).adm.priority from h)]
    rfl

theorem slotStored_frame (i : Slot) (x : SlotSettings) (s : State) : slotStored i x s =
    { s with slots := (slotStored i x s).slots, budget := (slotStored i x s).budget } := by
  unfold slotStored storePriority
  cases x.priority with
  | none => rfl
  | some p =>
    dsimp only
    rw [setPriority_frame]
    rfl

theorem slotStored_sameThermal (i : Slot) (x : SlotSettings) (s : State) : SameThermal s (slotStored i x s) := by
  rw [slotStored_frame]
  exact ⟨rfl, rfl, rfl, rfl⟩

/-! ### What SET_SLOT gives (R20, R104, R105) -/

theorem slotSet_slots (i : Slot) (x : SlotSettings) (s : State) : (slotSet i x s).slots = (slotStored i x s).slots := by
  unfold slotSet
  split
  next => rfl
  next => exact rezone_slots _ _

theorem slotSet_slot (i : Slot) (x : SlotSettings) (s : State) (j : Slot) :
    (slotSet i x s).slot j = (slotStored i x s).slot j :=
  congrArg (fun slots => slots[j]) (slotSet_slots i x s)

theorem slotSet_priorityOf (i : Slot) (x : SlotSettings) (s : State) :
    (slotSet i x s).priorityOf = (slotStored i x s).priorityOf := by
  funext j
  rw [State.priorityOf, State.priorityOf, slotSet_slot]

theorem slotSet_budget (i : Slot) (x : SlotSettings) (s : State) :
    (slotSet i x s).budget = (slotStored i x s).budget := by
  unfold slotSet
  split
  next => rfl
  next =>
    obtain ⟨z, fs, b, F, al, h⟩ :=
      rezone_frame [(s.slot i).adm.zone, ((slotStored i x s).slot i).adm.zone] (slotStored i x s)
    rw [h]

theorem slotSet_frame (i : Slot) (x : SlotSettings) (s : State) : slotSet i x s =
    { s with
      slots := (slotSet i x s).slots, budget := (slotSet i x s).budget, zones := (slotSet i x s).zones
      thermal := { s.thermal with overrideOn := (slotSet i x s).thermal.overrideOn }, fans := (slotSet i x s).fans
      fanReservation := (slotSet i x s).fanReservation
      mgmt := { s.mgmt with alerts := (slotSet i x s).mgmt.alerts } } := by
  have hframe := slotStored_frame i x s
  unfold slotSet
  split
  next =>
    rw [hframe]
  next => exact rezone_slotsBudget hframe _

/-- A zone that stays hands nothing on. -/
theorem slotSet_sameZone {i : Slot} {x : SlotSettings} {s : State}
    (h : ((slotSet i x s).slot i).adm.zone = (s.slot i).adm.zone) : slotSet i x s = slotStored i x s := by
  rw [slotSet_slot] at h
  exact if_pos h

/-- A zone that changes recomputes the old and the new one. -/
theorem slotSet_newZone {i : Slot} {x : SlotSettings} {s : State}
    (h : ((slotSet i x s).slot i).adm.zone ≠ (s.slot i).adm.zone) : slotSet i x s =
      rezone [(s.slot i).adm.zone, ((slotSet i x s).slot i).adm.zone] (slotStored i x s) := by
  rw [slotSet_slot] at h ⊢
  exact if_neg h

theorem slotSet_handedOn (i : Slot) (x : SlotSettings) (s : State) :
    ThermalHandedOn s (slotSet i x s) ∧ AlertsGain s (slotSet i x s) fun _ => False := by
  have hsame := slotStored_sameThermal i x s
  by_cases h : ((slotSet i x s).slot i).adm.zone = (s.slot i).adm.zone
  · rw [slotSet_sameZone h]
    refine ⟨thermalHandedOn_unchanged hsame, fun a => ?_⟩
    rw [slotStored_frame]
    simp
  · rw [slotSet_newZone h]
    obtain ⟨-, hth, hal⟩ := rezone_handedOn hsame [(s.slot i).adm.zone, ((slotSet i x s).slot i).adm.zone]
    refine ⟨hth, fun a => ?_⟩
    rw [hal a, slotStored_frame]
    simp

theorem slotSet_zones {i : Slot} {x : SlotSettings} {s : State}
    (h : ((slotSet i x s).slot i).adm.zone ≠ (s.slot i).adm.zone) : ZonesRecomputed s (slotSet i x s) fun z =>
      z = (s.slot i).adm.zone ∨ z = ((slotSet i x s).slot i).adm.zone := by
  obtain ⟨hzones, -, -⟩ := rezone_handedOn (slotStored_sameThermal i x s)
    [(s.slot i).adm.zone, ((slotSet i x s).slot i).adm.zone]
  rw [← slotSet_newZone h] at hzones
  intro z
  simpa only [List.mem_cons, List.not_mem_nil, or_false] using hzones z

/-- Settles O36: SET_SLOT block by block. -/
theorem setSlotStoresItsSettings : Obligations.SetSlotStoresItsSettings := by
  refine ⟨slotArgs_eq_some, ?_⟩
  intro s cs u e items i x harrives hcs hargs
  subst hcs
  have hslot := slotStored_slot i x (commandState s u e)
  obtain ⟨hth, hal⟩ := slotSet_handedOn i x (commandState s u e)
  have hthermal : SameThermal s (commandState s u e) := ⟨rfl, rfl, rfl, rfl⟩
  refine ⟨slotSet i x (commandState s u e), ?_, ?_, fun j hj => ?_, fun h => ?_, fun h => ?_, fun h => ?_, fun h => ?_,
    hth.congr hthermal, hal, slotSet_frame i x (commandState s u e)⟩
  · rw [exec_setSlot_arrives s u e items harrives, cmdSetSlot, withArgs_some hargs, setSlot_eq]
    rfl
  · rw [slotSet_slot, hslot, if_pos rfl]
    rfl
  · rw [slotSet_slot, hslot, if_neg hj]
    rfl
  · rw [slotSet_budget]
    exact slotStored_budget_kept i x (commandState s u e) h
  · rw [slotSet_budget, slotSet_priorityOf]
    exact slotStored_budget_moved i x (commandState s u e) h
  · rw [slotSet_sameZone (s := commandState s u e) h]
    exact (slotStored_sameThermal i x (commandState s u e)).zones
  · exact slotSet_zones (s := commandState s u e) h

end Sys2Proof.Machine
end

section
/-! SUPPORT. SET_SUPPLY and SET_TIMING (O37). -/

namespace Sys2Proof.Machine

/-! ### The fields of SET_SUPPLY and SET_TIMING (R3, R5, R35, R41, R70, R71, R83, R91, R181) -/

theorem bayRating_eq_some (o : Octets) (r : Bay × Nat) : bayRating o = some r ↔
    (octetAt o 0).toNat = r.1.val + 1 ∧ r.2 = min (natOf (o.drop 1)) 4000 := by
  obtain ⟨b, w⟩ := r
  simp only [bayRating, Option.map_eq_some_iff, memberOf_eq_some, Prod.mk.injEq]
  constructor
  · rintro ⟨_, hb, rfl, rfl⟩
    exact ⟨hb, rfl⟩
  · rintro ⟨hb, rfl⟩
    exact ⟨b, hb, rfl, rfl⟩

theorem readRatings_eq_some (items : List Item) (l : List (Bay × Nat)) :
    readEach bayRating (fieldAll 1 items) = some l ↔
      List.Forall₂ (fun (o : Octets) (r : Bay × Nat) =>
        (octetAt o 0).toNat = r.1.val + 1 ∧ r.2 = min (natOf (o.drop 1)) 4000) (valuesOf 1 items) l :=
  readEach_iff bayRating_eq_some (valuesOf 1 items) l

theorem supplyArgs_eq_some (items : List Item) (x : SupplySettings) : supplyArgs items = some x ↔
    itemsFit [{ number := 1, least := 3, most := 3, repeatable := true }, opt 2 1, opt 3 2, opt 4 2, opt 5 2, opt 6 2]
      items = true ∧
    List.Forall₂ (fun (o : Octets) (r : Bay × Nat) =>
      (octetAt o 0).toNat = r.1.val + 1 ∧ r.2 = min (natOf (o.drop 1)) 4000) (valuesOf 1 items) x.ratings ∧
    (x.ratings.map (·.1)).Nodup ∧
    x.policy.map Redundancy.code = fieldNat 2 items ∧
    x.ceiling = (fieldNat 3 items).map (fun v => min v 60000) ∧
    x.allowance = (fieldNat 4 items).map (fun v => min v 63) ∧
    x.margin = (fieldNat 5 items).map (fun v => min v 1000) ∧
    x.lanes = (fieldNat 6 items).map (fun v => max 1 (min v 4)) := by
  have hpolicy (p : Option Redundancy) :
      fieldEnum 2 redundancyCode items = some p ↔ p.map Redundancy.code = fieldNat 2 items :=
    fieldEnum_eq_some redundancyCode_eq_some 2 items p
  have hmin (k : Nat) : min k = fun v => min v k := funext fun v => Nat.min_comm k v
  obtain ⟨ratings, policy, ceiling, allowance, margin, lanes⟩ := x
  unfold supplyArgs
  split
  next hfit =>
    simp only [Option.bind_eq_bind, Option.bind_eq_some_iff, readRatings_eq_some, hpolicy, hmin 60000,
      hmin 63, hmin 1000, Option.ite_none_right_eq_some, Option.some_inj, SupplySettings.mk.injEq]
    constructor
    · rintro ⟨_, hr, _, hp, hnodup, rfl, rfl, rfl, rfl, rfl, rfl⟩
      exact ⟨hfit, hr, hnodup, hp, rfl, rfl, rfl, rfl⟩
    · rintro ⟨-, hr, hnodup, hp, rfl, rfl, rfl, rfl⟩
      exact ⟨ratings, hr, policy, hp, hnodup, rfl, rfl, rfl, rfl, rfl, rfl⟩
  next hfit => simp [hfit]

theorem timingArgs_eq_some (items : List Item) (x : TimingSettings) : timingArgs items = some x ↔
    itemsFit [opt 1 2, opt 2 2, opt 3 2, opt 4 2, opt 5 2, opt 6 2, opt 7 2, opt 8 2, opt 9 2] items = true ∧
    x.presenceFilter = (fieldNat 1 items).map (settingSteps 1000) ∧
    x.announceWindowS = (fieldNat 2 items).map (fun v => max 1 (min v 255)) ∧
    x.bayFilter = (fieldNat 3 items).map (settingSteps 1000) ∧
    x.capAckS = (fieldNat 4 items).map (fun v => max 1 (min v 60)) ∧
    x.powerGoodFilter = (fieldNat 5 items).map (settingSteps 1000) ∧
    x.powerGoodTimeout = (fieldNat 6 items).map (settingSteps 2550) ∧
    x.resetHold = (fieldNat 7 items).map (settingSteps 2550) ∧
    x.shutdownS = (fieldNat 8 items).map (fun v => max 1 (min v 600)) ∧
    x.staleS = (fieldNat 9 items).map (fun v => max 1 (min v 60)) := by
  have hfilter : settingSteps 1000 = tenMsSteps 1000 := funext fun v => (tenMsSteps_eq 1000 v (.inl rfl)).symm
  have hhold : settingSteps 2550 = tenMsSteps 2550 := funext fun v => (tenMsSteps_eq 2550 v (.inr rfl)).symm
  have hseconds (k : Nat) : (fun v => max 1 (min v k)) = secondsUpTo k := rfl
  obtain ⟨x1, x2, x3, x4, x5, x6, x7, x8, x9⟩ := x
  unfold timingArgs
  rw [hfilter, hhold]
  simp only [hseconds]
  split
  next hfit =>
    simp only [Option.some_inj, TimingSettings.mk.injEq, hfit, true_and]
    exact ⟨fun ⟨h1, h2, h3, h4, h5, h6, h7, h8, h9⟩ =>
        ⟨h1.symm, h2.symm, h3.symm, h4.symm, h5.symm, h6.symm, h7.symm, h8.symm, h9.symm⟩,
      fun ⟨h1, h2, h3, h4, h5, h6, h7, h8, h9⟩ =>
        ⟨h1.symm, h2.symm, h3.symm, h4.symm, h5.symm, h6.symm, h7.symm, h8.symm, h9.symm⟩⟩
  next hfit => simp [hfit]

/-! ### Tables written member by member (R41, R143) -/

/-- Where no member is written twice, each has what its pair makes of it, or stays. -/
theorem foldl_set_get {α β : Type} {n : Nat} (f : α → β → α) (l : List (Fin n × β)) (h : (l.map (·.1)).Nodup)
    (v : Vector α n) (k : Fin n) :
    (l.foldl (fun v r => v.set r.1 (f v[r.1] r.2)) v)[k] =
      ((l.find? fun r => decide (r.1 = k)).map fun r => f v[k] r.2).getD v[k] := by
  induction l generalizing v with
  | nil => rfl
  | cons r l ih =>
    rw [List.map_cons, List.nodup_cons] at h
    obtain ⟨hr, hl⟩ := h
    have hset : (v.set r.1 (f v[r.1] r.2))[k] = if k = r.1 then f v[r.1] r.2 else v[k] := by
      simp only [Fin.getElem_fin, Vector.getElem_set, Fin.ext_iff, eq_comm]
    rw [List.foldl_cons, ih hl, hset]
    by_cases hk : r.1 = k
    · subst hk
      have hnone : l.find? (fun q => decide (q.1 = r.1)) = none :=
        List.find?_eq_none.mpr fun q hq he => hr (List.mem_map.mpr ⟨q, hq, by simpa using he⟩)
      rw [if_pos rfl, hnone, List.find?_cons_of_pos (by simp)]
      rfl
    · rw [if_neg (Ne.symm hk), List.find?_cons_of_neg (by simpa using hk)]

/-! ### The ratings of the bays (R35, R41) -/

/-- The bays with the ratings carried. -/
def ratedBays (l : List (Bay × Nat)) (bays : Vector BayRecord 6) : Vector BayRecord 6 :=
  l.foldl (fun v r => v.set r.1 { v[r.1] with rating := r.2 }) bays

theorem foldl_modBay_rating (l : List (Bay × Nat)) (s : State) :
    l.foldl (fun s r => s.modBay r.1 fun b => { b with rating := r.2 }) s =
      { s with bays := ratedBays l s.bays } := by
  induction l generalizing s with
  | nil => rfl
  | cons r l ih =>
    rw [List.foldl_cons, ih]
    rfl

/-- Each bay has the rating carried for it, or keeps its own. -/
theorem ratedBays_get (l : List (Bay × Nat)) (h : (l.map (·.1)).Nodup) (bays : Vector BayRecord 6) (b : Bay) :
    (ratedBays l bays)[b] =
      { bays[b] with rating := ((l.find? fun r => decide (r.1 = b)).map (·.2)).getD bays[b].rating } := by
  have hget := foldl_set_get (fun (r : BayRecord) (w : Nat) => { r with rating := w }) l h bays b
  rw [ratedBays, hget]
  cases l.find? fun r => decide (r.1 = b) <;> rfl

theorem find?_rating_isSome (l : List (Bay × Nat)) (b : Bay) :
    (l.find? fun r => decide (r.1 = b)).isSome = (l.map (·.1)).contains b := by
  rw [Bool.eq_iff_iff]
  simp

/-- The answered ratings are those that the bays then have. -/
theorem ratingItems_eq (l : List (Bay × Nat)) (h : (l.map (·.1)).Nodup) (bays : Vector BayRecord 6) : ratingItems l =
    (allBays.filter fun b => (l.map (·.1)).contains b).map
      (fun b => octet (b.val + 1) :: be16n (ratedBays l bays)[b].rating) := by
  unfold ratingItems
  induction allBays with
  | nil => rfl
  | cons b bs ih =>
    have hsome := find?_rating_isSome l b
    have hget := ratedBays_get l h bays b
    cases hf : l.find? fun r => decide (r.1 = b) with
    | none =>
      rw [hf] at hsome
      rw [List.filterMap_cons, hf, List.filter_cons_of_neg (by rw [← hsome]; simp)]
      exact ih
    | some r =>
      rw [hf] at hsome hget
      rw [List.filterMap_cons, hf, List.filter_cons_of_pos (by rw [← hsome]; rfl), List.map_cons, hget]
      exact congrArg _ ih

/-! ### What SET_SUPPLY gives (R39, R40, R41, R70) -/

theorem storeSupply_eq (x : SupplySettings) (s : State) : storeSupply x s =
    { s with
      bays := ratedBays x.ratings s.bays
      supply := { s.supply with
        policy := x.policy.getD s.supply.policy, ceiling := x.ceiling.getD s.supply.ceiling }
      budget := { s.budget with
        allowance := x.allowance.getD s.budget.allowance, margin := x.margin.getD s.budget.margin
        laneCount := x.lanes.getD s.budget.laneCount } } := by
  rw [storeSupply, foldl_modBay_rating]

theorem recomputeCapacity_eq (s : State) : recomputeCapacity s =
    { s with
      supply := { s.supply with
        raw := rawFigure s.supply.policy s.bays
        capacity := min (rawFigure s.supply.policy s.bays) s.supply.ceiling }
      mgmt := { s.mgmt with
        alerts :=
          if min (rawFigure s.supply.policy s.bays) s.supply.ceiling ≠ s.supply.capacity then
            raisedAlerts { kind := .supplyChange, index := 0 } s.mgmt.alerts
          else s.mgmt.alerts } } := by
  unfold recomputeCapacity
  dsimp only
  split
  next h => rw [if_neg (not_not.mpr h), h]
  next => rw [raiseChassis, raise_eq]

/-- The state of SET_SUPPLY where it is not BUSY. -/
def supplySet (x : SupplySettings) (s : State) : State :=
  if x.supplyCarried = true then recomputeCapacity (storeSupply x s) else storeSupply x s

theorem supplyCarried_iff (x : SupplySettings) :
    x.supplyCarried = true ↔ x.ratings ≠ [] ∨ x.policy ≠ none ∨ x.ceiling ≠ none := by
  simp [SupplySettings.supplyCarried, or_assoc, Option.isSome_iff_ne_none]

theorem anyCarried_iff (x : SupplySettings) : x.anyCarried = true ↔
    x.ratings ≠ [] ∨ x.policy ≠ none ∨ x.ceiling ≠ none ∨ x.allowance ≠ none ∨ x.margin ≠ none ∨ x.lanes ≠ none := by
  simp [SupplySettings.anyCarried, supplyCarried_iff, or_assoc, Option.isSome_iff_ne_none]

theorem supplySet_bays (x : SupplySettings) (s : State) : (supplySet x s).bays = ratedBays x.ratings s.bays := by
  unfold supplySet
  split
  next => rw [recomputeCapacity_eq, storeSupply_eq]
  next => rw [storeSupply_eq]

theorem supplySet_settings (x : SupplySettings) (s : State) :
    (supplySet x s).supply.policy = x.policy.getD s.supply.policy ∧
      (supplySet x s).supply.ceiling = x.ceiling.getD s.supply.ceiling ∧
      (supplySet x s).supply.brownout = s.supply.brownout := by
  unfold supplySet
  split
  next => rw [recomputeCapacity_eq, storeSupply_eq]; exact ⟨rfl, rfl, rfl⟩
  next => rw [storeSupply_eq]; exact ⟨rfl, rfl, rfl⟩

theorem supplySet_capacity {x : SupplySettings} {s : State} (h : x.supplyCarried = true) :
    (supplySet x s).supply.raw = rawFigure (supplySet x s).supply.policy (supplySet x s).bays ∧
      (supplySet x s).supply.capacity = min (supplySet x s).supply.raw (supplySet x s).supply.ceiling := by
  rw [supplySet, if_pos h, recomputeCapacity_eq]
  exact ⟨rfl, rfl⟩

/-- Without a rating, a policy and a ceiling the supply stays. -/
theorem supplySet_supply_kept {x : SupplySettings} {s : State} (h : ¬x.supplyCarried = true) :
    (supplySet x s).supply = s.supply := by
  have hnot : x.ratings = [] ∧ x.policy = none ∧ x.ceiling = none := by
    simpa [supplyCarried_iff] using h
  obtain ⟨-, hp, hc⟩ := hnot
  rw [supplySet, if_neg h, storeSupply_eq, hp, hc]
  rfl

theorem supplySet_frame (x : SupplySettings) (s : State) : supplySet x s =
    { s with
      bays := (supplySet x s).bays, supply := (supplySet x s).supply
      budget := { s.budget with
        allowance := x.allowance.getD s.budget.allowance, margin := x.margin.getD s.budget.margin
        laneCount := x.lanes.getD s.budget.laneCount }
      mgmt := { s.mgmt with alerts := (supplySet x s).mgmt.alerts } } := by
  unfold supplySet
  split
  next => rw [recomputeCapacity_eq, storeSupply_eq]
  next => rw [storeSupply_eq]

theorem supplySet_alerts (x : SupplySettings) (s : State) (a : Alert) : a ∈ (supplySet x s).mgmt.alerts ↔
    (a = { kind := .supplyChange, index := 0 } ∧ (supplySet x s).supply.capacity ≠ s.supply.capacity) ∨
      a ∈ s.mgmt.alerts := by
  by_cases h : x.supplyCarried = true
  · rw [supplySet, if_pos h, recomputeCapacity_eq, storeSupply_eq]
    exact mem_alerts_ite _ _ _
  · rw [supplySet_supply_kept h, supplySet, if_neg h, storeSupply_eq]
    simp

theorem setSupply_eq {x : SupplySettings} {s : State} (h : x.lanes = none ∨ s.budget.lanesInUse = 0) :
    setSupply x s = answerOk (supplySet x s)
      [ratingItems x.ratings, ifCarried (fun p => one (Redundancy.code p)) x.policy, ifCarried be16n x.ceiling,
        ifCarried be16n x.allowance, ifCarried be16n x.margin, ifCarried be16n x.lanes] x.anyCarried := by
  have hfree : ¬(x.lanes.isSome = true ∧ 0 < s.budget.lanesInUse) := by
    rintro ⟨hl, hu⟩
    rcases h with h | h
    · rw [h] at hl
      exact absurd hl (by decide)
    · omega
  rw [setSupply, if_neg hfree]
  rfl

/-! ### What SET_TIMING gives (R83) -/

theorem anyPowering_iff (s : State) : anyPowering s = true ↔ ∃ i : Slot, s.slotState i = .powering := by
  simp only [anyPowering, List.any_eq_true, mem_allSlots, true_and, isPowering, beq_iff_eq]
  rfl

theorem holdsCarried_iff (x : TimingSettings) : (x.powerGoodTimeout.isSome || x.resetHold.isSome) = true ↔
    x.powerGoodTimeout ≠ none ∨ x.resetHold ≠ none := by
  simp [Option.isSome_iff_ne_none]

/-! ### SET_SUPPLY and SET_TIMING (O37) -/

/-- Settles O37: the two commands by what they carry. -/
theorem setSupplyAndTimingStoreTheirSettings : Obligations.SetSupplyAndTimingStoreTheirSettings := by
  refine ⟨supplyArgs_eq_some, timingArgs_eq_some, ?_⟩
  intro s cs u e items harrives hcs
  subst hcs
  refine ⟨fun x hargs => ?_, fun x hargs => ?_⟩
  · have hexec : exec (.setSupply u e items) s =
        .next (commandDone s u e 0x11#16 (setSupply x (commandState s u e))) := by
      rw [exec_setSupply_arrives s u e items harrives, cmdSetSupply, withArgs_some hargs]
    obtain ⟨-, -, hnodup, -⟩ := (supplyArgs_eq_some items x).mp hargs
    refine ⟨fun hl hu => ?_, fun hfree => ?_⟩
    · rw [hexec, setSupply, if_pos ⟨hl, hu⟩]
      rfl
    · have hbays := supplySet_bays x (commandState s u e)
      obtain ⟨hpolicy, hceiling, hbrownout⟩ := supplySet_settings x (commandState s u e)
      refine ⟨supplySet x (commandState s u e), ratingItems x.ratings, ?_, ?_, anyCarried_iff x, fun b => ?_, hpolicy,
        hceiling, fun h => supplySet_capacity ((supplyCarried_iff x).mpr h), fun hr hp hc => ?_, hbrownout,
        supplySet_alerts x (commandState s u e), supplySet_frame x (commandState s u e)⟩
      · rw [hexec, setSupply_eq (s := commandState s u e) hfree]
        rfl
      · rw [hbays]
        exact ratingItems_eq x.ratings hnodup _
      · rw [hbays, ratedBays_get x.ratings hnodup]
        cases x.ratings.find? fun r => decide (r.1 = b) <;> rfl
      · exact supplySet_supply_kept (s := commandState s u e) (by simp [supplyCarried_iff, hr, hp, hc])
  · have hexec : exec (.setTiming u e items) s =
        .next (commandDone s u e 0x12#16 (setTiming x (commandState s u e))) := by
      rw [exec_setTiming_arrives s u e items harrives, cmdSetTiming, withArgs_some hargs]
    refine ⟨fun hc hp => ?_, fun hfree => ?_⟩
    · rw [hexec, setTiming, if_pos (by rw [Bool.and_eq_true, holdsCarried_iff, anyPowering_iff]; exact ⟨hc, hp⟩)]
      rfl
    · have hnot : ¬((x.powerGoodTimeout.isSome || x.resetHold.isSome) && anyPowering (commandState s u e)) = true := by
        rw [Bool.and_eq_true, holdsCarried_iff, anyPowering_iff]
        rintro ⟨hc, i, hi⟩
        rcases hfree with ⟨h1, h2⟩ | h
        · exact hc.elim (· h1) (· h2)
        · exact h i hi
      rw [hexec, setTiming, if_neg hnot]
      rfl

end Sys2Proof.Machine
end

section
/-! SUPPORT. The commands that edit the class map, the segment table and the admission table (O42). -/

namespace Sys2Proof.Machine

/-! ### The width of a field (R181) -/

/-- The value of a field is bounded by the widest that the command lists for its number. -/
theorem fieldNat_lt {spec : List FieldSpec} {items : List Item} (hfit : itemsFit spec items = true) {n v : Nat}
    (hv : fieldNat n items = some v) : ∃ f ∈ spec, f.number = n ∧ v < 256 ^ f.most := by
  obtain ⟨o, ho, rfl⟩ := Option.map_eq_some_iff.mp hv
  obtain ⟨it, hit, rfl⟩ := Option.map_eq_some_iff.mp ho
  have hn : it.field.toNat = n := by simpa using List.find?_some hit
  rw [itemsFit, Bool.and_eq_true] at hfit
  obtain ⟨f, hf, hfield⟩ := List.any_eq_true.mp (List.all_eq_true.mp hfit.1 it (List.mem_of_find?_eq_some hit))
  simp only [Bool.and_eq_true, decide_eq_true_eq] at hfield
  obtain ⟨⟨hnumber, -⟩, hmost⟩ := hfield
  exact ⟨f, hf, hnumber.symm.trans hn, (natOf_lt it.value).trans_le (Nat.pow_le_pow_right (by decide) hmost)⟩

/-! ### The fields of the table commands (R9, R142, R143, R181) -/

theorem classPair_eq_some (o : Octets) (p : Fin 8 × Cls) : classPair o = some p ↔
    (octetAt o 0).toNat = p.1.val ∧ p.2.val = min (octetAt o 1).toNat 3 := by
  obtain ⟨k, c⟩ := p
  simp only [classPair, Option.map_eq_some_iff, priorityCode_eq_some, Prod.mk.injEq]
  constructor
  · rintro ⟨_, hk, rfl, rfl⟩
    exact ⟨hk, rfl⟩
  · rintro ⟨hk, hc⟩
    exact ⟨k, hk, rfl, Fin.ext hc.symm⟩

theorem classMapArgs_eq_some (items : List Item) (pairs : List (Fin 8 × Cls)) : classMapArgs items = some pairs ↔
    itemsFit [{ number := 1, least := 2, most := 2, required := true, repeatable := true }] items = true ∧
    List.Forall₂ (fun (o : Octets) (p : Fin 8 × Cls) =>
      (octetAt o 0).toNat = p.1.val ∧ p.2.val = min (octetAt o 1).toNat 3) (valuesOf 1 items) pairs ∧
    (pairs.map (·.1)).Nodup := by
  have hread (l : List (Fin 8 × Cls)) : readEach classPair (fieldAll 1 items) = some l ↔
      List.Forall₂ (fun (o : Octets) (p : Fin 8 × Cls) =>
        (octetAt o 0).toNat = p.1.val ∧ p.2.val = min (octetAt o 1).toNat 3) (valuesOf 1 items) l :=
    readEach_iff classPair_eq_some (valuesOf 1 items) l
  unfold classMapArgs
  split
  next hfit =>
    simp only [Option.bind_eq_bind, Option.bind_eq_some_iff, hread, Option.ite_none_right_eq_some, Option.some_inj,
      hfit, true_and]
    constructor
    · rintro ⟨_, hl, hnodup, rfl⟩
      exact ⟨hl, hnodup⟩
    · rintro ⟨hl, hnodup⟩
      exact ⟨pairs, hl, hnodup, rfl⟩
  next hfit => simp [hfit]

theorem tagIdCode_eq_some (v id : Nat) : tagIdCode v = some id ↔ v = id ∧ 1 ≤ id ∧ id ≤ 4094 := by
  unfold tagIdCode
  rw [Option.ite_none_right_eq_some, Option.some_inj]
  constructor
  · rintro ⟨hrange, rfl⟩
    exact ⟨rfl, hrange⟩
  · rintro ⟨rfl, hrange⟩
    exact ⟨hrange, rfl⟩

theorem ofNat_eq_iff {v w : Nat} (hv : v < 2 ^ w) (b : BitVec w) : BitVec.ofNat w v = b ↔ v = b.toNat := by
  rw [BitVec.toNat_eq, BitVec.toNat_ofNat, Nat.mod_eq_of_lt hv]

theorem segmentArgs_eq_some (items : List Item) (g : Segment) : segmentArgs items = some g ↔
    itemsFit [req 1 2, req 2 2, req 3 1, req 4 1, req 5 1, opt 6 1] items = true ∧
    fieldNat 1 items = some g.tagId ∧ 1 ≤ g.tagId ∧ g.tagId ≤ 4094 ∧ fieldNat 2 items = some g.members.toNat ∧
    fieldNat 3 items = some g.select.code ∧ fieldNat 4 items = some g.action.code ∧
    fieldNat 5 items = some (flagValue g.strict) ∧
    g.override.map Fin.val = (fieldNat 6 items).map (fun v => min v 3) := by
  have hselect (x : UplinkSelect) : (fieldNat 3 items).bind selectCode = some x ↔ fieldNat 3 items = some x.code :=
    bind_code selectCode_eq_some _ x
  have haction (x : SegmentAction) :
      (fieldNat 4 items).bind segmentActionCode = some x ↔ fieldNat 4 items = some x.code :=
    bind_code segmentActionCode_eq_some _ x
  have hstrict (x : Bool) : (fieldNat 5 items).bind flagCode = some x ↔ fieldNat 5 items = some (flagValue x) :=
    bind_code flagCode_eq_some _ x
  obtain ⟨id, members, select, action, strict, override⟩ := g
  unfold segmentArgs
  split
  next hfit =>
    have hmembers {v : Nat} (hv : fieldNat 2 items = some v) : v < 2 ^ 16 := by
      have hwidth := fieldNat_lt hfit hv
      simpa [req, opt] using hwidth
    simp only [Option.bind_eq_bind, Option.bind_eq_some_iff (f := tagIdCode), tagIdCode_eq_some, hselect, haction,
      hstrict, Option.bind_eq_some_iff, Option.some_inj, Segment.mk.injEq]
    constructor
    · rintro ⟨_, ⟨_, hid, rfl, hrange⟩, v, hv, _, hs, _, ha, _, ht, rfl, hm, rfl, rfl, rfl, ho⟩
      rw [ofNat_eq_iff (hmembers hv)] at hm
      exact ⟨hfit, hid, hrange.1, hrange.2, hm ▸ hv, hs, ha, ht, (map_fin4 _ _).mp ho⟩
    · rintro ⟨-, hid, hone, hmost, hm, hs, ha, ht, ho⟩
      exact ⟨id, ⟨id, hid, rfl, hone, hmost⟩, members.toNat, hm, select, hs, action, ha, strict, ht, rfl,
        (ofNat_eq_iff (hmembers hm) members).mpr rfl, rfl, rfl, rfl, (map_fin4 _ _).mpr ho⟩
  next hfit => simp [hfit]

theorem deleteSegmentArgs_eq_some (items : List Item) (id : Nat) : deleteSegmentArgs items = some id ↔
    itemsFit [req 1 2] items = true ∧ fieldNat 1 items = some id :=
  Option.ite_none_right_eq_some

theorem keepOr_eq_iff (v : Nat) (p : Option (Fin 4)) :
    keepOr v = p ↔ (if v = 255 then none else some (min v 3)) = p.map Fin.val := by
  unfold keepOr
  split
  next => cases p <;> simp
  next => cases p <;> simp [fin4, Fin.ext_iff]

theorem admissionArgs_eq_some (items : List Item) (k : Option Word16) (g : AdmissionRule) :
    admissionArgs items = some (k, g) ↔
      itemsFit [opt 1 2, req 2 1, req 3 2, req 4 1] items = true ∧ k.map BitVec.toNat = fieldNat 1 items ∧
      fieldNat 2 items = some (if g.action = .allow then 0 else 1) ∧
      (fieldNat 3 items).map (fun v => min v 4000) = some g.maximum ∧
      (fieldNat 4 items).map (fun v => if v = 255 then none else some (min v 3)) =
        some (g.priority.map Fin.val) := by
  have haction (x : AdmissionAction) : (∃ v, fieldNat 2 items = some v ∧ admissionActionCode v = some x) ↔
      fieldNat 2 items = some (if x = .allow then 0 else 1) := by
    rw [← Option.bind_eq_some_iff]
    exact bind_code admissionActionCode_eq_some _ x
  obtain ⟨action, maximum, priority⟩ := g
  unfold admissionArgs
  split
  next hfit =>
    have hkey : ∀ v, fieldNat 1 items = some v → v < 2 ^ 16 := by
      intro v hv
      have hwidth := fieldNat_lt hfit hv
      simpa [req, opt] using hwidth
    simp only [Option.bind_eq_bind, Option.bind_eq_some_iff, haction, Option.map_eq_some_iff,
      Option.some_inj, Prod.mk.injEq, AdmissionRule.mk.injEq, hfit, true_and, map_ofNat hkey, keepOr_eq_iff]
    constructor
    · rintro ⟨_, ha, m, hm, p, hp, hk, rfl, rfl, hpriority⟩
      exact ⟨hk, ha, ⟨m, hm, rfl⟩, p, hp, hpriority⟩
    · rintro ⟨hk, ha, ⟨m, hm, rfl⟩, p, hp, hpriority⟩
      exact ⟨action, ha, m, hm, p, hp, hk, rfl, rfl, hpriority⟩
  next hfit => simp [hfit]

theorem deleteAdmissionArgs_eq_some (items : List Item) (k : Option Word16) : deleteAdmissionArgs items = some k ↔
    itemsFit [opt 1 2] items = true ∧ k.map BitVec.toNat = fieldNat 1 items := by
  unfold deleteAdmissionArgs
  split
  next hfit =>
    have hkey : ∀ v, fieldNat 1 items = some v → v < 2 ^ 16 := by
      intro v hv
      have hwidth := fieldNat_lt hfit hv
      simpa [opt] using hwidth
    rw [Option.some_inj, map_ofNat hkey]
    simp [hfit]
  next hfit => simp [hfit]

/-! ### What each command gives -/

theorem tableTakes_iff {α : Type} (key : α → Nat) (room : Nat) (e : α) (table : List α) :
    tableTakes key room e table = true ↔ table.length < room ∨ ∃ x ∈ table, key x = key e := by
  simp [tableTakes, or_comm]

theorem loadSegment_full {g : Segment} {s : State} (hlen : s.fwd.segments.length = 32)
    (hkey : ∀ x ∈ s.fwd.segments, x.tagId ≠ g.tagId) : loadSegment g s = refuse s .full := by
  refine if_neg ?_
  rw [tableTakes_iff, hlen]
  rintro (h | ⟨x, hx, he⟩)
  · exact absurd h (by decide)
  · exact hkey x hx he

theorem loadSegment_takes {g : Segment} {s : State}
    (h : s.fwd.segments.length < 32 ∨ ∃ x ∈ s.fwd.segments, x.tagId = g.tagId) : loadSegment g s =
      answerOk (setSegments (placeByKey Segment.tagId g s.fwd.segments) s) [[segmentEntryField g]] false :=
  if_pos ((tableTakes_iff Segment.tagId 32 g s.fwd.segments).mpr h)

theorem loadAdmission_full {k : Word16} {s : State} (hlen : s.admissionTable.length = 16)
    (hkey : ∀ x ∈ s.admissionTable, x.bladeType ≠ k) (g : AdmissionRule) :
    loadAdmission (some k) g s = refuse s .full := by
  refine if_neg ?_
  rw [tableTakes_iff, hlen]
  rintro (h | ⟨x, hx, he⟩)
  · exact absurd h (by decide)
  · exact hkey x hx (BitVec.eq_of_toNat_eq he)

theorem loadAdmission_takes {k : Word16} {s : State}
    (h : s.admissionTable.length < 16 ∨ ∃ x ∈ s.admissionTable, x.bladeType = k) (g : AdmissionRule) :
    loadAdmission (some k) g s =
      answerOk { s with admissionTable := placeByKey entryKey { bladeType := k, rule := g } s.admissionTable }
        [[admissionEntryField { bladeType := k, rule := g }]] false :=
  if_pos ((tableTakes_iff entryKey 16 { bladeType := k, rule := g } s.admissionTable).mpr
    (h.imp_right fun ⟨x, hx, he⟩ => ⟨x, hx, congrArg BitVec.toNat he⟩))

theorem deleteSegment_absent {id : Nat} {s : State} (h : ∀ x ∈ s.fwd.segments, x.tagId ≠ id) :
    deleteSegment id s = refuse s .badValue :=
  if_neg (by simpa using h)

theorem deleteSegment_present {id : Nat} {s : State} (h : ∃ x ∈ s.fwd.segments, x.tagId = id) :
    deleteSegment id s = answerOk (setSegments (s.fwd.segments.filter fun g => decide (g.tagId ≠ id)) s) [] false :=
  if_pos (by simpa using h)

theorem deleteAdmission_absent {k : Word16} {s : State} (h : ∀ x ∈ s.admissionTable, x.bladeType ≠ k) :
    deleteAdmission (some k) s = refuse s .badValue :=
  if_neg (by simpa using h)

theorem deleteAdmission_present {k : Word16} {s : State} (h : ∃ x ∈ s.admissionTable, x.bladeType = k) :
    deleteAdmission (some k) s =
      answerOk { s with admissionTable := s.admissionTable.filter fun e => decide (e.bladeType ≠ k) } [] false :=
  if_pos (by simpa using h)

/-! ### The table commands (O42) -/

/-- Settles O42: the five commands, each by its table. -/
theorem tableCommandsEditTheirTables : Obligations.TableCommandsEditTheirTables := by
  refine ⟨classMapArgs_eq_some, segmentArgs_eq_some, deleteSegmentArgs_eq_some, admissionArgs_eq_some,
    deleteAdmissionArgs_eq_some, ?_⟩
  intro s cs u e items harrives hcs
  subst hcs
  have hexecLoad {k : Option Word16} {g : AdmissionRule} (hargs : admissionArgs items = some (k, g)) :
      exec (.loadAdmission u e items) s =
        .next (commandDone s u e 0x1E#16 (loadAdmission k g (commandState s u e))) := by
    rw [exec_loadAdmission_arrives s u e items harrives, cmdLoadAdmission, withArgs_some hargs]
  have hexecDelete {k : Option Word16} (hargs : deleteAdmissionArgs items = some k) :
      exec (.deleteAdmission u e items) s =
        .next (commandDone s u e 0x1F#16 (deleteAdmission k (commandState s u e))) := by
    rw [exec_deleteAdmission_arrives s u e items harrives, cmdDeleteAdmission, withArgs_some hargs]
  refine ⟨fun pairs hargs => ?_, fun g hord hargs => ?_, fun id hargs => ?_, fun g hargs => ?_,
    fun k g hord hargs => ?_, fun hargs => ?_, fun k hargs => ?_⟩
  · obtain ⟨-, -, hnodup⟩ := (classMapArgs_eq_some items pairs).mp hargs
    refine ⟨pairs.foldl (fun m p => m.set p.1 p.2) s.fwd.classMap, ?_, fun p => ?_⟩
    · rw [exec_setClassMap_arrives s u e items harrives, cmdSetClassMap, withArgs_some hargs]
      rfl
    · rw [foldl_set_get (fun _ c => c) pairs hnodup s.fwd.classMap p]
      cases pairs.find? fun q => decide (q.1 = p) <;> rfl
  · have hexec : exec (.loadSegment u e items) s =
        .next (commandDone s u e 0x1C#16 (loadSegment g (commandState s u e))) := by
      rw [exec_loadSegment_arrives s u e items harrives, cmdLoadSegment, withArgs_some hargs]
    refine ⟨fun hlen hkey => ?_, fun htakes => ⟨placeByKey Segment.tagId g s.fwd.segments, ?_, ?_⟩⟩
    · rw [hexec, loadSegment_full (s := commandState s u e) hlen hkey]
      rfl
    · rw [hexec, loadSegment_takes (s := commandState s u e) htakes]
      rfl
    · exact mem_placeByKey Segment.tagId g s.fwd.segments hord.1
  · have hexec : exec (.deleteSegment u e items) s =
        .next (commandDone s u e 0x1D#16 (deleteSegment id (commandState s u e))) := by
      rw [exec_deleteSegment_arrives s u e items harrives, cmdDeleteSegment, withArgs_some hargs]
    refine ⟨fun h => ?_, fun h => ?_⟩
    · rw [hexec, deleteSegment_absent (s := commandState s u e) h]
      rfl
    · rw [hexec, deleteSegment_present (s := commandState s u e) h]
      rfl
  · rw [hexecLoad hargs]
    rfl
  · refine ⟨fun hlen hkey => ?_,
      fun htakes => ⟨placeByKey entryKey { bladeType := k, rule := g } s.admissionTable, ?_, fun x => ?_⟩⟩
    · rw [hexecLoad hargs, loadAdmission_full (s := commandState s u e) hlen hkey]
      rfl
    · rw [hexecLoad hargs, loadAdmission_takes (s := commandState s u e) htakes]
      rfl
    · rw [mem_placeByKey entryKey _ s.admissionTable hord.1]
      exact or_congr_right (and_congr_right fun _ => not_congr BitVec.toNat_eq.symm)
  · rw [hexecDelete hargs]
    rfl
  · refine ⟨fun h => ?_, fun h => ?_⟩
    · rw [hexecDelete hargs, deleteAdmission_absent (s := commandState s u e) h]
      rfl
    · rw [hexecDelete hargs, deleteAdmission_present (s := commandState s u e) h]
      rfl

end Sys2Proof.Machine
end

section
/-! SUPPORT. The reads answer from the state they find (O35). -/

namespace Sys2Proof.Machine

/-! ### A command with one field of one octet (R181) -/

/-- The only items that fit one field 1 of one octet are none and one of it. -/
theorem items_of_itemsFit {f : FieldSpec} {items : List Item} (hnumber : f.number = 1) (hleast : f.least = 1)
    (hmost : f.most = 1) (hrepeatable : f.repeatable = false) (h : itemsFit [f] items = true) :
    items = [] ∨ ∃ b : Byte, items = [{ field := 1#8, value := [b] }] := by
  simp only [itemsFit, List.all_cons, List.all_nil, List.any_cons, List.any_nil, hnumber, hleast, hmost, hrepeatable,
    Bool.and_eq_true, Bool.or_false, Bool.false_or, Bool.and_true, List.all_eq_true, decide_eq_true_eq] at h
  obtain ⟨hall, hcount, -⟩ := h
  rw [List.countP_eq_length.mpr fun it hit => by simpa using (hall it hit).1.1] at hcount
  match items, hcount with
  | [], _ => exact .inl rfl
  | [⟨field, value⟩], _ =>
    obtain ⟨⟨hfield, hone⟩, hone'⟩ := hall _ List.mem_cons_self
    obtain ⟨b, rfl⟩ := List.length_eq_one_iff.mp (Nat.le_antisymm hone' hone)
    have hfield' : field = 1#8 := BitVec.eq_of_toNat_eq hfield
    exact .inr ⟨b, by rw [hfield']⟩

theorem fieldNat_oneItem (b : Byte) : fieldNat 1 [{ field := 1#8, value := [b] }] = some b.toNat := by
  simp [fieldNat, fieldOctets, natOf]

theorem toNat_eq_iff_octet {n : Nat} (hn : n < 256) (b : Byte) : b.toNat = n ↔ b = octet n := by
  rw [octet, eq_comm, eq_comm (a := b)]
  exact (ofNat_eq_iff hn b).symm

theorem slotField_eq_some (items : List Item) (i : Slot) :
    slotField items = some i ↔ items = [{ field := 1#8, value := [octet (i.val + 1)] }] := by
  have hi : i.val + 1 < 256 := by omega
  rw [slotField, Option.ite_none_right_eq_some, fieldSlot_eq_some]
  constructor
  · rintro ⟨hfit, hv⟩
    rcases items_of_itemsFit rfl rfl rfl rfl hfit with rfl | ⟨b, rfl⟩
    · exact absurd hfit (by decide)
    · rw [fieldNat_oneItem, Option.some_inj, toNat_eq_iff_octet hi] at hv
      rw [hv]
  · rintro rfl
    refine ⟨rfl, ?_⟩
    rw [fieldNat_oneItem, Option.some_inj, toNat_eq_iff_octet hi]

theorem portCode_eq_some (v : Nat) (p : Port) : portCode v = some p ↔ v = (portIndex p).val + 1 := by
  have hslot (i : Slot) : (portIndex (.slot i)).val = i.val := rfl
  have hA : (portIndex (.uplink .A)).val = 16 := rfl
  have hB : (portIndex (.uplink .B)).val = 17 := rfl
  unfold portCode
  cases hm : memberOf 16 v with
  | some i =>
    have hv : v = i.val + 1 := (memberOf_eq_some v i).mp hm
    rcases p with j | _ | _
    · simp [hv, hslot, Fin.ext_iff]
    · simp [hv, hA]; omega
    · simp [hv, hB]; omega
  | none =>
    have hv (i : Slot) : v ≠ i.val + 1 := fun h => by simp [(memberOf_eq_some v i).mpr h] at hm
    rcases p with j | _ | _
    · simp only [hslot, hv j, iff_false]
      split_ifs <;> simp
    · simp [hA]
    · by_cases h : v = 17 <;> simp [hB, h]

theorem counterPorts_nil : counterPorts [] = some allPorts := rfl

theorem counterPorts_item (p : Port) :
    counterPorts [{ field := 1#8, value := [octet ((portIndex p).val + 1)] }] = some [p] := by
  have hp : (portIndex p).val + 1 < 256 := by omega
  have hport : fieldEnum 1 portCode [{ field := 1#8, value := [octet ((portIndex p).val + 1)] }] = some (some p) := by
    rw [fieldEnum_eq_some portCode_eq_some, fieldNat_oneItem, (toNat_eq_iff_octet hp _).mpr rfl]
    rfl
  have hfit : itemsFit [opt 1 1] [{ field := 1#8, value := [octet ((portIndex p).val + 1)] }] = true := rfl
  rw [counterPorts, if_pos hfit, hport]
  rfl

theorem counterPorts_ne_none (items : List Item) : counterPorts items ≠ none ↔
    items = [] ∨ ∃ p : Port, items = [{ field := 1#8, value := [octet ((portIndex p).val + 1)] }] := by
  constructor
  · intro h
    obtain ⟨ports, hports⟩ := Option.ne_none_iff_exists'.mp h
    rw [counterPorts, Option.ite_none_right_eq_some, Option.map_eq_some_iff] at hports
    obtain ⟨hfit, x, hx, -⟩ := hports
    refine (items_of_itemsFit rfl rfl rfl rfl hfit).imp_right ?_
    rintro ⟨b, rfl⟩
    rw [fieldEnum_eq_some portCode_eq_some, fieldNat_oneItem, Option.map_eq_some_iff] at hx
    obtain ⟨p, -, hp⟩ := hx
    exact ⟨p, by rw [(toNat_eq_iff_octet (by omega) b).mp hp.symm]⟩
  · rintro (rfl | ⟨p, rfl⟩)
    · simp [counterPorts_nil]
    · simp [counterPorts_item]

/-! ### The operands of READ_TABLE (R9, R30, R142) -/

/-- The code of a table (R181). -/
def TableSelector.code : TableSelector → Nat
  | .admission => 0
  | .station => 1
  | .segment => 2

theorem tableArgs_eq_some (items : List Item) (table : TableSelector) (k : Option Nat) :
    tableArgs items = some (table, k) ↔
      itemsFit [req 1 1, opt 2 2, opt 3 0] items = true ∧ fieldNat 1 items = some table.code ∧
      k = fieldNat 2 items ∧ (k = none ↔ fieldOctets 3 items ≠ none) ∧ (k = none → table = .admission) := by
  have hcode : (fieldNat 1 items).bind tableCode = some table ↔ fieldNat 1 items = some table.code :=
    bind_code tableCode_eq_some _ table
  have hfield : fieldOctets 3 items ≠ none ↔ hasField 3 items = true := Option.isSome_iff_ne_none.symm
  rw [← hcode, hfield, tableArgs]
  split
  next hfit =>
    split
    next t n ht hn hd =>
      rw [ht, hn, hd]
      simp only [hfit, Option.some_inj, Prod.mk.injEq, true_and]
      constructor
      · rintro ⟨rfl, rfl⟩
        simp
      · rintro ⟨rfl, rfl, -⟩
        exact ⟨rfl, rfl⟩
    next ht hn hd =>
      rw [ht, hn, hd]
      simp only [hfit, Option.some_inj, Prod.mk.injEq, true_and]
      constructor
      · rintro ⟨rfl, rfl⟩
        simp
      · rintro ⟨rfl, rfl, -⟩
        exact ⟨rfl, rfl⟩
    next hindex hdefault =>
      refine iff_of_false (by simp) ?_
      rintro ⟨-, ht, hk, hd, ha⟩
      cases hkn : k with
      | none => exact hdefault (ha hkn ▸ ht) (hk.symm.trans hkn) (hd.mp hkn)
      | some n =>
        have hno : hasField 3 items = false := Bool.eq_false_iff.mpr fun h => by simp [hd.mpr h] at hkn
        exact hindex table n ht (hk.symm.trans hkn) hno
  next hfit => simp [hfit]

/-! ### READ_TABLE (R9, R30, R142) -/

/-- The entry count of a table. -/
def tableLength (s : State) : TableSelector → Nat
  | .admission => s.admissionTable.length
  | .station => s.stations.length
  | .segment => s.fwd.segments.length

theorem tableEntry_cause {α : Type} (s : State) (table : List α) (n : Nat) (encode : α → Octets) (withCount : Bool) :
    (tableEntry s table n encode withCount).cause = false := by
  unfold tableEntry
  dsimp only
  split <;> rfl

theorem tableEntry_status {α : Type} (s : State) (table : List α) (n : Nat) (encode : α → Octets) (withCount : Bool) :
    (tableEntry s table n encode withCount).status = if n < table.length then .ok else .badValue := by
  unfold tableEntry
  dsimp only
  split
  next e he =>
    obtain ⟨hn, -⟩ := List.getElem?_eq_some_iff.mp he
    rw [if_pos hn]
    rfl
  next he => rw [if_neg (Nat.not_lt.mpr (List.getElem?_eq_none_iff.mp he))]

theorem tableEntry_results {α : Type} (s : State) (table : List α) (n : Nat) (encode : α → Octets) (withCount : Bool) :
    (tableEntry s table n encode withCount).results =
      ((table[n]?).toList.map fun e => [encode e]) ++ if withCount then [[be16n table.length]] else [] := by
  unfold tableEntry
  dsimp only
  split
  next e he => rw [he]; rfl
  next he => rw [he]; rfl

/-- What an index reads: the entry, and the count where the table gives one. -/
def tableResults (s : State) (n : Nat) : TableSelector → List (List Octets)
  | .admission => (s.admissionTable[n]?).toList.map fun x => [admissionEntryField x]
  | .station => ((s.stations[n]?).toList.map fun x => [be48 x.address ++ [octet (x.owner.val + 1)]]) ++
      [[be16n s.stations.length]]
  | .segment => ((s.fwd.segments[n]?).toList.map fun g => [segmentEntryField g]) ++
      [[be16n s.fwd.segments.length]]

theorem readTable_index_cause (s : State) (table : TableSelector) (n : Nat) :
    (readTable s table (some n)).cause = false := by
  cases table <;> exact tableEntry_cause ..

/-- An index below the count is read. -/
theorem readTable_index_status (s : State) (table : TableSelector) (n : Nat) :
    (readTable s table (some n)).status = if n < tableLength s table then .ok else .badValue := by
  cases table <;> exact tableEntry_status ..

theorem readTable_index_results (s : State) (table : TableSelector) (n : Nat) :
    (readTable s table (some n)).results = tableResults s n table := by
  cases table with
  | admission => exact (tableEntry_results ..).trans (List.append_nil _)
  | station => exact tableEntry_results ..
  | segment => exact tableEntry_results ..

/-- READ_TABLE by its operands: the default form, or an index. -/
theorem readTable_answers (s : State) (table : TableSelector) (k : Option Nat) (h : k = none → table = .admission) :
    (readTable s table k).state = s ∧ (readTable s table k).cause = false ∧
      ((readTable s table k).status = .ok ↔
        k = none ∧ table = .admission ∨ ∃ n, k = some n ∧ n < tableLength s table) ∧
      ((readTable s table k).status ≠ .ok → (readTable s table k).status = .badValue) ∧
      (k = none → (readTable s table k).results = [[admissionRuleField s.admissionDefault]]) ∧
      ∀ n : Nat, k = some n → (readTable s table k).results = tableResults s n table := by
  refine ⟨readTable_state s table k, ?_⟩
  cases k with
  | none =>
    rw [h rfl]
    exact ⟨rfl, iff_of_true rfl (.inl ⟨rfl, rfl⟩), fun h => absurd rfl h, fun _ => rfl, fun n h => nomatch h⟩
  | some n =>
    refine ⟨readTable_index_cause s table n, ?_, ?_, fun h => absurd h (Option.some_ne_none n), ?_⟩
    · rw [readTable_index_status]
      simp
    · rw [readTable_index_status]
      split <;> simp
    · rintro _ ⟨⟩
      exact readTable_index_results s table n

/-! ### The reads (O35) -/

/-- Settles O35: each read by the reader of its fields. -/
theorem readsAnswerFromTheState : Obligations.ReadsAnswerFromTheState := by
  refine ⟨tableArgs_eq_some, counterPorts_ne_none, slotField_eq_some, ?_⟩
  intro s cs u e items ok harrives hcs hok
  subst hcs
  refine ⟨fun i hargs => ⟨?_, ?_⟩, ?_, ?_, ?_, ?_⟩
  · rw [exec_readSlot_arrives s u e items harrives, cmdReadSlot, withArgs_some hargs, hok]
    rfl
  · rw [exec_readInventory_arrives s u e items harrives, cmdReadInventory, withArgs_some hargs, hok]
    rfl
  · rintro rfl
    simp only [hok]
    refine ⟨?_, ?_, ?_, ?_, ?_⟩
    · rw [exec_readPower_arrives s u e [] harrives]
      rfl
    · rw [exec_readThermal_arrives s u e [] harrives]
      rfl
    · rw [exec_readFans_arrives s u e [] harrives]
      rfl
    · rw [exec_readQueues_arrives s u e [] harrives]
      rfl
    · rw [exec_readAlerts_arrives s u e [] harrives]
      rfl
  · rintro rfl
    rw [exec_readCounters_arrives s u e [] harrives, cmdReadCounters, withArgs_some counterPorts_nil, hok]
    rfl
  · rintro p rfl
    rw [exec_readCounters_arrives s u e _ harrives, cmdReadCounters, withArgs_some (counterPorts_item p), hok]
    rfl
  · intro table k hargs
    obtain ⟨-, -, -, -, hadmission⟩ := (tableArgs_eq_some items table k).mp hargs
    have hexec : exec (.readTable u e items) s =
        .next (commandDone s u e 0x09#16 (readTable (commandState s u e) table k)) := by
      rw [exec_readTable_arrives s u e items harrives, cmdReadTable, withArgs_some hargs]
    exact ⟨hexec, readTable_answers (commandState s u e) table k hadmission⟩

end Sys2Proof.Machine
end

section
/-! SUPPORT. The lookups of forwarding, the reception of a traffic frame, and the steps of an upstream frame (O29). -/

namespace Sys2Proof.Machine

/-! ### Lookups by a key that occurs once (R25, R142) -/

/-- The entry found under a key is the entry that has it. -/
theorem find?_key_eq_some {α β : Type} [DecidableEq β] {key : α → β} {l : List α} (hl : (l.map key).Nodup) (k : β)
    (x : α) : l.find? (fun y => decide (key y = k)) = some x ↔ x ∈ l ∧ key x = k := by
  constructor
  · intro h
    exact ⟨List.mem_of_find?_eq_some h, by simpa using List.find?_some h⟩
  · rintro ⟨hx, rfl⟩
    obtain ⟨y, hy⟩ := Option.isSome_iff_exists.mp
      (List.find?_isSome (p := fun y => decide (key y = key x)).mpr ⟨x, hx, by simp⟩)
    have hkey : key y = key x := by simpa using List.find?_some hy
    rw [hy, List.inj_on_of_nodup_map hl (List.mem_of_find?_eq_some hy) hx hkey]

theorem ownerOf_eq_some {table : List StationEntry} (hn : (table.map (·.address)).Nodup) (a : Station) (i : Slot) :
    ownerOf table a = some i ↔ { address := a, owner := i } ∈ table := by
  rw [ownerOf, Option.map_eq_some_iff]
  constructor
  · rintro ⟨x, hx, rfl⟩
    obtain ⟨hmem, rfl⟩ := (find?_key_eq_some hn a x).mp hx
    exact hmem
  · intro hmem
    exact ⟨_, (find?_key_eq_some hn a _).mpr ⟨hmem, rfl⟩, rfl⟩

theorem segmentEntry_eq_some {s : State} (h : SegmentsOrdered s) (id : Nat) (g : Segment) :
    segmentEntry s id = some g ↔ g ∈ s.fwd.segments ∧ g.tagId = id := by
  obtain ⟨hord, -⟩ := h
  exact find?_key_eq_some (List.pairwise_map.mpr (hord.imp fun h => h.ne)) id g

theorem frameSegment_eq_some {s : State} (hs : SegmentsOrdered s) (default : Option Nat) (h : TrafficHeader)
    (g : Segment) : frameSegment s default h = some g ↔ g ∈ s.fwd.segments ∧ some g.tagId =
      (match h.control with
        | some k => if k.extractLsb' 0 12 = 0 then default else some (k.extractLsb' 0 12).toNat
        | none => default) := by
  have hbind (id : Option Nat) : id.bind (segmentEntry s) = some g ↔ g ∈ s.fwd.segments ∧ some g.tagId = id := by
    cases id with
    | none => simp
    | some n => rw [Option.bind_some, segmentEntry_eq_some hs, Option.some_inj]
  have hzero (k : Word16) : tagId k = 0 ↔ k.extractLsb' 0 12 = 0 := by
    rw [tagId, ← BitVec.toNat_inj]
    rfl
  rw [frameSegment, hbind]
  cases h.control with
  | none => rfl
  | some k =>
    dsimp only
    rw [if_congr (hzero k) rfl rfl, tagId]

/-! ### The uplink of a select (R138) -/

theorem chooseUplink_a (s : State) : chooseUplink s .a = if s.uplinkA.linkUp = true then some .A else none := rfl

theorem chooseUplink_b (s : State) : chooseUplink s .b = if s.uplinkB.linkUp = true then some .B else none := rfl

theorem chooseUplink_pairA (s : State) : chooseUplink s .pairA =
    if s.uplinkA.linkUp = true then some .A else if s.uplinkB.linkUp = true then some .B else none := rfl

theorem chooseUplink_pairB (s : State) : chooseUplink s .pairB =
    if s.uplinkB.linkUp = true then some .B else if s.uplinkA.linkUp = true then some .A else none := rfl

theorem chooseUplink_bothDown {s : State} (hA : s.uplinkA.linkUp = false) (hB : s.uplinkB.linkUp = false)
    (k : UplinkSelect) : chooseUplink s k = none := by
  cases k with
  | a => simp [chooseUplink_a, hA]
  | b => simp [chooseUplink_b, hB]
  | pairA => simp [chooseUplink_pairA, hA, hB]
  | pairB => simp [chooseUplink_pairB, hA, hB]

/-! ### The reception of a traffic frame (R130 to R132) -/

/-- The addresses and tag at the head of a frame's octets (R132). -/
def trafficHeader (s : State) (o : Octets) : TrafficHeader where
  destination := stationAt o 0
  source := stationAt o 6
  control := if word16At o 12 = s.fwd.tagType then some (word16At o 14) else none

/-- The traffic class of a frame on a port. -/
def trafficClass (h : TrafficHeader) : Port → FrameClass
  | .slot i => .upstream i h
  | .uplink u => .downstream u h

/-- A frame that is neither flow control nor addressed to the part or its group is traffic. -/
theorem frameClass_traffic {s : State} {o : Octets} (p : Port) (hflow : word16At o 12 ≠ 0x8808#16)
    (hown : stationAt o 0 ≠ s.station) (hgroup : stationAt o 0 ≠ 0x07E56A000001#48) :
    frameClass s p o = trafficClass (trafficHeader s o) p := by
  have hflow' : word16At o 12 ≠ Config.flowControlType := hflow
  have hto : ¬(stationAt o 0 = s.station ∨ stationAt o 0 = Config.groupAddress) := not_or.mpr ⟨hown, hgroup⟩
  simp only [frameClass, if_neg hflow', if_neg hto, decide_eq_true_eq]
  cases p with
  | slot i => rfl
  | uplink u => rfl

/-- A traffic frame that passes the CRC and length checks is counted and handled as traffic. -/
theorem receive_traffic {s : State} {rx : Reception} (p : Port) (hcrc : rx.crcMatches = true)
    (hleast : 64 ≤ rx.octets.length + 4) (hmost : rx.octets.length + 4 ≤ s.fwd.maxLength)
    (hflow : word16At rx.octets 12 ≠ 0x8808#16) (hown : stationAt rx.octets 0 ≠ s.station)
    (hgroup : stationAt rx.octets 0 ≠ 0x07E56A000001#48) :
    receive p rx s = handle p rx (trafficClass (trafficHeader s rx.octets) p) (countReceived p s) := by
  have hlen : ¬(rxLength rx < 64 ∨ s.fwd.maxLength < rxLength rx) := by
    rw [rxLength]
    omega
  rw [receive, if_neg (by simp [hcrc]), if_neg hlen, frameClass_traffic p hflow hown hgroup]

theorem slotState_running (s : State) (i : Slot) :
    (s.slotState i).running = true ↔ s.slotState i = .online ∨ s.slotState i = .capped := by
  cases s.slotState i <;> decide

/-! ### The segment's action on a frame (R137 to R139, R157) -/

theorem trapFrame_refused {p : Port} {rx : Reception} {s : State}
    (h : offerTrap { frame := rxFrame rx, port := p } s = none) : trapFrame p rx s = drop p .trapFull s := by
  rw [trapFrame, h]

theorem trapFrame_admitted {p : Port} {rx : Reception} {s t : State}
    (h : offerTrap { frame := rxFrame rx, port := p } s = some t) : trapFrame p rx s = carrierTry t := by
  rw [trapFrame, h]

theorem upstreamClass_eq (s : State) (i : Slot) (g : Segment) (h : TrafficHeader) : upstreamClass s i g h =
    (match g.override, h.control with
      | some k, _ => k
      | none, some k => s.fwd.classMap[(k.extractLsb' 13 3).toFin]
      | none, none => (s.slot i).adm.cls) := by
  unfold upstreamClass
  cases g.override with
  | some k => rfl
  | none =>
    cases h.control with
    | some k => rfl
    | none => rfl

section
variable {i : Slot} {g : Segment} {h : TrafficHeader} {rx : Reception} {s : State}

theorem forwardUpstream_linkDown (hu : chooseUplink s g.select = none) :
    forwardUpstream i g h rx s = drop (.slot i) .linkDown s := by
  rw [forwardUpstream, hu]

theorem forwardUpstream_refused {u : Uplink} (hu : chooseUplink s g.select = some u)
    (ho : offerClass u (upstreamClass s i g h) { frame := rxFrame rx, source := some i } s = none) :
    forwardUpstream i g h rx s = drop (.slot i) .queueFull s := by
  simp only [forwardUpstream, hu, ho]

theorem forwardUpstream_admitted {u : Uplink} {t : State} (hu : chooseUplink s g.select = some u)
    (ho : offerClass u (upstreamClass s i g h) { frame := rxFrame rx, source := some i } s = some t) :
    forwardUpstream i g h rx s = t := by
  simp only [forwardUpstream, hu, ho]

/-- What the action of its segment makes of an upstream frame that passed the steps before it. -/
def upstreamAction (i : Slot) (g : Segment) (h : TrafficHeader) (rx : Reception) (s : State) : SegmentAction → State
  | .drop => drop (.slot i) .segDrop s
  | .trap => trapFrame (.slot i) rx s
  | .forward => forwardUpstream i g h rx s

/-! ### The steps of an upstream frame in their order (R135 to R137) -/

theorem upstream_notOnline (hrun : (s.slotState i).running ≠ true) :
    upstream i h rx s = drop (.slot i) .notOnline s := by
  rw [upstream, if_pos (by simpa using hrun)]

theorem upstream_noSegment (hrun : (s.slotState i).running = true)
    (hseg : frameSegment s (s.slot i).adm.segment h = none) :
    upstream i h rx s = drop (.slot i) .noSegment s := by
  rw [upstream, if_neg (by simp [hrun]), hseg]

/-- With its segment found, a frame is tested for membership, then for its source, and then the action is taken. -/
theorem upstream_segment (hrun : (s.slotState i).running = true)
    (hseg : frameSegment s (s.slot i).adm.segment h = some g) :
    upstream i h rx s =
      if inSlotSet g.members i = false then drop (.slot i) .notMember s
      else if g.strict = true ∧ ownerOf s.stations h.source ≠ some i then drop (.slot i) .source s
      else upstreamAction i g h rx s g.action := by
  rw [upstream, if_neg (by simp [hrun]), hseg]
  simp only [Bool.not_eq_true']
  cases g.action with
  | drop => rfl
  | trap => rfl
  | forward => rfl

theorem upstream_notMember (hrun : (s.slotState i).running = true)
    (hseg : frameSegment s (s.slot i).adm.segment h = some g) (hmem : inSlotSet g.members i = false) :
    upstream i h rx s = drop (.slot i) .notMember s := by
  rw [upstream_segment hrun hseg, if_pos hmem]

theorem upstream_source (hrun : (s.slotState i).running = true)
    (hseg : frameSegment s (s.slot i).adm.segment h = some g) (hmem : inSlotSet g.members i = true)
    (hstrict : g.strict = true) (howner : ownerOf s.stations h.source ≠ some i) :
    upstream i h rx s = drop (.slot i) .source s := by
  rw [upstream_segment hrun hseg, if_neg (by simp [hmem]), if_pos ⟨hstrict, howner⟩]

theorem upstream_passed (hrun : (s.slotState i).running = true)
    (hseg : frameSegment s (s.slot i).adm.segment h = some g) (hmem : inSlotSet g.members i = true)
    (hsource : g.strict = true → ownerOf s.stations h.source = some i) :
    upstream i h rx s = upstreamAction i g h rx s g.action := by
  rw [upstream_segment hrun hseg, if_neg (by simp [hmem]), if_neg fun hbad => hbad.2 (hsource hbad.1)]

end

/-! ### The upstream frame (O29) -/

theorem exec_upstreamFrame_arrives {s : State} {rx : Reception} (i : Slot) (hcrc : rx.crcMatches = true)
    (hleast : 64 ≤ rx.octets.length + 4) (hmost : rx.octets.length + 4 ≤ s.fwd.maxLength)
    (hflow : word16At rx.octets 12 ≠ 0x8808#16) (hown : stationAt rx.octets 0 ≠ s.station)
    (hgroup : stationAt rx.octets 0 ≠ 0x07E56A000001#48) :
    exec (.upstreamFrame i rx) s = .next (close (countReceived (.slot i) s)
      (upstream i (trafficHeader s rx.octets) rx (countReceived (.slot i) s)) false) :=
  congrArg Host.Outcome.next (receive_traffic (.slot i) hcrc hleast hmost hflow hown hgroup)

/-- Settles O29: an upstream frame meets the steps of R135 to R139 in their order. The counted reception changes
nothing that they read. -/
theorem upstreamFramesAreForwarded : Obligations.UpstreamFramesAreForwarded := by
  refine ⟨fun table a i hn => ownerOf_eq_some hn a i, fun _ _ => rfl, fun _ => rfl,
    fun s default h g hs => frameSegment_eq_some hs default h g, fun s => ⟨chooseUplink_a s, chooseUplink_b s,
      fun hA => by rw [chooseUplink_pairA, if_pos hA], fun hB => by rw [chooseUplink_pairB, if_pos hB],
      fun hA hB => by simp [chooseUplink_pairA, hA, hB], fun hB hA => by simp [chooseUplink_pairB, hA, hB],
      chooseUplink_bothDown⟩, ?_⟩
  intro i rx s r h hcrc hleast hmost hflow hown hgroup hh hr
  have hslot : r.slot i = s.slot i := hr ▸ rfl
  have hstate : r.slotState i = s.slotState i := hr ▸ rfl
  have hstations : r.stations = s.stations := hr ▸ rfl
  have hfwd : r.fwd = s.fwd := hr ▸ rfl
  have hsegment : frameSegment r (s.slot i).adm.segment h = frameSegment s (s.slot i).adm.segment h := hr ▸ rfl
  have huplink (k : UplinkSelect) : chooseUplink r k = chooseUplink s k := hr ▸ rfl
  have hexec := exec_upstreamFrame_arrives i hcrc hleast hmost hflow hown hgroup
  rw [show trafficHeader s rx.octets = h from hh.symm, ← hr] at hexec
  rw [← hstate, ← hsegment, ← hstations, ← hslot, ← hfwd]
  refine ⟨_, hexec, fun honline hcapped => upstream_notOnline ?_, fun hrun => ?_⟩
  · exact fun hrun => ((slotState_running r i).mp hrun).elim honline hcapped
  replace hrun := (slotState_running r i).mpr hrun
  refine ⟨upstream_noSegment hrun, fun g hseg => ⟨upstream_notMember hrun hseg, upstream_source hrun hseg, ?_⟩⟩
  intro hmem hsource
  rw [upstream_passed hrun hseg hmem hsource]
  refine ⟨fun hdrop => by rw [hdrop, upstreamAction], fun htrap => ?_, fun hforward => ?_⟩
  · rw [htrap, upstreamAction]
    exact ⟨trapFrame_refused, fun _ => trapFrame_admitted⟩
  · rw [hforward, upstreamAction, ← huplink]
    refine ⟨forwardUpstream_linkDown, fun u c hu hc => ?_⟩
    obtain rfl : c = upstreamClass r i g h := hc.trans (upstreamClass_eq r i g h).symm
    exact ⟨forwardUpstream_refused hu, fun _ => forwardUpstream_admitted hu⟩

end Sys2Proof.Machine
end

section
/-! SUPPORT. The supply figures of the bays, and the capacity after a filtered bay line change (O9, O10). -/

namespace Sys2Proof.Machine

/-! ### The ratings of the contributing bays (R36, R37) -/

theorem mem_allBays : ∀ b : Bay, b ∈ allBays := by decide

theorem contributes_iff (b : BayRecord) : b.contributes = true ↔ b.present = true ∧ b.good = true :=
  Bool.and_eq_true_iff

theorem status_eq (b : BayRecord) : b.status =
    if b.present = true then (if b.good = true then .delivering else .failed)
    else (if b.good = true then .unseated else .vacant) := by
  unfold BayRecord.status
  cases b.present <;> cases b.good <;> rfl

theorem status_delivering_iff (b : BayRecord) : b.status = .delivering ↔ b.contributes = true := by
  rw [status_eq, contributes_iff]
  cases b.present <;> cases b.good <;> simp

/-- What a bay adds to the sums of R37. -/
def bayWatts (bays : Vector BayRecord 6) (b : Bay) : Nat := if bays[b].contributes = true then bays[b].rating else 0

theorem sum_ratings (bays : Vector BayRecord 6) (pick : Bay → Bool) :
    (ratings bays pick).sum = (allBays.map fun b => if pick b = true then bayWatts bays b else 0).sum := by
  unfold ratings
  induction allBays with
  | nil => rfl
  | cons b l ih =>
    rw [List.filterMap_cons, List.map_cons, List.sum_cons, ← ih, bayWatts]
    cases bays[b].contributes <;> cases pick b <;> simp

theorem mem_ratings_all {bays : Vector BayRecord 6} {v : Nat} :
    v ∈ ratings bays (fun _ => true) ↔ ∃ b : Bay, bays[b].contributes = true ∧ bays[b].rating = v := by
  simp [ratings, mem_allBays]

theorem gridSum_a (bays : Vector BayRecord 6) :
    gridSum bays true = bayWatts bays 0 + bayWatts bays 1 + bayWatts bays 2 := by
  simp [gridSum, sum_ratings, allBays, onGridA, Nat.add_assoc]

theorem gridSum_b (bays : Vector BayRecord 6) :
    gridSum bays false = bayWatts bays 3 + bayWatts bays 4 + bayWatts bays 5 := by
  simp [gridSum, sum_ratings, allBays, onGridA, Nat.add_assoc]

/-- S is the sum of both grids (R37). -/
theorem totalSum_eq (bays : Vector BayRecord 6) : totalSum bays = gridSum bays true + gridSum bays false := by
  simp [totalSum, sum_ratings, allBays, gridSum_a, gridSum_b, Nat.add_assoc]

/-! ### The largest rating (R38) -/

theorem largestRating_eq (bays : Vector BayRecord 6) :
    largestRating bays = (ratings bays fun _ => true).max?.getD 0 := by
  rw [largestRating, List.foldl_max, Nat.zero_max]

theorem largestRating_none {bays : Vector BayRecord 6} (h : ∀ b : Bay, bays[b].contributes = false) :
    largestRating bays = 0 := by
  have hnil : ratings bays (fun _ => true) = [] := by
    refine List.eq_nil_iff_forall_not_mem.mpr fun v hv => ?_
    obtain ⟨b, hb, -⟩ := mem_ratings_all.mp hv
    rw [h b] at hb
    cases hb
  rw [largestRating_eq, hnil]
  rfl

/-- Where some bay contributes, the largest rating is one of a contributing bay, and none exceeds it. -/
theorem largestRating_some {bays : Vector BayRecord 6} {b : Bay} (h : bays[b].contributes = true) :
    (∃ d : Bay, bays[d].contributes = true ∧ bays[d].rating = largestRating bays) ∧
      bays[b].rating ≤ largestRating bays := by
  have hb := mem_ratings_all.mpr ⟨b, h, rfl⟩
  rw [largestRating_eq]
  cases hmax : (ratings bays fun _ => true).max? with
  | none => rw [List.max?_eq_none_iff.mp hmax] at hb; cases hb
  | some v =>
    obtain ⟨hv, hle⟩ := List.max?_eq_some_iff.mp hmax
    exact ⟨mem_ratings_all.mp hv, hle _ hb⟩

theorem bayWatts_le_largestRating (bays : Vector BayRecord 6) (b : Bay) : bayWatts bays b ≤ largestRating bays := by
  unfold bayWatts
  split
  next h => exact (largestRating_some h).2
  next => exact Nat.zero_le _

/-! ### The raw figure (R38) -/

theorem rawFigure_le_totalSum (p : Redundancy) (bays : Vector BayRecord 6) : rawFigure p bays ≤ totalSum bays := by
  cases p with
  | none => exact le_rfl
  | n1 => exact Nat.sub_le _ _
  | grid =>
    rw [totalSum_eq]
    exact (Nat.min_le_left _ _).trans (Nat.le_add_right _ _)

/-- Bays that add at most `n` each give a raw figure of at most six times that. -/
theorem rawFigure_le {bays : Vector BayRecord 6} {n : Nat} (h : ∀ b : Bay, bayWatts bays b ≤ n) (p : Redundancy) :
    rawFigure p bays ≤ 6 * n := by
  have hle := rawFigure_le_totalSum p bays
  rw [totalSum_eq, gridSum_a, gridSum_b] at hle
  have h0 := h 0
  have h1 := h 1
  have h2 := h 2
  have h3 := h 3
  have h4 := h 4
  have h5 := h 5
  omega

/-- Settles O10: the sums are over what each bay adds, and the largest rating is the maximum of the listed ratings. -/
theorem supplyFiguresFollowTheBays : Obligations.SupplyFiguresFollowTheBays := by
  refine ⟨fun b => ⟨status_eq b, (status_delivering_iff b).symm⟩, fun bays w hw => ?_⟩
  obtain rfl : w = bayWatts bays := funext hw
  refine ⟨gridSum_a bays, gridSum_b bays, ?_, bayWatts_le_largestRating bays, ?_, largestRating_none, rfl, rfl, rfl,
    fun hnone p => ?_, fun hrating p => ?_⟩
  · rw [totalSum_eq, gridSum_a, gridSum_b]
    simp only [Nat.add_assoc]
  · rintro ⟨b, hb⟩
    exact (largestRating_some hb).1
  · have hzero (b : Bay) : bayWatts bays b ≤ 0 := by rw [bayWatts, hnone b]; exact le_rfl
    exact Nat.le_zero.mp (rawFigure_le hzero p)
  · refine rawFigure_le (n := 4000) (fun b => ?_) p
    unfold bayWatts
    split
    · exact hrating b
    · exact Nat.zero_le _

/-! ### A filtered bay line change (R34, R39, R40) -/

theorem exec_bayLineFilterExpiry {b : Bay} {line : BayLine} {s : State}
    (hw : (s.bays[b].window line).isRunning = true) (hne : s.bays[b].line line ≠ s.bays[b].level line) :
    exec (.bayLineFilterExpiry b line) s =
      .next (close s (changeTrigger (recomputeCapacity (s.modBay b (takeBayLine line)))) false) := by
  have hexpiry : bayExpiry b line s = changeTrigger (recomputeCapacity (s.modBay b (takeBayLine line))) := if_neg hne
  show Host.Outcome.next (if _ then _ else _) = _
  rw [if_pos hw, hexpiry]

theorem recomputeCapacity_alerts (s : State) (a : Alert) : a ∈ (recomputeCapacity s).mgmt.alerts ↔
    (a = { kind := .supplyChange, index := 0 } ∧ (recomputeCapacity s).supply.capacity ≠ s.supply.capacity) ∨
      a ∈ s.mgmt.alerts := by
  rw [recomputeCapacity_eq]
  exact mem_alerts_ite _ _ _

theorem recomputeCapacity_bays (s : State) : (recomputeCapacity s).bays = s.bays := by
  rw [recomputeCapacity_eq]

/-- Settles O9: the expiry takes the line's level into its bay, recomputes the capacity and is handed on as a CHANGE
trigger. -/
theorem bayExpiryRecomputesCapacity : Obligations.BayExpiryRecomputesCapacity := by
  intro b line s hw hne
  refine ⟨_, exec_bayLineFilterExpiry hw hne, ?_, fun d hd => ?_, ?_,
    recomputeCapacity_alerts (s.modBay b (takeBayLine line)), ?_⟩
  · rw [recomputeCapacity_bays, State.bays_modBay, if_pos rfl]
    cases line <;> rfl
  · rw [recomputeCapacity_bays, State.bays_modBay, if_neg hd]
  · rw [recomputeCapacity_eq]
    rfl
  · rw [recomputeCapacity_eq]
    rfl

end Sys2Proof.Machine
end

section
/-! SUPPORT. The completion of a conversion (O19). -/

namespace Sys2Proof.Machine

/-! ### The result of a conversion (R95) -/

/-- The value that a code stands for: two's complement on the temperature channels, the code itself above (R95). -/
def codeValue (c : Channel) (code : Byte) : Int := if c.val < 4 then code.toInt else (code.toNat : Int)

theorem toInt_eq_lowest_iff (code : Byte) : code.toInt = -128 ↔ code = 0x80#8 := by
  rw [show (-128 : Int) = (0x80#8 : Byte).toInt from by decide, BitVec.toInt_inj]

theorem conversionResult_none {c : Channel} {code : Byte} (hc : c.val < 4) (hcode : code = 0x80#8) :
    conversionResult c code = none := by
  rw [conversionResult, if_pos hc, if_pos ((toInt_eq_lowest_iff code).mpr hcode)]

theorem conversionResult_some {c : Channel} {code : Byte} (h : ¬(c.val < 4 ∧ code = 0x80#8)) :
    conversionResult c code = some (codeValue c code) := by
  unfold conversionResult codeValue
  split
  next hc => rw [if_neg fun hcode => h ⟨hc, (toInt_eq_lowest_iff code).mp hcode⟩]
  next => rfl

/-! ### The result stored and checked (R43, R101) -/

/-- The state with a conversion's result stored, checked and handed to the Supply Monitor (R43, R96, R101). -/
def resultStored (c : Channel) (code : Byte) (s : State) : State :=
  match conversionResult c code with
  | none => s
  | some v => handBrownout c v (checkLimits c v (s.modChannel c fun r => { r with result := some v }))

theorem brownoutAfter_eq (holding : Bool) (v low : Int) :
    brownoutAfter holding v low = (decide (v ≤ low) || (holding && decide (v ≤ low + 4))) := by
  unfold brownoutAfter
  split
  next h => simp [h]
  next h => simp [h]

/-- The alert set after a result is checked against the limits of its channel (R101). -/
def limitAlerts (c : Channel) (v : Int) (r : ChannelRecord) (l : List Alert) : List Alert :=
  if r.high < v ∨ v ≤ r.low then raisedAlerts { kind := .localLimit, index := c.val } l else l

/-- The alert set after a result is handed to the Supply Monitor (R43). -/
def brownoutAlerts (c : Channel) (v : Int) (r : ChannelRecord) (l : List Alert) : List Alert :=
  if c = 4 ∧ v ≤ r.low then raisedAlerts { kind := .brownout, index := 0 } l else l

/-- The brownout condition after a result is handed to the Supply Monitor (R43). -/
def brownoutHeld (c : Channel) (v : Int) (r : ChannelRecord) (holding : Bool) : Bool :=
  if c = 4 then decide (v ≤ r.low) || (holding && decide (v ≤ r.low + 4)) else holding

theorem checkLimits_eq (c : Channel) (v : Int) (s : State) : checkLimits c v s =
    { s with mgmt := { s.mgmt with alerts := limitAlerts c v s.channels[c] s.mgmt.alerts } } := by
  unfold checkLimits limitAlerts
  split
  next => rw [raise_eq]
  next => rfl

theorem handBrownout_eq (c : Channel) (v : Int) (s : State) : handBrownout c v s =
    { s with
      supply := { s.supply with brownout := brownoutHeld c v s.channels[c] s.supply.brownout }
      mgmt := { s.mgmt with alerts := brownoutAlerts c v s.channels[c] s.mgmt.alerts } } := by
  by_cases hc : c = 4
  · subst hc
    rw [handBrownout, if_pos rfl, brownoutHeld, if_pos rfl, ← brownoutAfter_eq, brownoutAlerts]
    unfold applyBrownout
    dsimp only
    split
    next h => rw [raiseChassis, raise_eq, if_pos ⟨rfl, h⟩]
    next h => rw [if_neg fun h' => h h'.2]
  · rw [handBrownout, if_neg hc, brownoutHeld, if_neg hc, brownoutAlerts, if_neg fun h => hc h.1]

/-- What both checks of a result give (R43, R101). -/
theorem resultChecked_eq (c : Channel) (v : Int) (s : State) : handBrownout c v (checkLimits c v s) =
    { s with
      supply := { s.supply with brownout := brownoutHeld c v s.channels[c] s.supply.brownout }
      mgmt := { s.mgmt with
        alerts := brownoutAlerts c v s.channels[c] (limitAlerts c v s.channels[c] s.mgmt.alerts) } } := by
  rw [handBrownout_eq, checkLimits_eq]

theorem resultStored_none {c : Channel} {code : Byte} (hc : c.val < 4) (hcode : code = 0x80#8) (s : State) :
    resultStored c code s = s := by
  rw [resultStored, conversionResult_none hc hcode]

/-- The result in its channel, with what its checks give; they read the limits of the channel alone. -/
theorem resultStored_some {c : Channel} {code : Byte} (h : ¬(c.val < 4 ∧ code = 0x80#8)) (s : State) :
    resultStored c code s =
      { s with
        channels := s.channels.set c { s.channels[c] with result := some (codeValue c code) }
        supply := { s.supply with
          brownout := brownoutHeld c (codeValue c code) s.channels[c] s.supply.brownout }
        mgmt := { s.mgmt with
          alerts := brownoutAlerts c (codeValue c code) s.channels[c]
            (limitAlerts c (codeValue c code) s.channels[c] s.mgmt.alerts) } } := by
  rw [resultStored, conversionResult_some h]
  dsimp only
  rw [resultChecked_eq, State.channels_modChannel, if_pos rfl]
  rfl

/-- What the result changes: its channel, the brownout and the alert set. -/
theorem resultStored_frame (c : Channel) (code : Byte) (s : State) : resultStored c code s =
    { s with
      channels := (resultStored c code s).channels
      supply := { s.supply with brownout := (resultStored c code s).supply.brownout }
      mgmt := { s.mgmt with alerts := (resultStored c code s).mgmt.alerts } } := by
  by_cases h : c.val < 4 ∧ code = 0x80#8
  · rw [resultStored_none h.1 h.2]
  · rw [resultStored_some h]

theorem resultStored_sameThermal (c : Channel) (code : Byte) (s : State) : SameThermal s (resultStored c code s) := by
  rw [resultStored_frame]
  exact ⟨rfl, rfl, rfl, rfl⟩

theorem resultStored_channel {c : Channel} {code : Byte} (h : ¬(c.val < 4 ∧ code = 0x80#8)) (s : State) :
    (resultStored c code s).channels[c] = { s.channels[c] with result := some (codeValue c code) } := by
  rw [resultStored_some h]
  exact Vector.getElem_set_self _

theorem resultStored_channel_ne {c d : Channel} (hd : d ≠ c) (code : Byte) (s : State) :
    (resultStored c code s).channels[d] = s.channels[d] := by
  by_cases h : c.val < 4 ∧ code = 0x80#8
  · rw [resultStored_none h.1 h.2]
  · rw [resultStored_some h]
    exact Vector.getElem_set_ne c.isLt d.isLt fun he => hd (Fin.ext he.symm)

theorem resultStored_alerts {c : Channel} {code : Byte} (h : ¬(c.val < 4 ∧ code = 0x80#8)) (s : State) (a : Alert) :
    a ∈ (resultStored c code s).mgmt.alerts ↔
      ((a = { kind := .localLimit, index := c.val } ∧
          (s.channels[c].high < codeValue c code ∨ codeValue c code ≤ s.channels[c].low)) ∨
        (a = { kind := .brownout, index := 0 } ∧ c = 4 ∧ codeValue c code ≤ s.channels[c].low)) ∨
        a ∈ s.mgmt.alerts := by
  rw [resultStored_some h]
  dsimp only
  rw [brownoutAlerts, mem_alerts_ite, limitAlerts, mem_alerts_ite, or_left_comm, or_assoc]

/-! ### The next channel (R96) -/

theorem nextChannel_eq (mask : BitVec 8) (least : Nat) :
    nextChannel mask least = Fin.find? fun c => decide (least ≤ c.val) && mask.getLsbD c.val :=
  Fin.find?_eq_find?_finRange.symm

theorem nextChannel_eq_some {mask : BitVec 8} {c d : Channel} : nextChannel mask (c.val + 1) = some d ↔
    c < d ∧ mask.getLsbD d.val = true ∧ ∀ k : Channel, c < k → k < d → mask.getLsbD k.val = false := by
  rw [nextChannel_eq, Fin.find?_eq_some_iff, Bool.and_eq_true, decide_eq_true_eq, and_assoc]
  refine and_congr Iff.rfl (and_congr Iff.rfl (forall_congr' fun k => ?_))
  rw [Bool.and_eq_false_imp, decide_eq_true_eq]
  exact ⟨fun h hck hkd => h hkd hck, fun h hkd hck => h hck hkd⟩

theorem nextChannel_eq_none {mask : BitVec 8} {c : Channel} : nextChannel mask (c.val + 1) = none ↔
    ∀ k : Channel, c < k → mask.getLsbD k.val = false := by
  rw [nextChannel_eq, Fin.find?_eq_none_iff]
  refine forall_congr' fun k => ?_
  rw [Bool.and_eq_false_imp, decide_eq_true_eq]
  rfl

theorem advanceEngine_converting (w : Sweep) (least : Nat) (d : Channel) :
    (advanceEngine w least).engine = .converting d ↔ nextChannel w.current.mask least = some d := by
  unfold advanceEngine
  cases nextChannel w.current.mask least <;> simp

theorem advanceEngine_idle (w : Sweep) (least : Nat) :
    (advanceEngine w least).engine = .idle ↔ nextChannel w.current.mask least = none := by
  unfold advanceEngine
  cases nextChannel w.current.mask least <;> simp

/-! ### The completion -/

/-- Without a mapped zone no zone is recomputed, and nothing is handed on. -/
theorem rezoneChannel_eq (c : Channel) (s : State) : rezoneChannel c s = rezone s.channels[c].zone.toList s := by
  unfold rezoneChannel
  cases s.channels[c].zone with
  | none => exact (if_pos ⟨rfl, rfl⟩ : propagate s s = s).symm
  | some z => rfl

theorem resultStored_zone (c : Channel) (code : Byte) (s : State) :
    (resultStored c code s).channels[c].zone = s.channels[c].zone := by
  by_cases h : c.val < 4 ∧ code = 0x80#8
  · rw [resultStored_none h.1 h.2]
  · rw [resultStored_channel h]

/-- The state with the result handed to the zone that its channel is mapped to (R104). -/
def resultHandedOn (c : Channel) (code : Byte) (s : State) : State :=
  rezone s.channels[c].zone.toList (resultStored c code s)

/-- What the result and the recomputation of its zone change. -/
theorem resultHandedOn_frame (c : Channel) (code : Byte) (s : State) : resultHandedOn c code s =
    { s with
      channels := (resultStored c code s).channels
      supply := { s.supply with brownout := (resultStored c code s).supply.brownout }
      zones := (resultHandedOn c code s).zones
      thermal := { s.thermal with overrideOn := (resultHandedOn c code s).thermal.overrideOn }
      fans := (resultHandedOn c code s).fans, fanReservation := (resultHandedOn c code s).fanReservation
      mgmt := { s.mgmt with alerts := (resultHandedOn c code s).mgmt.alerts } } := by
  obtain ⟨z, fs, b, F, al, hr⟩ := rezone_frame s.channels[c].zone.toList (resultStored c code s)
  rw [resultHandedOn, hr, resultStored_frame]

theorem completeConversion_state (c : Channel) (code : Byte) (s : State) : (completeConversion c code s).state =
    { resultHandedOn c code s with sweep := advanceEngine s.sweep (c.val + 1) } := by
  have hsweep : (resultHandedOn c code s).sweep = s.sweep := by rw [resultHandedOn_frame]
  have hrezone : rezoneChannel c (resultStored c code s) = resultHandedOn c code s := by
    rw [rezoneChannel_eq, resultStored_zone, resultHandedOn]
  show ({ rezoneChannel c (resultStored c code s) with
    sweep := advanceEngine (rezoneChannel c (resultStored c code s)).sweep (c.val + 1) } : State) = _
  rw [hrezone, hsweep]

theorem exec_conversionComplete {c : Channel} {s : State} (code : Byte) (h : s.sweep.engine = .converting c) :
    exec (.conversionComplete code) s = .next (close s
      { resultHandedOn c code s with sweep := advanceEngine s.sweep (c.val + 1) }
      (s.supply.brownout && !(resultHandedOn c code s).supply.brownout)) := by
  have hcause : (completeConversion c code s).cause =
      (s.supply.brownout && !(completeConversion c code s).state.supply.brownout) := rfl
  show execConversionComplete code s = _
  rw [execConversionComplete, h]
  dsimp only
  rw [hcause, completeConversion_state]

/-- Settles O19: the stored result is followed by a recomputation of the zone that its channel is mapped to, and the
engine goes on. -/
theorem conversionStoresChecksAndGoesOn : Obligations.ConversionStoresChecksAndGoesOn := by
  intro c code s hengine
  obtain ⟨hzones, hthermal, halerts⟩ :=
    rezone_handedOn (resultStored_sameThermal c code s) s.channels[c].zone.toList
  have hframe := resultHandedOn_frame c code s
  have hchannels : (resultHandedOn c code s).channels = (resultStored c code s).channels := by rw [hframe]
  have hsupply : (resultHandedOn c code s).supply = (resultStored c code s).supply := by
    rw [hframe, resultStored_frame]
  refine ⟨_, exec_conversionComplete code hengine, fun v hcode hv => ?_, fun hc hcode => ?_, fun d hd => ?_,
    fun z => ?_, hthermal.congr_right ⟨rfl, rfl, rfl, rfl⟩, fun d => ?_, ?_, ?_⟩
  · subst hv
    refine ⟨?_, ?_, fun a => ?_⟩
    · dsimp only
      rw [hchannels]
      exact resultStored_channel hcode s
    · dsimp only
      rw [hsupply, resultStored_some hcode]
      rfl
    · refine (halerts a).trans ?_
      rw [resultStored_alerts hcode, or_assoc]
      rfl
  · refine ⟨?_, ?_, fun a => ?_⟩
    · exact hchannels.trans (by rw [resultStored_none hc hcode])
    · exact hsupply.trans (by rw [resultStored_none hc hcode])
    · have hkept : (resultStored c code s).mgmt.alerts = s.mgmt.alerts := by rw [resultStored_none hc hcode]
      refine (halerts a).trans ?_
      rw [hkept, false_or]
      rfl
  · dsimp only
    rw [hchannels]
    exact resultStored_channel_ne hd code s
  · have hz := hzones z
    simp only [Option.mem_toList] at hz
    exact hz
  · exact (advanceEngine_converting _ _ d).trans nextChannel_eq_some
  · exact (advanceEngine_idle _ _).trans nextChannel_eq_none
  · dsimp only
    rw [hframe]
    rfl

end Sys2Proof.Machine
end

section
/-! SUPPORT. What the own changes of an event leave of the commitments, and the budget through every step (O55). -/

namespace Sys2Proof.Machine

/-! ### No slot holds more -/

/-- No slot holds more power in `t` than in `s` (R48). -/
def HoldsNoMore (s t : State) : Prop := ∀ i, commitment (t.slot i) ≤ commitment (s.slot i)

theorem HoldsNoMore.refl (s : State) : HoldsNoMore s s := fun _ => le_rfl

theorem HoldsNoMore.trans {s t u : State} (h : HoldsNoMore s t) (h' : HoldsNoMore t u) : HoldsNoMore s u :=
  fun i => (h' i).trans (h i)

/-- What a slot holds is of its core. -/
theorem commitment_coreRecord (r : SlotRecord) : commitment (coreRecord r) = commitment r := rfl

theorem HoldsNoMore.of_core {s t : State} (h : SameCore s t) : HoldsNoMore s t := fun i => by
  rw [← commitment_coreRecord, h.slots, commitment_coreRecord]

theorem HoldsNoMore.of_quiet {s t : State} (h : t.quiet = s.quiet) : HoldsNoMore s t := .of_core (.of_quiet h)

theorem HoldsNoMore.of_slots {s t : State} (h : t.slots = s.slots) : HoldsNoMore s t := fun i => by
  rw [State.slot, h, State.slot]

/-- A change of one slot's record to one that holds no more. -/
theorem HoldsNoMore.of_slot {s t : State} {i : Slot} {r : SlotRecord}
    (h : ∀ j, t.slot j = if j = i then r else s.slot j) (hr : commitment r ≤ commitment (s.slot i)) :
    HoldsNoMore s t := fun j => by
  rw [h]
  split
  next hj => rw [hj]; exact hr
  next => exact le_rfl

theorem HoldsNoMore.modSlot (s : State) (i : Slot) (f : SlotRecord → SlotRecord)
    (h : ∀ r, commitment (f r) ≤ commitment r) : HoldsNoMore s (s.modSlot i f) :=
  .of_slot (State.slot_modSlot s i · f) (h _)

theorem HoldsNoMore.modAdm (s : State) (i : Slot) (f : AdmissionPart → AdmissionPart) : HoldsNoMore s (s.modAdm i f) :=
  .modSlot s i _ fun _ => le_rfl

theorem HoldsNoMore.modInv (s : State) (i : Slot) (f : InventoryRecord → InventoryRecord) :
    HoldsNoMore s (s.modInv i f) := .modSlot s i _ fun _ => le_rfl

theorem HoldsNoMore.modRail (s : State) (i : Slot) (f : RailPart → RailPart) : HoldsNoMore s (s.modRail i f) :=
  .modSlot s i _ fun _ => le_rfl

theorem HoldsNoMore.raised {s t : State} (h : HoldsNoMore s t) (a : Alert) : HoldsNoMore s (raise a t) :=
  h.trans (.of_core (.raise a t))

theorem HoldsNoMore.moveTo {s t : State} (h : HoldsNoMore s t) (i : Slot) (st : SlotState) :
    HoldsNoMore s (moveTo i st t) := h.trans (.of_slot (moveTo_slot i st t) le_rfl)

/-- A main-off leaves its slot the standby W (R48). -/
theorem HoldsNoMore.mainOff {s t : State} (h : HoldsNoMore s t) (i : Slot) (st : SlotState) :
    HoldsNoMore s (mainOff i st t) :=
  h.trans (.of_slot (mainOff_slot i st t) (Nat.le_add_right _ _))

theorem HoldsNoMore.changeTrigger {s t : State} (h : HoldsNoMore s t) : HoldsNoMore s (changeTrigger t) :=
  h.trans (.of_core (.changeTrigger t))

theorem HoldsNoMore.refreshStations {s t : State} (h : HoldsNoMore s t) (i : Slot) (l : List Station) :
    HoldsNoMore s (refreshStations i l t) := h.trans (.of_slot (refreshStations_slot i · l t) le_rfl)

/-- A fold of steps after which no slot holds more. -/
theorem HoldsNoMore.foldl {α : Type} (step : State → α → State) (h : ∀ t a, HoldsNoMore t (step t a)) (l : List α)
    (s : State) : HoldsNoMore s (l.foldl step s) := by
  induction l generalizing s with
  | nil => exact .refl s
  | cons a l ih => exact (h s a).trans (ih _)

/-! ### The own changes of the events -/

theorem presenceExpiry_holdsNoMore (i : Slot) (s : State) : HoldsNoMore s (presenceExpiry i s).state := by
  have htaken : HoldsNoMore s (s.modAdm i takePresence) := .modAdm s i _
  unfold presenceExpiry
  dsimp only
  split
  next => exact htaken
  next =>
    split
    next =>
      split
      next => exact .changeTrigger (.of_slot (insertion_slot i · s) le_rfl)
      next => exact htaken.changeTrigger
    next =>
      split
      next => exact htaken.changeTrigger
      next => exact .changeTrigger (.of_slot (removal_slot i · s) (Nat.zero_le _))

theorem powerGoodExpiry_holdsNoMore (i : Slot) (s : State) : HoldsNoMore s (powerGoodExpiry i s).state := by
  have htaken : HoldsNoMore s (s.modRail i takePowerGood) := .modRail s i _
  unfold powerGoodExpiry
  dsimp only
  split
  next => exact htaken
  next =>
    split
    next =>
      dsimp only
      split
      next => exact htaken.trans (.modRail _ i _)
      next => exact htaken
    next =>
      split
      next => exact (htaken.mainOff i .fault).raised _
      next => exact htaken

theorem gateExpiry_holdsNoMore (s : State) : HoldsNoMore s (gateExpiry s) := by
  have hfan (t : State) (f : Fan) : HoldsNoMore t (gateFan f t) := by
    have hchange : HoldsNoMore t (changeFan f gateResult t) := .of_slots rfl
    unfold gateFan checkStall
    split
    next => exact hchange.raised _
    next => exact hchange
  have hfans := HoldsNoMore.foldl (fun s f => gateFan f s) hfan allFans s
  unfold gateExpiry
  generalize allFans.foldl (fun s f => gateFan f s) s = t at hfans ⊢
  exact hfans.trans (.of_slots rfl)

theorem takeAnnounce_holdsNoMore (i : Slot) (b : AnnounceBody) (s : State) :
    HoldsNoMore s (takeAnnounce i b s).state := by
  unfold takeAnnounce
  split
  next => exact .of_slots rfl
  next =>
    split
    next => exact .of_slots rfl
    next =>
      split
      next => exact .of_slot (evaluateAnnounce_slot i · b s) le_rfl
      next => exact .refreshStations (.modInv s i _) i _

/-- By its own changes no event gives a slot more power: grants and uncaps are the evaluation's (R50). -/
theorem OwnChange.holdsNoMore {s m : State} {cause : Bool} (h : OwnChange s m cause) : HoldsNoMore s m := by
  cases h with
  | presence i _ => exact presenceExpiry_holdsNoMore i s
  | announceWindow i _ =>
    unfold announceExpiry
    dsimp only
    split
    next => exact .raised (.moveTo (.modAdm s i _) i _) _
    next => exact .modAdm s i _
  | uplinkComplete u f _ => exact .of_quiet (quiet_uplinkComplete u f s)
  | slotComplete i f _ => exact .of_quiet (quiet_slotComplete i f s)
  | holdEnd u => exact .of_quiet (quiet_modUplink s u _)
  | pauseRefresh i => exact .of_quiet (quiet_modQue s i _)
  | linkFall u => exact .of_quiet (quiet_linkFall u s)
  | linkRise u => exact .of_quiet (quiet_modUplink s u _)
  | bay b line =>
    have htaken : HoldsNoMore s (s.modBay b (takeBayLine line)) := .of_slots rfl
    unfold bayExpiry
    dsimp only
    split
    next => exact htaken
    next => exact .changeTrigger (htaken.trans (.of_core (recomputeCapacity_core _)))
  | capAck i =>
    unfold capAckExpiry
    split
    next => exact ((HoldsNoMore.refl s).mainOff i .powerWait).raised _
    next => exact .modSlot s i _ fun _ => le_rfl
  | powerGood i _ => exact powerGoodExpiry_holdsNoMore i s
  | powerGoodTimer i =>
    unfold powerGoodTimeout
    split
    next => exact ((HoldsNoMore.refl s).mainOff i .fault).raised _
    next => exact .modRail s i _
  | resetHold i =>
    unfold resetHoldEnd
    split
    next => exact .of_slot (online_slot i · s) le_rfl
    next => exact .modRail s i _
  | shutdown i =>
    unfold shutdownExpiry
    split
    next => exact ((HoldsNoMore.refl s).mainOff i .standby).raised _
    next => exact .modRail s i _
  | stale i => exact .of_core ((SameCore.modTel s i _).trans (.rezoneSlot i _))
  | conversion c code _ => exact .of_slots (by rw [completeConversion_state, resultHandedOn_frame])
  | ramp f _ => exact .of_slots rfl
  | spinUp f _ => exact .of_slots rfl
  | tachGate => exact gateExpiry_holdsNoMore s
  | flow p opcode quanta => exact .of_quiet (quiet_takeFlow p opcode quanta s)
  | malformed p => exact .of_slots rfl
  | announce i b => exact takeAnnounce_holdsNoMore i b s
  | telemetry i l =>
    unfold takeTelemetry
    split
    next => exact .of_slots rfl
    next => exact .of_core ((SameCore.modTel s i _).trans (.rezoneSlot i _))
  | ackCap i sequence =>
    unfold takeCapAck
    split
    next => exact .modSlot s i _ fun _ => le_rfl
    next => exact .refl s
  | ackShutdown i =>
    unfold takeShutdownAck
    split
    next => exact (HoldsNoMore.refl s).mainOff i .standby
    next => exact .refl s
  | upstream i h rx => exact .of_quiet (quiet_upstream i h rx s)
  | downstream u h rx => exact .of_quiet (quiet_downstream u h rx s)

/-! ### The commands -/

theorem setSupply_slots (x : SupplySettings) (s : State) : (setSupply x s).state.slots = s.slots := by
  by_cases h : x.lanes = none ∨ s.budget.lanesInUse = 0
  · rw [setSupply_eq h]
    exact (congrArg State.slots (supplySet_frame x s) :)
  · have hbusy : x.lanes.isSome = true ∧ 0 < s.budget.lanesInUse := by
      rwa [not_or, ← ne_eq, ← Option.isSome_iff_ne_none, ← ne_eq, ← Nat.pos_iff_ne_zero] at h
    rw [setSupply, if_pos hbusy]
    rfl

theorem setZone_slots (x : ZoneSettings) (s : State) : (setZone x s).state.slots = s.slots := by
  obtain ⟨fs, b, F, al, h⟩ := propagate_frame s
    { storeZoneForm x s with
      thermal := { (storeZoneForm x s).thermal with
        hysteresis := x.hysteresis.getD (storeZoneForm x s).thermal.hysteresis } }
  show (propagate s _).slots = _
  rw [h]
  show (storeZoneForm x s).slots = _
  unfold storeZoneForm
  split
  next => rfl
  next z _ =>
    dsimp only
    split
    next => rfl
    next =>
      obtain ⟨zones, hz⟩ := retemp_frame [z] (s.modZone z (storeZone x))
      rw [hz]
      rfl

theorem setUplink_holdsNoMore (a : UplinkArgs) (s : State) : HoldsNoMore s (setUplink a s).state := by
  unfold setUplink
  split
  next u management segment =>
    unfold setUplinkForm
    split
    next => exact .refl s
    next => exact .of_quiet (quiet_modUplink s u _)
  next =>
    unfold setChassisForm
    dsimp only
    split <;> exact .of_slots rfl

theorem slotPowerOn_holdsNoMore (i : Slot) (s : State) : HoldsNoMore s (slotPowerOn i s).state := by
  unfold slotPowerOn
  split
  next => exact (HoldsNoMore.refl s).moveTo i .powerWait
  all_goals exact .refl s

theorem slotPowerOff_holdsNoMore (i : Slot) (form : ShutdownForm) (s : State) :
    HoldsNoMore s (slotPowerOff i form s).state := by
  have hdown : HoldsNoMore s (beginShutdown i form s) := .of_slot (beginShutdown_slot i · form s) le_rfl
  unfold slotPowerOff
  split
  case h_1 => exact hdown
  case h_2 => exact hdown
  case h_5 => exact (HoldsNoMore.refl s).mainOff i .standby
  case h_6 => exact (HoldsNoMore.refl s).moveTo i .standby
  all_goals exact .refl s

theorem slotKill_holdsNoMore (i : Slot) (s : State) : HoldsNoMore s (slotKill i s).state := by
  have hoff : HoldsNoMore s (mainOff i .standby s) := (HoldsNoMore.refl s).mainOff i .standby
  unfold slotKill
  split
  case h_1 => exact hoff
  case h_2 => exact hoff
  case h_3 => exact hoff
  case h_4 => exact hoff
  all_goals exact .refl s

theorem slotAdmit_holdsNoMore (i : Slot) (pair : PowerPair) (s : State) : HoldsNoMore s (slotAdmit i pair s).state := by
  unfold slotAdmit
  split
  next => exact .of_slot (admittedByManager_slot i pair s) le_rfl
  next => exact .refl s

theorem slotRelease_holdsNoMore (i : Slot) (s : State) : HoldsNoMore s (slotRelease i s).state := by
  unfold slotRelease
  split
  next => exact (HoldsNoMore.refl s).moveTo i _
  next => exact .of_slot (releasedToAnnounce_slot i s) le_rfl
  all_goals exact .refl s

/-- A COMMAND gives no slot more power by its own changes (R50). -/
theorem CommandChange.holdsNoMore {s m : State} {items : List Item} (h : CommandChange s items m) :
    HoldsNoMore s m := by
  cases h with
  | setSlot i x _ =>
    rw [setSlot_eq]
    exact .of_slot (fun j => (slotSet_slot i x s j).trans (slotStored_slot i x s j)) le_rfl
  | setSupply x _ => exact .of_slots (setSupply_slots x s)
  | setTiming x _ =>
    unfold Machine.setTiming
    split <;> exact .of_slots rfl
  | setZone x _ => exact .of_slots (setZone_slots x s)
  | setFan f x _ =>
    unfold Machine.setFan answerOk
    dsimp only
    split <;> exact .of_slots rfl
  | setFanDuty f d _ =>
    obtain ⟨fs, h⟩ := retarget_frame f (s.modFan f fun r => { r with manual := d })
    unfold Machine.setFanDuty answerOk
    dsimp only
    rw [h]
    split <;> exact .of_slots rfl
  | setChannel c x _ =>
    unfold Machine.setChannel answerOk
    dsimp only
    split
    next => exact .of_slots rfl
    next => exact .of_slots (rezone_slots _ _)
  | setUplink a _ => exact setUplink_holdsNoMore a s
  | setQueue a _ => exact .of_quiet (quiet_setQueueLimits a s)
  | loadSegment g _ =>
    unfold Machine.loadSegment
    split <;> exact .of_slots rfl
  | deleteSegment id _ =>
    unfold Machine.deleteSegment
    split <;> exact .of_slots rfl
  | loadAdmission k g _ =>
    unfold Machine.loadAdmission
    split
    next => exact .of_slots rfl
    next =>
      dsimp only
      split <;> exact .of_slots rfl
  | deleteAdmission k _ =>
    unfold Machine.deleteAdmission
    split
    next => exact .of_slots rfl
    next => split <;> exact .of_slots rfl
  | slotPowerOn i _ => exact slotPowerOn_holdsNoMore i s
  | slotPowerOff i form _ => exact slotPowerOff_holdsNoMore i form s
  | slotKill i _ => exact slotKill_holdsNoMore i s
  | slotAdmit i pair _ => exact slotAdmit_holdsNoMore i pair s
  | slotRelease i _ => exact slotRelease_holdsNoMore i s
  | inject i o _ => exact .of_quiet (quiet_injectFrame i o s)
  | restart => exact (HoldsNoMore.of_quiet (quiet_restartQueues s)).trans (.of_slots rfl)
  | _ => exact .of_slots rfl

/-- A move after which nothing else happens leaves H as it is or higher: no slot holds more, F and the capacity stay. -/
theorem PlainMove.headroom_inputs {s t : State} (h : PlainMove s t) : HoldsNoMore s t ∧
    t.fanReservation = s.fanReservation ∧ t.supply.capacity = s.supply.capacity := by
  cases h with
  | presenceLine i level _ => exact ⟨.modAdm s i _, rfl, rfl⟩
  | powerGoodLine i level _ => exact ⟨.modRail s i _, rfl, rfl⟩
  | _ => exact ⟨.of_slots rfl, rfl, rfl⟩

/-! ### H at the end of an evaluation (R63, R72) -/

/-- A slot from which shedding takes nothing holds nothing. -/
theorem commitment_eq_zero {r : SlotRecord} (h : SlotConsistent r) (hmain : isMainPowered r = false)
    (hstandby : isStandbyOnly r = false) : commitment r = 0 := by
  obtain ⟨-, ⟨hw, hnone, -⟩, -⟩ := h
  rw [isMainPowered] at hmain
  have hheld : r.adm.state.standbyHeld = false := by simpa [isStandbyOnly, hmain] using hstandby
  have hstandbyW : r.bud.standbyW = 0 := by simpa [hheld] using hw
  rw [commitment, hstandbyW, (hnone hmain).1]

/-- Where no shedding action is left, no slot holds a commitment (R63). -/
theorem commitment_of_shedOne_none {s : State} (hs : PowerInv False s) (h : shedOne s = none) (i : Slot) :
    commitment (s.slot i) = 0 := by
  unfold shedOne at h
  split at h
  next => cases h
  next =>
    split at h
    next => cases h
    next =>
      split at h
      next => cases h
      next hmain =>
        split at h
        next => cases h
        next hstandby =>
          exact commitment_eq_zero (hs.slot i) ((pickWorst_eq_none s _).mp hmain i)
            ((pickWorst_eq_none s _).mp hstandby i)

theorem shed_budgetSafe {s : State} (hs : PowerInv False s) : BudgetSafe (shed shedBound s) :=
  (shed_bound shedBound s (shedMeasure_le s)).1.imp id
    (commitment_of_shedOne_none ((powerInv_kept False).evaluation.shed shedBound hs))

/-- An evaluation leaves the budget safe whatever it found (R50). -/
theorem evaluate_budgetSafe {s : State} (hs : PowerInv False s) : BudgetSafe (evaluate s) := by
  have K := (powerInv_kept False).evaluation
  have hgrants := K.grants (restore 16 (shed shedBound s)).budget.queue.length (K.restore 16 (K.shed shedBound hs))
  unfold evaluate
  dsimp only
  split
  next => exact shed_budgetSafe hgrants
  next h => exact .inl (not_lt.mp h)

/-! ### Every step (O55) -/

/-- The budget stays safe where no slot holds more and F and the capacity stay. -/
theorem BudgetSafe.holdsNoMore {s t : State} (hs : BudgetSafe s) (h : HoldsNoMore s t)
    (hF : t.fanReservation = s.fanReservation) (hC : t.supply.capacity = s.supply.capacity) : BudgetSafe t := by
  refine hs.imp (fun hH => ?_) fun hnone i => Nat.le_zero.mp ((h i).trans_eq (hnone i))
  have hsum : commitments t ≤ commitments s := List.sum_le_sum fun i _ => h i
  rw [headroom] at hH ⊢
  rw [hF, hC]
  omega

theorem BudgetSafe.quiet {s t : State} (h : t.quiet = s.quiet) (hs : BudgetSafe s) : BudgetSafe t :=
  hs.holdsNoMore (.of_quiet h) (congrArg (fun x : State => x.fanReservation) h :)
    (congrArg (fun x : State => x.supply.capacity) h :)

/-- Own changes that raise no commitment are followed by an evaluation, or leave F and the capacity. -/
theorem evaluateIfDue_budgetSafe {s m : State} (cause : Bool) (hs : BudgetSafe s) (h : HoldsNoMore s m)
    (hm : PowerInv False m) : BudgetSafe (evaluateIfDue s m cause) := by
  unfold evaluateIfDue
  split
  next => exact evaluate_budgetSafe hm
  next hdue =>
    simp only [Bool.or_eq_true, decide_eq_true_eq, not_or, not_not] at hdue
    obtain ⟨⟨-, hF⟩, hC⟩ := hdue
    exact hs.holdsNoMore h hF hC

theorem close_budgetSafe {s m : State} {cause : Bool} (hs : BudgetSafe s) (hp : PowerInv False s)
    (h : OwnChange s m cause) : BudgetSafe (close s m cause) :=
  .quiet (quiet_close s m cause)
    (evaluateIfDue_budgetSafe cause hs h.holdsNoMore ((powerInv_kept False).moves hp h.moves))

theorem runCommand_budgetSafe {s : State} (o : Origin) (items : List Item) (hs : BudgetSafe s) (hp : PowerInv False s) :
    BudgetSafe (runCommand o items s) := by
  have hq := quiet_setDestination o.source o.uplink s
  have hchange := runCode_change o.code items (setDestination o.source o.uplink s)
  exact .quiet (quiet_finish o _ _) (evaluateIfDue_budgetSafe _ (hs.quiet hq) hchange.holdsNoMore
    ((powerInv_kept False).moves hp ((SlotMoves.of_quiet hq).trans hchange.moves)))

theorem Ends.budgetSafe {s t : State} (h : Ends s t) (hs : BudgetSafe s) (hp : PowerInv False s) : BudgetSafe t := by
  have hcount (p : Port) : BudgetSafe (countReceived p s) ∧ PowerInv False (countReceived p s) :=
    ⟨hs.quiet (quiet_countReceived p s), hp.same (.of_quiet (quiet_countReceived p s))⟩
  cases h with
  | reset straps =>
    refine .inr fun i => ?_
    rw [afterReset_slot]
    simp [commitment, resetSlot, State.reset, State.slot, SlotRecord.reset]
  | plain t h =>
    obtain ⟨hn, hF, hC⟩ := h.headroom_inputs
    exact hs.holdsNoMore hn hF hC
  | closed m cause h => exact close_budgetSafe hs hp h
  | handled p m cause h => exact close_budgetSafe (hcount p).1 (hcount p).2 h
  | command p o items => exact runCommand_budgetSafe o items (hcount p).1 (hcount p).2

/-- Settles O55: own changes give no slot more power, and an evaluation sheds until H is not below 0 or nothing is left
to take. -/
theorem everyStepKeepsTheBudgetSafe : Obligations.EveryStepKeepsTheBudgetSafe := by
  intro s t hp hs h
  obtain rfl | ⟨rest, hends⟩ := step_cases s t h
  · exact hs
  · exact hends.budgetSafe hs ⟨hp, False.elim⟩

end Sys2Proof.Machine
end

section
/-! SUPPORT. The power timers' expiries, and the acknowledgements of a blade (O14, O27). -/

namespace Sys2Proof.Machine

/-! ### The expiries of the power timers (R67, R80, R86) -/

theorem exec_capAckTimerExpiry {i : Slot} {s : State} (h : (s.slot i).bud.capAck.isRunning = true) :
    exec (.capAckTimerExpiry i) s = .next (close s (capAckExpiry i s).state (capAckExpiry i s).cause) :=
  congrArg Host.Outcome.next (if_pos h)

theorem exec_powerGoodTimerExpiry {i : Slot} {s : State} (h : (s.slot i).rail.powerGoodTimer.isRunning = true) :
    exec (.powerGoodTimerExpiry i) s = .next (close s (powerGoodTimeout i s).state (powerGoodTimeout i s).cause) :=
  congrArg Host.Outcome.next (if_pos h)

theorem exec_shutdownTimerExpiry {i : Slot} {s : State} (h : (s.slot i).rail.shutdown.isRunning = true) :
    exec (.shutdownTimerExpiry i) s = .next (close s (shutdownExpiry i s).state (shutdownExpiry i s).cause) :=
  congrArg Host.Outcome.next (if_pos h)

theorem inStage_iff (r : SlotRecord) (g : Stage) :
    r.inStage g = true ↔ r.adm.state = .powering ∧ r.rail.stage = g := by
  rw [SlotRecord.inStage, Bool.and_eq_true, beq_iff_eq, beq_iff_eq]

/-- Settles O14: in the states that each timer runs in, its expiry is the main-off of its rule. -/
theorem powerTimersMakeTheirMainOff : Obligations.PowerTimersMakeTheirMainOff := by
  refine fun i s => ⟨fun hrun hst => ?_, fun hrun hst hstage => ?_, fun hrun hst => ?_⟩
  · rw [exec_capAckTimerExpiry hrun, capAckExpiry, if_pos hst]
  · rw [exec_powerGoodTimerExpiry hrun, powerGoodTimeout, if_pos ((inStage_iff _ _).mpr ⟨hst, hstage⟩)]
  · rw [exec_shutdownTimerExpiry hrun, shutdownExpiry, if_pos hst]

/-! ### CAP_ACK and SHUTDOWN_ACK (R66, R86) -/

/-- A CAP_ACK that arrives is handed to the Budget Arbiter (R66, R130). -/
theorem exec_capAck_arrives (i : Slot) (e : Envelope) (s : State) (h : ControlArrives s e 0) :
    exec (.capAck i e) s = .next (close (countReceived (.slot i) s)
      (takeCapAck i e.sequence (countReceived (.slot i) s)).state
      (takeCapAck i e.sequence (countReceived (.slot i) s)).cause) :=
  congrArg Host.Outcome.next (receive_control s (.slot i) e kindCapAck [] h)

/-- A SHUTDOWN_ACK that arrives is handed to the Rail Sequencer (R86, R130). -/
theorem exec_shutdownAck_arrives (i : Slot) (e : Envelope) (s : State) (h : ControlArrives s e 0) :
    exec (.shutdownAck i e) s = .next (close (countReceived (.slot i) s)
      (takeShutdownAck i (countReceived (.slot i) s)).state (takeShutdownAck i (countReceived (.slot i) s)).cause) :=
  congrArg Host.Outcome.next (receive_control s (.slot i) e kindShutdownAck [] h)

theorem capAckTaken_iff (b : BudgetPart) (sequence : Word16) : capAckTaken b sequence = true ↔
    b.capped = true ∧ b.capAck.isRunning = true ∧ sequence = b.capSeq := by
  rw [capAckTaken, Bool.and_eq_true, Bool.and_eq_true, decide_eq_true_eq, and_assoc]

/-- Settles O27: a CAP_ACK is taken or ignored by R66, a SHUTDOWN_ACK by the slot's state. -/
theorem acksEndTheirWaits : Obligations.AcksEndTheirWaits := by
  intro i e s r harrives hr
  have hslot : s.slot i = r.slot i := by rw [hr]; rfl
  have hstate : s.slotState i = r.slotState i := by rw [hr]; rfl
  rw [exec_capAck_arrives i e s harrives, exec_shutdownAck_arrives i e s harrives, ← hr, hslot, hstate,
    ← capAckTaken_iff]
  refine ⟨fun hcapped hrun hseq => ?_, fun hnot => ?_, fun hst => ?_, fun hst => ?_⟩
  · rw [takeCapAck, if_pos ((capAckTaken_iff _ _).mpr ⟨hcapped, hrun, hseq⟩)]
  · rw [takeCapAck, if_neg hnot]
  · rw [takeShutdownAck, if_pos hst]
  · rw [takeShutdownAck, if_neg hst]

end Sys2Proof.Machine
end

section
/-! SUPPORT. What the evaluation, the NOTICE, the RESPONSE and the transmissions leave as it is (O48). -/

namespace Sys2Proof.Machine

/-! ### What is kept, through one change after another -/

theorem SlotKeeps.refl (r : SlotRecord) : SlotKeeps r r :=
  ⟨rfl, rfl, rfl, rfl, rfl, rfl, rfl, rfl, rfl, rfl, rfl, rfl, rfl, rfl, rfl⟩

theorem SlotKeeps.trans {r t u : SlotRecord} (h : SlotKeeps r t) (h' : SlotKeeps t u) : SlotKeeps r u where
  presenceLine := h'.presenceLine.trans h.presenceLine
  filtered := h'.filtered.trans h.filtered
  window := h'.window.trans h.window
  policy := h'.policy.trans h.policy
  priority := h'.priority.trans h.priority
  zone := h'.zone.trans h.zone
  segment := h'.segment.trans h.segment
  cls := h'.cls.trans h.cls
  quanta := h'.quanta.trans h.quanta
  inventory := h'.inventory.trans h.inventory
  addresses := h'.addresses.trans h.addresses
  powerGoodLine := h'.powerGoodLine.trans h.powerGoodLine
  powerGood := h'.powerGood.trans h.powerGood
  powerGoodWindow := h'.powerGoodWindow.trans h.powerGoodWindow
  egressLimit := h'.egressLimit.trans h.egressLimit

theorem UplinkKeeps.refl (r : UplinkRecord) : UplinkKeeps r r :=
  ⟨rfl, rfl, rfl, rfl, fun _ => rfl, fun _ => rfl, fun _ => rfl⟩

theorem UplinkKeeps.trans {r t u : UplinkRecord} (h : UplinkKeeps r t) (h' : UplinkKeeps t u) : UplinkKeeps r u where
  management := h'.management.trans h.management
  segment := h'.segment.trans h.segment
  linkUp := h'.linkUp.trans h.linkUp
  hold := h'.hold.trans h.hold
  limit c := (h'.limit c).trans (h.limit c)
  marks c := (h'.marks c).trans (h.marks c)
  staged c := (h'.staged c).trans (h.staged c)

theorem EventKeeps.refl (s : State) : EventKeeps s s where
  slots _ := .refl _
  timing := rfl
  admissionTable := rfl
  admissionDefault := rfl
  bays := rfl
  supply := rfl
  laneCount := rfl
  allowance := rfl
  margin := rfl
  sweep := rfl
  channels := rfl
  zones _ := rfl
  hysteresis := rfl
  fans _ := rfl
  tachGate := rfl
  fwd := rfl
  uplinks _ := .refl _
  counters := rfl
  trapQueue := rfl
  destination := rfl
  pending := rfl

theorem EventKeeps.trans {s t u : State} (h : EventKeeps s t) (h' : EventKeeps t u) : EventKeeps s u where
  slots i := (h.slots i).trans (h'.slots i)
  timing := h'.timing.trans h.timing
  admissionTable := h'.admissionTable.trans h.admissionTable
  admissionDefault := h'.admissionDefault.trans h.admissionDefault
  bays := h'.bays.trans h.bays
  supply := h'.supply.trans h.supply
  laneCount := h'.laneCount.trans h.laneCount
  allowance := h'.allowance.trans h.allowance
  margin := h'.margin.trans h.margin
  sweep := h'.sweep.trans h.sweep
  channels := h'.channels.trans h.channels
  zones z := (h'.zones z).trans (h.zones z)
  hysteresis := h'.hysteresis.trans h.hysteresis
  fans f := (h'.fans f).trans (h.fans f)
  tachGate := h'.tachGate.trans h.tachGate
  fwd := h'.fwd.trans h.fwd
  uplinks v := (h.uplinks v).trans (h'.uplinks v)
  counters := h'.counters.trans h.counters
  trapQueue := h'.trapQueue.trans h.trapQueue
  destination := h'.destination.trans h.destination
  pending := h'.pending.trans h.pending

/-- What the queue operations keep of the slots and the uplinks. -/
structure QueuesKeep (s t : State) : Prop where
  slots : ∀ i, SlotKeeps (s.slot i) (t.slot i)
  uplinks : ∀ u, UplinkKeeps (s.uplink u) (t.uplink u)

theorem QueuesKeep.refl (s : State) : QueuesKeep s s := ⟨fun _ => .refl _, fun _ => .refl _⟩

theorem QueuesKeep.trans {s t u : State} (h : QueuesKeep s t) (h' : QueuesKeep t u) : QueuesKeep s u :=
  ⟨fun i => (h.slots i).trans (h'.slots i), fun v => (h.uplinks v).trans (h'.uplinks v)⟩

theorem QueuesKeep.foldl {α : Type} (step : State → α → State) (h : ∀ t a, QueuesKeep t (step t a)) (l : List α)
    (s : State) : QueuesKeep s (l.foldl step s) := by
  induction l generalizing s with
  | nil => exact .refl s
  | cons a l ih => exact (h s a).trans (ih _)

/-- A state that differs in what the end of an event may change, with slots, uplinks, zones and fans that keep their
part. -/
theorem EventKeeps.of_frame {s t : State}
    (h : t = { s with
      slots := t.slots, stations := t.stations, zones := t.zones, fans := t.fans, fanReservation := t.fanReservation
      thermal := { s.thermal with overrideOn := t.thermal.overrideOn }
      budget := { s.budget with queue := t.budget.queue, lanesInUse := t.budget.lanesInUse }
      uplinkA := t.uplinkA, uplinkB := t.uplinkB, freeCells := t.freeCells
      mgmt := { s.mgmt with alerts := t.mgmt.alerts, notice := t.mgmt.notice } })
    (hq : QueuesKeep s t) (hz : ∀ z : Zone, zoneSettings t.zones[z] = zoneSettings s.zones[z])
    (hf : ∀ f : Fan, fanFixed t.fans[f] = fanFixed s.fans[f]) : EventKeeps s t where
  slots := hq.slots
  timing := by rw [h]
  admissionTable := by rw [h]
  admissionDefault := by rw [h]
  bays := by rw [h]
  supply := by rw [h]
  laneCount := by rw [h]
  allowance := by rw [h]
  margin := by rw [h]
  sweep := by rw [h]
  channels := by rw [h]
  zones := hz
  hysteresis := by rw [h]
  fans := hf
  tachGate := by rw [h]
  fwd := by rw [h]
  uplinks := hq.uplinks
  counters := by rw [h]
  trapQueue := by rw [h]
  destination := by rw [h]
  pending := by rw [h]

/-- A change of slots, station table, queue, lanes, cells and alerts alone. -/
theorem EventKeeps.of_slots {s t : State}
    (h : t = { s with
      slots := t.slots, stations := t.stations, freeCells := t.freeCells
      budget := { s.budget with queue := t.budget.queue, lanesInUse := t.budget.lanesInUse }
      mgmt := { s.mgmt with alerts := t.mgmt.alerts } })
    (hslots : ∀ i, SlotKeeps (s.slot i) (t.slot i)) : EventKeeps s t := by
  refine .of_frame ?_ ⟨hslots, fun u => ?_⟩ (fun z => ?_) fun f => ?_
  · rw [h]
  · rw [h]
    exact .refl _
  · rw [h]
  · rw [h]

/-- A change of uplinks, slots, cells and notice number alone. -/
theorem EventKeeps.of_queues {s t : State}
    (h : t = { s with
      slots := t.slots, uplinkA := t.uplinkA, uplinkB := t.uplinkB, freeCells := t.freeCells
      mgmt := { s.mgmt with notice := t.mgmt.notice } })
    (hq : QueuesKeep s t) : EventKeeps s t := by
  refine .of_frame ?_ hq (fun z => ?_) fun f => ?_
  · rw [h]
  · rw [h]
  · rw [h]

/-! ### Zones and fans (R104, R112, R115) -/

theorem settle_fixed (b : Bool) (r : FanRecord) : fanFixed (settle b r) = fanFixed r := by
  unfold settle
  split_ifs <;> rfl

theorem resettled_fixed (b : Bool) (r : FanRecord) : fanFixed (repower b (settle b r)) = fanFixed r := settle_fixed b r

theorem retargeted_fixed (before after : State) (r : FanRecord) : fanFixed (retargeted before after r) = fanFixed r := by
  unfold retargeted
  split
  next =>
    split
    next => rfl
    next => exact resettled_fixed _ _
  next => rfl

theorem propagate_fans_fixed (before after : State) (f : Fan) :
    fanFixed (propagate before after).fans[f] = fanFixed after.fans[f] := by
  rw [propagate_eq]
  split
  next => rfl
  next =>
    show fanFixed (overrideStep before after).fans[f] = _
    rw [overrideStep_fans]
    split
    next => exact retargeted_fixed _ _ _
    next => rw [resettled_fixed, retargeted_fixed]

/-- A recomputation of zones keeps the settings of zones and fans. -/
theorem rezone_keeps (zs : List Zone) (s : State) : EventKeeps s (rezone zs s) := by
  obtain ⟨zones, fs, b, F, al, hframe⟩ := rezone_frame zs s
  refine .of_frame (by rw [hframe]) ⟨fun i => ?_, fun u => ?_⟩ (fun z => ?_) fun f => ?_
  · rw [hframe]
    exact .refl _
  · rw [hframe]
    exact .refl _
  · obtain ⟨fs, b, F, al, hp⟩ := propagate_frame s (retemp zs s)
    have hz : (rezone zs s).zones[z] = (retemp zs s).zones[z] := by rw [rezone, hp]
    rw [hz, retemp_zones]
    split <;> rfl
  · obtain ⟨zones, hr⟩ := retemp_frame zs s
    rw [rezone, propagate_fans_fixed, hr]

/-! ### The actions of an evaluation (R53 to R65) -/

/-- The records that the actions of an evaluation give a slot. -/
theorem SlotKeeps.acted {r : SlotRecord} {st : SlotState} {window : Timer} {l : List AddressEntry} {b : BudgetPart}
    {p : RailPart} {t : TelemetryPart} {q : QueuePart} (hl : l.map (·.address) = r.inv.addresses.map (·.address))
    (hline : p.powerGoodLine = r.rail.powerGoodLine) (hgood : p.powerGood = r.rail.powerGood)
    (hwindow : p.powerGoodWindow = r.rail.powerGoodWindow) (hq : q.egressLimit = r.que.egressLimit) :
    SlotKeeps r
      { adm := { r.adm with state := st, announceWindow := window }, inv := { r.inv with addresses := l }
        bud := b, rail := p, tel := t, que := q } :=
  ⟨rfl, rfl, rfl, rfl, rfl, rfl, rfl, rfl, rfl, rfl, hl, hline, hgood, hwindow, hq⟩

/-- A change of one slot's record that keeps its part. -/
theorem slotKeeps_of_slot {s t : State} {i : Slot} {r : SlotRecord} (h : ∀ j, t.slot j = if j = i then r else s.slot j)
    (hr : SlotKeeps (s.slot i) r) (j : Slot) : SlotKeeps (s.slot j) (t.slot j) := by
  rw [h]
  split
  next hj => rw [hj]; exact hr
  next => exact .refl _

theorem offerControlPart_egressLimit (f : ControlFrame) (q : QueuePart) :
    (offerControlPart f q).egressLimit = q.egressLimit := by
  unfold offerControlPart
  split
  next => rfl
  next => rfl
  next => split <;> rfl
  next =>
    split
    next => rfl
    next =>
      split
      next => split <;> rfl
      next => rfl

theorem releasedAddresses_kept (l : List AddressEntry) :
    (l.map releaseAddress).map (·.address) = l.map (·.address) := by
  rw [List.map_map]
  exact List.map_congr_left fun a _ => by rw [Function.comp, releaseAddress_eq]

theorem raiseChassis_keeps (k : AlertKind) (s : State) : EventKeeps s (raiseChassis k s) := by
  rw [raiseChassis, raise_eq]
  exact .of_slots rfl fun _ => .refl _

theorem capSlot_keeps (i : Slot) (s : State) : EventKeeps s (capSlot i s) :=
  .of_slots (by rw [capSlot_eq]) (slotKeeps_of_slot (capSlot_slot i · s)
    (.acted rfl rfl rfl rfl (offerControlPart_egressLimit _ _)))

theorem uncapSlot_keeps (i : Slot) (s : State) : EventKeeps s (uncapSlot i s) :=
  .of_slots (by rw [uncapSlot_eq]) (slotKeeps_of_slot (uncapSlot_slot i · s)
    (.acted rfl rfl rfl rfl (offerControlPart_egressLimit _ _)))

theorem standbyCut_keeps (i : Slot) (s : State) : EventKeeps s (standbyCut i s) :=
  .of_slots (by rw [standbyCut_eq]) (slotKeeps_of_slot (standbyCut_slot i · s)
    (.acted (releasedAddresses_kept _) rfl rfl rfl rfl))

theorem offState_slot (i j : Slot) (st : SlotState) (s : State) : (offState i st s).slot j =
    if j = i then offRecord st (s.slot i) else s.slot j := by
  rw [← mainOff_slot i st s j, mainOff_eq, rezoneSlot_slot]

theorem mainOff_keeps (i : Slot) (st : SlotState) (s : State) : EventKeeps s (mainOff i st s) := by
  have hoff : EventKeeps s (offState i st s) :=
    .of_slots (by rw [offState_eq, offState_budget]) (slotKeeps_of_slot (offState_slot i · st s)
      (.acted rfl rfl rfl rfl rfl))
  exact hoff.trans (rezone_keeps _ _)

theorem grantStandby_keeps (i : Slot) (s : State) : EventKeeps s (grantStandby i s) :=
  .of_slots rfl (slotKeeps_of_slot (grantStandby_slot i · s) (.acted rfl rfl rfl rfl rfl))

theorem grantedState_slot (i j : Slot) (s : State) : (grantedState i s).slot j = (grantMain i s).slot j := by
  rw [grantMain_eq, rezoneSlot_slot]

theorem grantMain_keeps (i : Slot) (s : State) : EventKeeps s (grantMain i s) := by
  obtain ⟨-, -, -, -, -, hwindow, hline, hgood⟩ :=
    startSequence_keeps s.timing.powerGoodTimeout s.timing.resetHold (s.slot i).rail
  have hgranted : EventKeeps s (grantedState i s) := by
    refine .of_slots rfl fun j => ?_
    rw [grantedState_slot]
    exact slotKeeps_of_slot (grantMain_slot i · s) (.acted rfl hline hgood hwindow rfl) j
  exact hgranted.trans (rezone_keeps _ _)

theorem markShort_keeps (s : State) : EventKeeps s (markShort s) := by
  unfold markShort
  split
  next => exact .refl s
  next e rest _ =>
    split
    next =>
      have hmarked : EventKeeps s (setQueue ({ e with short := true } :: rest) s) := .of_slots rfl fun _ => .refl _
      exact hmarked.trans (raiseChassis_keeps _ _)
    next => exact .refl s

/-- Every action of an evaluation keeps what the end of an event keeps. -/
theorem eventKeeps_evaluation (m : State) : KeptByEvaluation (EventKeeps m) where
  cap i s h _ := h.trans (capSlot_keeps i s)
  powerOff i s h _ := (h.trans (mainOff_keeps i .powerWait s)).trans (raiseChassis_keeps _ _)
  standbyCut i s h _ := h.trans (standbyCut_keeps i s)
  uncap i s h _ := h.trans (uncapSlot_keeps i s)
  grantStandby e _ s h _ _ _ := h.trans (grantStandby_keeps e.slot s)
  grantMain e _ s h _ _ _ := h.trans (grantMain_keeps e.slot s)
  short s h := h.trans (markShort_keeps s)

/-! ### Offers and transmissions (R149 to R153) -/

theorem QueuesKeep.modQue (s : State) (i : Slot) (f : QueuePart → QueuePart)
    (hf : ∀ q, (f q).egressLimit = q.egressLimit) : QueuesKeep s (s.modQue i f) where
  slots := slotKeeps_of_slot (State.slot_modSlot s i · _) (.acted rfl rfl rfl rfl (hf _))
  uplinks u := by
    rw [State.modQue_eq, State.modSlot_uplink]
    exact .refl _

theorem QueuesKeep.modUplink (s : State) (u : Uplink) (f : UplinkRecord → UplinkRecord)
    (hf : ∀ r, UplinkKeeps r (f r)) : QueuesKeep s (s.modUplink u f) where
  slots i := by
    obtain ⟨a, b, h⟩ := modUplink_frame u f s
    rw [h]
    exact .refl _
  uplinks v := by
    rw [State.uplink_modUplink]
    split
    next hv => rw [hv]; exact hf _
    next => exact .refl _

/-- A change of a class queue that leaves its limit and its watermarks. -/
theorem QueuesKeep.modClass (s : State) (u : Uplink) (c : Cls) (f : ClassQueue → ClassQueue)
    (hf : ∀ q, (f q).limit = q.limit ∧ (f q).marks = q.marks ∧ (f q).staged = q.staged) :
    QueuesKeep s (s.modClass u c f) := by
  refine .modUplink s u _ fun r => ?_
  obtain ⟨hlimit, hmarks, hstaged⟩ := hf r.queues[c]
  have hget (d : Cls) : (r.queues.set c (f r.queues[c]))[d] = if d = c then f r.queues[c] else r.queues[d] := by
    simp only [Fin.getElem_fin, Vector.getElem_set, Fin.ext_iff, eq_comm]
  refine ⟨rfl, rfl, rfl, rfl, fun d => ?_, fun d => ?_, fun d => ?_⟩
  all_goals
    dsimp only
    rw [hget]
    split
    next hd => subst hd; assumption
    next => rfl

theorem pauseSlot_queuesKeep (i : Slot) (s : State) : QueuesKeep s (pauseSlot i s) := by
  unfold pauseSlot
  split
  next => exact .refl s
  next => exact .modQue s i _ fun _ => rfl

theorem upwardTest_queuesKeep (u : Uplink) (c : Cls) (source : Option Slot) (s : State) :
    QueuesKeep s (upwardTest u c source s) := by
  unfold upwardTest
  dsimp only
  split
  next =>
    split
    next => exact .refl s
    next i =>
      refine .trans (.modClass s u c _ ?_) (pauseSlot_queuesKeep i _)
      exact fun _ => ⟨rfl, rfl, rfl⟩
  next =>
    split
    next =>
      refine .trans (.modClass s u c _ ?_) (.foldl _ (fun t i => ?_) allSlots _)
      · exact fun _ => ⟨rfl, rfl, rfl⟩
      · split
        next => exact pauseSlot_queuesKeep i t
        next => exact .refl t
    next => exact .refl s

theorem offerClass_queuesKeep {u : Uplink} {c : Cls} {e : QueueEntry} {s t : State} (h : offerClass u c e s = some t) :
    QueuesKeep s t := by
  obtain ⟨-, h1⟩ | ⟨-, h1⟩ := offerClass_cases u c e s
  · rw [h1] at h
    cases h
  · rw [h1] at h
    cases h
    have hcells : QueuesKeep s { s with freeCells := s.freeCells - e.frame.cells } :=
      ⟨fun _ => .refl _, fun u => by cases u <;> exact .refl _⟩
    refine .trans (hcells.trans (.modClass _ u c _ ?_)) (upwardTest_queuesKeep u c e.source _)
    exact fun _ => ⟨rfl, rfl, rfl⟩

theorem beginUplink_queuesKeep (u : Uplink) (s : State) : QueuesKeep s (beginUplink u s) := by
  unfold beginUplink
  dsimp only
  split
  next =>
    split
    next => exact .refl s
    next c _ =>
      split
      next => exact .refl s
      next =>
        refine .trans (.modClass s u c _ ?_) (.modUplink _ u _ ?_)
        · exact fun _ => ⟨rfl, rfl, rfl⟩
        · exact fun _ => ⟨rfl, rfl, rfl, rfl, fun _ => rfl, fun _ => rfl, fun _ => rfl⟩
  next => exact .refl s

theorem beginSlotPart_egressLimit (pause : Nat → Octets) (q : QueuePart) :
    (beginSlotPart pause q).egressLimit = q.egressLimit := by
  unfold beginSlotPart
  split
  next => rfl
  next =>
    split
    next => rfl
    next =>
      split
      next => rfl
      next => split <;> rfl

theorem beginAll_queuesKeep (s : State) : QueuesKeep s (beginAll s) :=
  ((beginUplink_queuesKeep .A s).trans (beginUplink_queuesKeep .B _)).trans
    (.foldl _ (fun t i => .modQue t i _ (beginSlotPart_egressLimit _)) allSlots _)

theorem sendNotice_queuesKeep (before after : State) : QueuesKeep after (sendNotice before after) := by
  unfold sendNotice
  split
  next =>
    split
    next => exact .refl after
    next =>
      split
      next => exact .refl after
      next t h =>
        have hkeep := offerClass_queuesKeep h
        exact ⟨hkeep.slots, fun u => by cases u <;> [exact hkeep.uplinks .A; exact hkeep.uplinks .B]⟩
  next => exact .refl after

theorem offerResponse_queuesKeep (o : Origin) (status : Status) (items : Octets) (s : State) :
    QueuesKeep s (offerResponse o status items s) := by
  unfold offerResponse
  split
  next h => exact offerClass_queuesKeep h
  next => exact ⟨fun _ => .refl _, fun u => by cases u <;> exact .refl _⟩

theorem respond_queuesKeep (o : Origin) (status : Status) (results : List (List Octets)) (s : State) :
    QueuesKeep s (respond o status results s) :=
  .foldl _ (fun t body => offerResponse_queuesKeep o status body t) _ s

/-! ### The end of an event -/

theorem sendNotice_keeps (before after : State) : EventKeeps after (sendNotice before after) := by
  obtain ⟨ss, a, b, n, k, h⟩ := sendNotice_frame before after
  exact .of_queues (by rw [h]) (sendNotice_queuesKeep before after)

theorem beginAll_keeps (s : State) : EventKeeps s (beginAll s) := by
  obtain ⟨ss, a, b, h⟩ := beginAll_frame s
  exact .of_queues (by rw [h]) (beginAll_queuesKeep s)

/-- The RESPONSE and the transmissions keep all but the counters. -/
theorem responded_keeps (o : Origin) (status : Status) (results : List (List Octets)) (s : State) :
    EventKeeps s { beginAll (respond o status results s) with counters := s.counters } := by
  obtain ⟨ss, a, b, n, k, h⟩ := respond_frame o status results s
  obtain ⟨ss', a', b', h'⟩ := beginAll_frame (respond o status results s)
  have hkeep := (respond_queuesKeep o status results s).trans (beginAll_queuesKeep _)
  generalize respond o status results s = r at h h' hkeep ⊢
  generalize beginAll r = t at h' hkeep ⊢
  refine .of_queues (by rw [h', h]) ⟨hkeep.slots, fun u => ?_⟩
  cases u
  · exact hkeep.uplinks .A
  · exact hkeep.uplinks .B

/-- The evaluation and the NOTICE keep what an event keeps. -/
theorem noticed_keeps (before m : State) (cause : Bool) :
    EventKeeps m (sendNotice before (evaluateIfDue before m cause)) :=
  ((eventKeeps_evaluation m).evaluateIfDue before cause (.refl m)).trans (sendNotice_keeps _ _)

theorem close_keeps (s m : State) (cause : Bool) : EventKeeps m (close s m cause) :=
  (noticed_keeps s m cause).trans (beginAll_keeps _)

theorem commandDone_keeps (s : State) (u : Uplink) (e : Envelope) (code : Word16) (a : Answer) :
    EventKeeps a.state { commandDone s u e code a with counters := a.state.counters } := by
  have hnoticed := noticed_keeps (commandState s u e) a.state a.cause
  have hresponded := responded_keeps { uplink := u, source := e.source, sequence := e.sequence, code := code } a.status
    a.results (sendNotice (commandState s u e) (evaluateIfDue (commandState s u e) a.state a.cause))
  rw [hnoticed.counters] at hresponded
  rw [commandDone, finish]
  exact hnoticed.trans hresponded

/-! ### Where an evaluation is due (R50) -/

theorem evaluateIfDue_due {s m : State} {cause : Bool}
    (h : cause = true ∨ m.fanReservation ≠ s.fanReservation ∨ m.supply.capacity ≠ s.supply.capacity) :
    evaluateIfDue s m cause = evaluate m := by
  rw [evaluateIfDue, if_pos]
  simpa [or_assoc] using h

theorem evaluateIfDue_not_due {s m : State} (hF : m.fanReservation = s.fanReservation)
    (hC : m.supply.capacity = s.supply.capacity) : evaluateIfDue s m false = m := by
  rw [evaluateIfDue, if_neg]
  simp [hF, hC]

/-! ### The bodies of a RESPONSE (R165, R182) -/

/-- Items that fit beside a body go into it. -/
theorem packItems_of_fit (body : Octets) (items : List Octets) (h : body.length + items.flatten.length ≤ responseRoom) :
    packItems body items = [body ++ items.flatten] := by
  induction items generalizing body with
  | nil => simp [packItems]
  | cons x items ih =>
    rw [List.flatten_cons, List.length_append] at h
    rw [packItems, if_pos (by omega), ih _ (by rw [List.length_append]; omega), List.flatten_cons, List.append_assoc]

/-- The bodies are the items in their order, cut between items; the first body takes on from the one begun. -/
theorem packItems_groups (body : Octets) (items : List Octets) : ∃ (first : List Octets) (groups : List (List Octets)),
    first ++ groups.flatten = items ∧ packItems body items = (body ++ first.flatten) :: groups.map List.flatten := by
  induction items generalizing body with
  | nil => exact ⟨[], [], rfl, by simp [packItems]⟩
  | cons x items ih =>
    rw [packItems]
    split
    next =>
      obtain ⟨first, groups, hitems, hpack⟩ := ih (body ++ x)
      exact ⟨x :: first, groups, by rw [List.cons_append, hitems], by rw [hpack, List.flatten_cons, List.append_assoc]⟩
    next =>
      obtain ⟨first, groups, hitems, hpack⟩ := ih x
      refine ⟨[], (x :: first) :: groups, ?_, ?_⟩
      · rw [List.nil_append, List.flatten_cons, List.cons_append, hitems]
      · rw [hpack, List.map_cons, List.flatten_cons, List.flatten_nil, List.append_nil]

/-- No body exceeds the room where no item does. -/
theorem packItems_length_le (body : Octets) (items : List Octets) (hbody : body.length ≤ responseRoom)
    (hitems : ∀ v ∈ items, v.length ≤ responseRoom) : ∀ b ∈ packItems body items, b.length ≤ responseRoom := by
  induction items generalizing body with
  | nil => simpa [packItems] using hbody
  | cons x items ih =>
    obtain ⟨hx, hitems⟩ := List.forall_mem_cons.mp hitems
    rw [packItems]
    split
    next hfit => exact ih _ (by rw [List.length_append]; exact hfit) hitems
    next => exact List.forall_mem_cons.mpr ⟨hbody, ih x hx hitems⟩

/-- Settles O48: each part of an event's end keeps the settings; what it is made of, and how a RESPONSE is packed. -/
theorem theEndOfAnEventKeepsTheSettings : Obligations.TheEndOfAnEventKeepsTheSettings := by
  refine ⟨fun s m cause => ⟨close_keeps s m cause, rfl⟩, fun s u e code a => ⟨commandDone_keeps s u e code a, rfl⟩,
    fun s m cause => ⟨evaluateIfDue_due, ?_⟩, fun s a b ha hb => ?_, fun o status results s => rfl,
    fun o status items s q code hcode hq => ?_, fun n values rest => ⟨rfl, rfl⟩, fun items => ?_⟩
  · rintro rfl
    exact evaluateIfDue_not_due
  · have heval : evaluate s = if headroom b < 0 then shed 48 b else b := by rw [hb, ha]; rfl
    exact ⟨fun h => heval.trans (if_neg h.not_gt), fun h => heval.trans (if_pos h)⟩
  · have hstatus : code = status.code := by rw [hcode]; cases status <;> rfl
    have hframe : q = { frame := responseFrame s o status items, source := none } := by rw [hq, hstatus]; rfl
    rw [hframe]
    exact ⟨fun t h => by rw [offerResponse, h], fun h => by rw [offerResponse, h]⟩
  · obtain ⟨first, groups, hitems, hpack⟩ := packItems_groups [] items
    refine ⟨fun h => packItems_of_fit [] items (by simpa using h), ?_, ⟨first :: groups, hitems, hpack⟩,
      packItems_length_le [] items (Nat.zero_le _)⟩
    rw [hpack, ← hitems, List.flatten_append, List.flatten_flatten]
    rfl

end Sys2Proof.Machine
end

section
/-! SUPPORT. The rails by the slot's state: the filtered power-good changes, the reset hold's end, and the commands that
power a slot on and off (O11, O15, O43). -/

namespace Sys2Proof.Machine

/-! ### The power-good line (R77, R78, R81) -/

theorem exec_powerGoodFilterExpiry {i : Slot} {s : State} (h : (s.slot i).rail.powerGoodWindow.isRunning = true) :
    exec (.powerGoodFilterExpiry i) s = .next (close s (powerGoodExpiry i s).state (powerGoodExpiry i s).cause) :=
  congrArg Host.Outcome.next (if_pos h)

theorem losesPower_iff (r : SlotRecord) : losesPower r = true ↔
    (r.adm.state = .powering ∧ r.rail.stage = .resetHold) ∨ r.adm.state ∈ [.online, .capped, .shuttingDown] := by
  simp only [losesPower, Bool.or_eq_true, inStage_iff, beq_iff_eq, or_assoc, List.mem_cons, List.not_mem_nil, or_false]

/-- An update of a slot record depends on what it makes of that record alone. -/
theorem State.modSlot_congr {s : State} {i : Slot} {f g : SlotRecord → SlotRecord} (h : f (s.slot i) = g (s.slot i)) :
    s.modSlot i f = s.modSlot i g :=
  congrArg (fun r => { s with slots := s.slots.set i r }) h

/-- Two updates of one slot record are one update. -/
theorem State.modSlot_modSlot (s : State) (i : Slot) (f g : SlotRecord → SlotRecord) :
    (s.modSlot i f).modSlot i g = s.modSlot i fun r => g (f r) := by
  simp [State.modSlot]

/-- The state with a filtered power-good level stored and its window ended (R77). -/
def powerGoodStored (i : Slot) (level : Bool) (s : State) : State :=
  s.modRail i fun r => { r with powerGood := level, powerGoodWindow := .stopped }

theorem powerGoodStored_line {i : Slot} {s : State} {level : Bool} (h : (s.slot i).rail.powerGoodLine = level) :
    (s.modRail i fun r => { r with powerGood := r.powerGoodLine, powerGoodWindow := .stopped }) =
      powerGoodStored i level s := by
  subst h
  exact State.modSlot_congr rfl

/-- A filtered rise leaves RAIL_UP, and is only stored elsewhere (R77, R78). -/
theorem powerGoodExpiry_rise {i : Slot} {s : State} (hline : (s.slot i).rail.powerGoodLine = true)
    (hmove : (s.slot i).rail.powerGoodLine ≠ (s.slot i).rail.powerGood) : powerGoodExpiry i s =
      { state := if (s.slot i).inStage .railUp then
          (powerGoodStored i true s).modRail i (leaveRailUp s.timing.resetHold) else powerGoodStored i true s
        cause := false } := by
  rw [powerGoodExpiry, powerGoodStored_line hline]
  rw [if_neg hmove, if_pos hline]

/-- A filtered fall is a main-off to FAULT under main power, and is only stored elsewhere (R77, R81). -/
theorem powerGoodExpiry_fall {i : Slot} {s : State} (hline : (s.slot i).rail.powerGoodLine = false)
    (hmove : (s.slot i).rail.powerGoodLine ≠ (s.slot i).rail.powerGood) : powerGoodExpiry i s =
      if losesPower (s.slot i) then
        { state := raiseSlot .fault i (mainOff i .fault (powerGoodStored i false s)), cause := true }
      else { state := powerGoodStored i false s, cause := false } := by
  rw [powerGoodExpiry, powerGoodStored_line hline]
  rw [if_neg hmove, if_neg (Bool.eq_false_iff.mp hline)]

/-- Settles O11: a rise by the stage, a fall by whether the slot loses main power. -/
theorem powerGoodExpiryBySlotState : Obligations.PowerGoodExpiryBySlotState := by
  refine ⟨losesPower_iff, fun i s hrun hmove => ⟨fun hline hst hstage => ?_, fun hline hnot => ?_,
    fun hline hloss => ?_, fun hline hloss => ?_⟩⟩
  · rw [exec_powerGoodFilterExpiry hrun, powerGoodExpiry_rise hline hmove,
      if_pos ((inStage_iff _ _).mpr ⟨hst, hstage⟩), powerGoodStored, State.modRail_eq, State.modRail_eq,
      State.modSlot_modSlot]
    rfl
  · rw [exec_powerGoodFilterExpiry hrun, powerGoodExpiry_rise hline hmove, if_neg (mt (inStage_iff _ _).mp hnot)]
    rfl
  · rw [exec_powerGoodFilterExpiry hrun, powerGoodExpiry_fall hline hmove, if_pos hloss]
    rfl
  · rw [exec_powerGoodFilterExpiry hrun, powerGoodExpiry_fall hline hmove, if_neg (Bool.eq_false_iff.mp hloss)]
    rfl

/-! ### The end of the reset hold (R79) -/

theorem exec_resetHoldExpiry {i : Slot} {s : State} (h : (s.slot i).rail.resetHold.isRunning = true) :
    exec (.resetHoldExpiry i) s = .next (close s (resetHoldEnd i s).state (resetHoldEnd i s).cause) :=
  congrArg Host.Outcome.next (if_pos h)

/-- The state of a slot that goes ONLINE: its lane freed, its reset released (R79). -/
def wentOnline (i : Slot) (s : State) : State :=
  (moveTo i .online (freeLane i s)).modRail i fun r =>
    { r with resetAsserted := false, stage := .none, resetHold := .stopped }

theorem resetHoldEnd_online {i : Slot} {s : State} (h : (s.slot i).inStage .resetHold = true) :
    resetHoldEnd i s = { state := wentOnline i s, cause := true } :=
  if_pos h

theorem wentOnline_slot (i j : Slot) (s : State) : (wentOnline i s).slot j =
    if j = i then
      { s.slot i with
        adm := { (s.slot i).adm with state := .online }
        rail := { (s.slot i).rail with resetAsserted := false, stage := .none, resetHold := .stopped } }
    else s.slot j :=
  online_slot i j s

/-- Outside the slot's record, going ONLINE from POWERING touches the queue and the lanes in use (R14, R57). -/
theorem wentOnline_frame {i : Slot} {s : State} (h : s.slotState i = .powering) : wentOnline i s =
    { s with
      slots := (wentOnline i s).slots
      budget := { s.budget with
        queue := s.budget.queue.filter fun e => decide (e.slot ≠ i), lanesInUse := s.budget.lanesInUse - 1 } } := by
  rw [wentOnline, moveTo_eq, freeLane_eq, if_pos h]
  rfl

/-- An ONLINE slot is a cap candidate by its floor alone (R58). -/
theorem capCandidate_online {r : SlotRecord} (h : r.adm.state = .online) :
    capCandidate r = true ↔ effectiveFloor r < r.bud.mainW := by
  simp [capCandidate, h]

/-- Settles O15: in RESET_HOLD the expiry takes the slot ONLINE. -/
theorem resetHoldExpiryGoesOnline : Obligations.ResetHoldExpiryGoesOnline := by
  intro i s hrun hst hstage
  have hslot := wentOnline_slot i i s
  rw [if_pos rfl] at hslot
  have hon : ((wentOnline i s).slot i).adm.state = .online := by rw [hslot]
  refine ⟨wentOnline i s, ?_, hslot, fun j hj => ?_, ?_, ?_, ?_, wentOnline_frame hst⟩
  · rw [exec_resetHoldExpiry hrun, resetHoldEnd_online ((inStage_iff _ _).mpr ⟨hst, hstage⟩)]
  · rw [wentOnline_slot, if_neg hj]
  · rw [hslot]
    rfl
  · rw [capCandidate_online hon, hslot]
    rfl
  · exact (losesPower_iff _).mpr (.inr (by rw [hon]; exact List.mem_cons_self))

/-! ### The fields of SLOT_POWER_OFF (R181) -/

theorem powerOffArgs_eq_some (items : List Item) (i : Slot) (form : ShutdownForm) :
    powerOffArgs items = some (i, form) ↔
      itemsFit [req 1 1, opt 2 1] items = true ∧ fieldNat 1 items = some (i.val + 1) ∧
      ((fieldNat 2 items = none ∧ form = .off) ∨ fieldNat 2 items = some form.code) := by
  have hform (x : Option ShutdownForm) : fieldEnum 2 formCode items = some x ↔
      x.map ShutdownForm.code = fieldNat 2 items := fieldEnum_eq_some formCode_eq_some 2 items x
  rw [powerOffArgs, Option.ite_none_right_eq_some]
  simp only [Option.bind_eq_bind, Option.bind_eq_some_iff, Option.some_inj, Prod.mk.injEq, fieldSlot_eq_some, hform]
  refine and_congr_right fun _ => ⟨?_, ?_⟩
  · rintro ⟨_, hi, carried, hcode, rfl, rfl⟩
    cases carried with
    | none => exact ⟨hi, .inl ⟨hcode.symm, rfl⟩⟩
    | some form => exact ⟨hi, .inr hcode.symm⟩
  · rintro ⟨hi, ⟨hcode, rfl⟩ | hcode⟩
    · exact ⟨i, hi, none, hcode.symm, rfl, rfl⟩
    · exact ⟨i, hi, some form, hcode.symm, rfl, rfl⟩

/-! ### The commands by the slot's state (R88, R89, R90) -/

theorem exec_slotPowerOn {s : State} {u : Uplink} {e : Envelope} {items : List Item} {i : Slot}
    (harrives : CommandArrives s u e items) (hargs : slotField items = some i) :
    exec (.slotPowerOn u e items) s =
      .next (commandDone s u e 0x30#16 (slotPowerOn i (commandState s u e))) := by
  rw [exec_slotPowerOn_arrives s u e items harrives, cmdSlotPowerOn, withArgs_some hargs]

theorem exec_slotPowerOff {s : State} {u : Uplink} {e : Envelope} {items : List Item} {i : Slot} {form : ShutdownForm}
    (harrives : CommandArrives s u e items) (hargs : powerOffArgs items = some (i, form)) :
    exec (.slotPowerOff u e items) s =
      .next (commandDone s u e 0x31#16 (slotPowerOff i form (commandState s u e))) := by
  rw [exec_slotPowerOff_arrives s u e items harrives, cmdSlotPowerOff, withArgs_some hargs]

theorem exec_slotKill {s : State} {u : Uplink} {e : Envelope} {items : List Item} {i : Slot}
    (harrives : CommandArrives s u e items) (hargs : slotField items = some i) :
    exec (.slotKill u e items) s = .next (commandDone s u e 0x32#16 (slotKill i (commandState s u e))) := by
  rw [exec_slotKill_arrives s u e items harrives, cmdSlotKill, withArgs_some hargs]

section
variable {i : Slot} {s : State} {form : ShutdownForm}

theorem slotPowerOn_requests (h : s.slotState i = .standby) :
    slotPowerOn i s = answerOk (moveTo i .powerWait s) [] true := by
  rw [slotPowerOn, h]

theorem slotPowerOn_unchanged (h : s.slotState i ∈ [.powerWait, .powering, .online]) :
    slotPowerOn i s = answerOk s [] false := by
  rw [slotPowerOn]
  generalize s.slotState i = st at h ⊢
  fin_cases h <;> rfl

theorem slotPowerOn_badState (h : s.slotState i ∈
    [.empty, .standbyWait, .announceWait, .unidentified, .denied, .capped, .shuttingDown, .fault]) :
    slotPowerOn i s = refuse s .badState := by
  rw [slotPowerOn]
  generalize s.slotState i = st at h ⊢
  fin_cases h <;> rfl

theorem slotKill_powersOff (h : s.slotState i ∈ [.powering, .online, .capped, .shuttingDown]) :
    slotKill i s = answerOk (mainOff i .standby s) [] true := by
  rw [slotKill]
  generalize s.slotState i = st at h ⊢
  fin_cases h <;> rfl

theorem slotKill_unchanged (h : s.slotState i = .standby) : slotKill i s = answerOk s [] false := by
  rw [slotKill, h]

theorem slotKill_badState (h : s.slotState i ∈
    [.empty, .standbyWait, .announceWait, .unidentified, .denied, .powerWait, .fault]) :
    slotKill i s = refuse s .badState := by
  rw [slotKill]
  generalize s.slotState i = st at h ⊢
  fin_cases h <;> rfl

theorem slotPowerOff_shutsDown (h : s.slotState i ∈ [.online, .capped]) :
    slotPowerOff i form s = answerOk (beginShutdown i form s) [] false := by
  rw [slotPowerOff]
  generalize s.slotState i = st at h ⊢
  fin_cases h <;> rfl

theorem slotPowerOff_unchanged (h : s.slotState i ∈ [.shuttingDown, .standby]) :
    slotPowerOff i form s = answerOk s [] false := by
  rw [slotPowerOff]
  generalize s.slotState i = st at h ⊢
  fin_cases h <;> rfl

theorem slotPowerOff_powersOff (h : s.slotState i = .powering) :
    slotPowerOff i form s = answerOk (mainOff i .standby s) [] true := by
  rw [slotPowerOff, h]

theorem slotPowerOff_withdraws (h : s.slotState i = .powerWait) :
    slotPowerOff i form s = answerOk (moveTo i .standby s) [] true := by
  rw [slotPowerOff, h]

theorem slotPowerOff_badState (h : s.slotState i ∈
    [.empty, .standbyWait, .announceWait, .unidentified, .denied, .fault]) :
    slotPowerOff i form s = refuse s .badState := by
  rw [slotPowerOff]
  generalize s.slotState i = st at h ⊢
  fin_cases h <;> rfl

end

/-- Outside the slot's record, the start of a graceful shutdown touches the grant queue alone (R14, R85). -/
theorem beginShutdown_frame (i : Slot) (form : ShutdownForm) (s : State) : beginShutdown i form s =
    { s with
      slots := (beginShutdown i form s).slots
      budget := { s.budget with queue := s.budget.queue.filter fun q => decide (q.slot ≠ i) } } := by
  rw [beginShutdown, moveTo_eq]
  rfl

/-- Settles O43: each command answers by the row of its table that the slot's state is in. -/
theorem slotPowerCommandsFollowTheirTables : Obligations.SlotPowerCommandsFollowTheirTables := by
  refine ⟨powerOffArgs_eq_some, ?_⟩
  intro s cs u e items i answer harrives hcs hanswer
  subst hcs
  refine ⟨fun hargs => ?_, fun form hargs => ?_⟩
  · have hon {m : State} {status : Status} {cause : Bool} (h : slotPowerOn i (commandState s u e) =
        { state := m, status := status, results := [], cause := cause }) :
        exec (.slotPowerOn u e items) s = answer 0x30#16 m status cause := by
      rw [exec_slotPowerOn harrives hargs, h, hanswer]
    have hkill {m : State} {status : Status} {cause : Bool} (h : slotKill i (commandState s u e) =
        { state := m, status := status, results := [], cause := cause }) :
        exec (.slotKill u e items) s = answer 0x32#16 m status cause := by
      rw [exec_slotKill harrives hargs, h, hanswer]
    refine ⟨fun hst => ⟨hon (slotPowerOn_requests hst), ?_⟩, fun hst => hon (slotPowerOn_unchanged hst),
      fun hst => hon (slotPowerOn_badState hst), fun hst => hkill (slotKill_powersOff hst),
      fun hst => hkill (slotKill_unchanged hst), fun hst => hkill (slotKill_badState hst)⟩
    rw [moveTo_eq]
    rfl
  · have hoff {m : State} {status : Status} {cause : Bool} (h : slotPowerOff i form (commandState s u e) =
        { state := m, status := status, results := [], cause := cause }) :
        exec (.slotPowerOff u e items) s = answer 0x31#16 m status cause := by
      rw [exec_slotPowerOff harrives hargs, h, hanswer]
    have hslot (j : Slot) := beginShutdown_slot i j form (commandState s u e)
    refine ⟨fun hst => ⟨beginShutdown i form (commandState s u e), hoff (slotPowerOff_shutsDown hst), ?_,
      fun j hj => ?_, beginShutdown_frame i form _⟩, fun hst => hoff (slotPowerOff_unchanged hst),
      fun hst => hoff (slotPowerOff_powersOff hst), fun hst => ⟨hoff (slotPowerOff_withdraws hst), ?_⟩,
      fun hst => hoff (slotPowerOff_badState hst)⟩
    · rw [hslot, if_pos rfl]
      rfl
    · rw [hslot, if_neg hj]
      rfl
    · rw [moveTo_eq]
      rfl

end Sys2Proof.Machine
end

section
/-! SUPPORT. A fan, the override and the zone temperatures kept current: what each event's rule makes of a fan's record,
of the override and of the zones (R104, R105, R112, R115, R125). -/

namespace Sys2Proof.Machine

/-! ### One fan (R111, R112, R115 to R118, R125) -/

/-- A fan with the target of R112, the power of R125 and the duty that R115, R117 and R119 hold. -/
structure FanCurrent (overrideOn : Bool) (zones : Vector ZoneRecord 4) (r : FanRecord) : Prop where
  target : r.target = targetOf zones r
  power : r.power = fanPower overrideOn r
  held : FanHeld overrideOn r

/-- A target is computed from the settings of the fan. -/
theorem targetOf_fanFixed (zones : Vector ZoneRecord 4) (r : FanRecord) :
    targetOf zones (fanFixed r) = targetOf zones r := rfl

theorem targetOf_congr {r g : FanRecord} (h : fanFixed g = fanFixed r) (zones : Vector ZoneRecord 4) :
    targetOf zones g = targetOf zones r := by
  rw [← targetOf_fanFixed zones g, h, targetOf_fanFixed]

/-- The manual duty is the target in MANUAL and no part of it elsewhere (R112, R114). -/
theorem targetOf_manual (zones : Vector ZoneRecord 4) (r : FanRecord) (d : Nat) :
    targetOf zones { r with manual := d } = if r.mode = .manual then d else targetOf zones r := by
  unfold targetOf
  dsimp only
  cases r.mode <;> rfl

/-- A demand is computed from the temperature, the low bound and the range of its zone (R111). -/
theorem demand_congr {z w : ZoneRecord} (ht : w.temp = z.temp) (hl : w.low = z.low) (hr : w.range = z.range)
    (r : FanRecord) : demand w r = demand z r := by
  rw [demand, demand, ht, hl, hr]

/-- A fan whose zones did not move keeps its target (R112). -/
theorem targetOf_unmoved {s t : State} {r : FanRecord} (h : ¬FollowedZoneMoved s t r) :
    targetOf t.zones r = targetOf s.zones r := by
  have hdemand (z : Zone) (hf : follows r z = true) : demand t.zones[z] r = demand s.zones[z] r := by
    simp only [FollowedZoneMoved, not_exists, not_and, not_or, ne_eq, not_not] at h
    obtain ⟨ht, hl, hr⟩ := h z hf
    exact demand_congr ht hl hr r
  unfold follows at hdemand
  unfold targetOf
  cases hm : r.mode with
  | zone =>
    simp only [hm, decide_eq_true_eq] at hdemand
    exact hdemand r.zoneSel rfl
  | hottest =>
    simp only [hm] at hdemand
    refine List.foldl_ext _ _ _ fun d z _ => ?_
    split
    next hz => rw [hdemand z hz]
    next => rfl
  | full => rfl
  | off => rfl
  | manual => rfl

theorem settle_target (overrideOn : Bool) (r : FanRecord) : (settle overrideOn r).target = r.target := by
  unfold settle
  split_ifs <;> rfl

/-- The settle table leaves a fan as R115 holds it, where a fan in spin-up stood at 255 with its ramp timer stopped. -/
theorem settle_held {overrideOn : Bool} {r : FanRecord}
    (hspin : r.spin.isRunning = true → r.actual = 255 ∧ r.ramp = .stopped) :
    FanHeld overrideOn (settle overrideOn r) := by
  unfold settle
  split
  next hoff => exact ⟨fun _ => ⟨rfl, rfl, rfl⟩, fun _ hn => absurd hoff hn, fun h => by cases h⟩
  next hoff =>
    split
    next => exact ⟨fun h => absurd h hoff, fun _ _ => ⟨rfl, rfl, rfl⟩, fun h => by cases h⟩
    next hon =>
      -- neither OFF nor the override: only the clause of the spin-up is left
      have hrest {g : FanRecord} (hmode : g.mode = r.mode)
          (hg : g.spin.isRunning = true → g.actual = 255 ∧ g.ramp = .stopped) : FanHeld overrideOn g :=
        ⟨fun h => absurd (hmode ▸ h) hoff, fun h => absurd h hon, hg⟩
      split
      next =>
        split
        next => exact hrest rfl fun h => by cases h
        next =>
          split
          next => exact hrest rfl fun h => by cases h
          next => exact hrest rfl hspin
      next hstill =>
        have hstopped {g : FanRecord} (hmode : g.mode = r.mode) (hg : g.spin = r.spin) : FanHeld overrideOn g :=
          hrest hmode fun h => absurd (hg ▸ h) hstill
        split
        next =>
          split
          next => exact hrest rfl fun _ => ⟨rfl, rfl⟩
          next => exact hstopped rfl rfl
        next =>
          split_ifs
          all_goals exact hstopped rfl rfl

/-- A fan that is settled and repowered at its target is current. -/
theorem settled_current {overrideOn : Bool} {zones : Vector ZoneRecord 4} {r : FanRecord}
    (htarget : r.target = targetOf zones r)
    (hspin : r.spin.isRunning = true → r.actual = 255 ∧ r.ramp = .stopped) :
    FanCurrent overrideOn zones (repower overrideOn (settle overrideOn r)) where
  target := (settle_target overrideOn r).trans (htarget.trans (targetOf_congr (settle_fixed overrideOn r) zones).symm)
  power := rfl
  held := settle_held hspin

theorem FanCurrent.spinning {on : Bool} {zones : Vector ZoneRecord 4} {r : FanRecord} (h : FanCurrent on zones r) :
    r.spin.isRunning = true → r.actual = 255 ∧ r.ramp = .stopped := h.held.2.2

/-- A fan that follows a zone that moved is current after its retargeting, and so is one that follows none
(R112, R115). -/
theorem FanCurrent.retargeted {s t : State} {r : FanRecord} (h : FanCurrent s.thermal.overrideOn s.zones r)
    (hon : t.thermal.overrideOn = s.thermal.overrideOn) :
    FanCurrent t.thermal.overrideOn t.zones (retargeted s t r) := by
  unfold Machine.retargeted
  rw [hon]
  split
  next =>
    split
    next ht => exact ⟨ht.symm, h.power, h.held⟩
    next => exact settled_current rfl h.spinning
  next hm =>
    rw [zoneChanged_iff] at hm
    exact ⟨h.target.trans (targetOf_unmoved hm).symm, h.power, h.held⟩

/-- A fan whose ramp timer runs is neither in OFF, nor under the override, nor in spin-up. -/
theorem FanHeld.ramping {on : Bool} {r : FanRecord} (h : FanHeld on r) (hr : r.ramp.isRunning = true) :
    r.mode ≠ .off ∧ on ≠ true ∧ r.spin.isRunning ≠ true := by
  obtain ⟨hoff, hover, hspin⟩ := h
  have hne : r.ramp ≠ .stopped := fun h => by rw [h] at hr; cases hr
  have hmode : r.mode ≠ .off := fun h => hne (hoff h).2.2
  exact ⟨hmode, fun h => hne (hover h hmode).2.2, fun h => hne (hspin h).2⟩

/-- A fan in spin-up is neither in OFF nor under the override. -/
theorem FanHeld.spinningUp {on : Bool} {r : FanRecord} (h : FanHeld on r) (hs : r.spin.isRunning = true) :
    r.mode ≠ .off ∧ on ≠ true := by
  obtain ⟨hoff, hover, -⟩ := h
  have hne : r.spin ≠ .stopped := fun h => by rw [h] at hs; cases hs
  have hmode : r.mode ≠ .off := fun h => hne (hoff h).2.1
  exact ⟨hmode, fun h => hne (hover h hmode).2.1⟩

theorem FanCurrent.rampStep {on : Bool} {zones : Vector ZoneRecord 4} {r : FanRecord} (h : FanCurrent on zones r)
    (hr : r.ramp.isRunning = true) : FanCurrent on zones (repower on (rampStep r)) := by
  obtain ⟨hmode, hon, hspin⟩ := h.held.ramping hr
  exact ⟨h.target, rfl, fun h => absurd h hmode, fun h => absurd h hon, fun h => absurd h hspin⟩

theorem FanCurrent.endSpinUp {on : Bool} {zones : Vector ZoneRecord 4} {r : FanRecord} (h : FanCurrent on zones r)
    (hs : r.spin.isRunning = true) : FanCurrent on zones (repower on (endSpinUp r)) := by
  obtain ⟨hmode, hon⟩ := h.held.spinningUp hs
  exact ⟨h.target, rfl, fun h => absurd h hmode, fun h => absurd h hon, fun h => by cases h⟩

/-- The tach of a fan is no part of its target, its power or its duty. -/
theorem FanCurrent.tach {on : Bool} {zones : Vector ZoneRecord 4} {r : FanRecord} (h : FanCurrent on zones r)
    (v : Option Nat) (n : Nat) : FanCurrent on zones { r with speed := v, pulses := n } :=
  ⟨h.target, h.power, h.held⟩

theorem FanCurrent.gateResult {on : Bool} {zones : Vector ZoneRecord 4} {r : FanRecord} (h : FanCurrent on zones r) :
    FanCurrent on zones (repower on (gateResult r)) := by
  have htach := h.tach (some (speedOf r)) 0
  unfold Machine.gateResult
  dsimp only
  split
  next hs =>
    simp only [Bool.and_eq_true] at hs
    exact htach.endSpinUp hs.1.1
  next => exact ⟨htach.target, rfl, htach.held⟩

/-- A new curve moves the power of a fan alone (R126). -/
theorem FanCurrent.curve {on : Bool} {zones : Vector ZoneRecord 4} {r : FanRecord} (h : FanCurrent on zones r)
    (c : Curve) : FanCurrent on zones (repower on { r with curve := c }) := ⟨h.target, rfl, h.held⟩

/-! ### The override and the fans after a change of the zones (R105, R112, R119) -/

/-- The override as R105 leaves it, and every fan current. -/
structure FansCurrent (s : State) : Prop where
  override : OverrideConsistent s
  fans : ∀ f : Fan, FanCurrent s.thermal.overrideOn s.zones s.fans[f]

/-- A zone over its limit is no zone below it by the hysteresis. -/
theorem belowLimit_of_overLimit {s : State} (hh : 0 ≤ s.thermal.hysteresis) (h : overLimit s = true) :
    belowLimit s = false := by
  obtain ⟨z, hne, hlt⟩ := (overLimit_iff s).mp h
  rw [← Bool.not_eq_true, belowLimit_iff]
  intro hall
  obtain hz | hz := hall z
  · exact hne hz
  · omega

/-- The override stands as R105 leaves it after its evaluation, and stays so where nothing that it reads changed. -/
theorem overrideStep_consistent {s t : State} (hs : OverrideConsistent s)
    (hon : t.thermal.overrideOn = s.thermal.overrideOn) (hh : 0 ≤ t.thermal.hysteresis) :
    ((overrideStep s t).thermal.overrideOn = true → belowLimit t = false) ∧
      ((overrideStep s t).thermal.overrideOn = false → overLimit t = false) := by
  rw [overrideStep_on]
  split
  next =>
    have hexcl := belowLimit_of_overLimit hh
    split
    next =>
      refine ⟨fun h => by simpa using h, fun h => ?_⟩
      rw [Bool.not_eq_false'] at h
      rw [← Bool.not_eq_true]
      intro ho
      rw [hexcl ho] at h
      cases h
    next => exact ⟨hexcl, id⟩
  next hin =>
    rw [overrideInputsChanged_iff, not_not] at hin
    obtain ⟨hz, hhyst⟩ := hin
    have hbelow : belowLimit t = belowLimit s := by
      rw [Bool.eq_iff_iff, belowLimit_iff, belowLimit_iff, hhyst]
      exact forall_congr' fun z => by rw [(hz z).1, (hz z).2]
    have hover : overLimit t = overLimit s := by
      rw [Bool.eq_iff_iff, overLimit_iff, overLimit_iff]
      exact exists_congr fun z => by rw [(hz z).1, (hz z).2]
    obtain ⟨-, hon', hoff'⟩ := hs
    rw [hon, hbelow, hover]
    exact ⟨hon', hoff'⟩

theorem OverrideConsistent.of_eq {s t : State} (hs : OverrideConsistent s) (hz : t.zones = s.zones)
    (ht : t.thermal = s.thermal) : OverrideConsistent t := by
  unfold OverrideConsistent belowLimit overLimit at hs ⊢
  rwa [hz, ht]

/-- The zones and the hysteresis of a change that is handed on. -/
theorem overrideStep_keeps (before after : State) : (overrideStep before after).zones = after.zones ∧
    (overrideStep before after).thermal.hysteresis = after.thermal.hysteresis := by
  obtain ⟨hz, ht, -⟩ := retargetedFans_keeps before after
  have hh : (retargetedFans before after).thermal.hysteresis = after.thermal.hysteresis := congrArg _ ht
  unfold overrideStep
  split
  next =>
    obtain ⟨fs, b, al, h⟩ := evaluateOverride_frame (retargetedFans before after)
    rw [h]
    exact ⟨hz, hh⟩
  next => exact ⟨hz, hh⟩

/-- A change of the zones and of the hysteresis that is handed on leaves the override and every fan current. -/
theorem FansCurrent.overrideStep {s t : State} (hs : FansCurrent s)
    (hon : t.thermal.overrideOn = s.thermal.overrideOn) (hfans : t.fans = s.fans)
    (hh : 0 ≤ t.thermal.hysteresis) : FansCurrent (overrideStep s t) := by
  obtain ⟨hzones, hhyst⟩ := overrideStep_keeps s t
  constructor
  · have hbelow : belowLimit (Machine.overrideStep s t) = belowLimit t := by
      rw [belowLimit, belowLimit, hzones, hhyst]
    have hover : overLimit (Machine.overrideStep s t) = overLimit t := by rw [overLimit, overLimit, hzones]
    obtain ⟨h1, h2⟩ := overrideStep_consistent hs.override hon hh
    rw [OverrideConsistent, hhyst, hbelow, hover]
    exact ⟨hh, h1, h2⟩
  · intro f
    have hr := (hs.fans f).retargeted hon
    rw [overrideStep_fans, hzones, hfans]
    split
    next hkept => rw [hkept]; exact hr
    next => exact settled_current hr.target hr.spinning

theorem FansCurrent.same {s t : State} (hs : FansCurrent s) (h : SameThermal s t) : FansCurrent t where
  override := hs.override.of_eq h.zones h.thermal
  fans f := by
    rw [h.zones, h.thermal, h.fans]
    exact hs.fans f

/-- A change of the zones and of the hysteresis leaves override, fans and F current once it is handed on. -/
theorem FansCurrent.propagate {s t : State} (hs : FansCurrent s) (hsum : s.fanReservation = powerSum s.fans)
    (hon : t.thermal.overrideOn = s.thermal.overrideOn) (hfans : t.fans = s.fans)
    (hres : t.fanReservation = s.fanReservation) (hh : 0 ≤ t.thermal.hysteresis) :
    FansCurrent (propagate s t) ∧ (propagate s t).fanReservation = powerSum (propagate s t).fans := by
  rw [propagate_eq]
  split
  next h => exact ⟨hs.same ⟨h.1.symm, h.2.symm, hfans, hres⟩, by rw [hres, hfans, hsum]⟩
  next =>
    obtain ⟨hoverride, hcurrent⟩ := hs.overrideStep hon hfans hh
    exact ⟨⟨hoverride, hcurrent⟩, rfl⟩

/-! ### The zones and their contributions (R103, R104) -/

/-- Zones, override, fans and F current: what O56 speaks of. -/
structure ThermalCurrent (s : State) : Prop where
  zones : ZonesCurrent s
  handedOn : FansCurrent s
  reservation : s.fanReservation = powerSum s.fans

theorem thermalCurrent_iff (s : State) : ThermalCurrent s ↔
    ZonesCurrent s ∧ OverrideConsistent s ∧ TargetsCurrent s ∧ PowersCurrent s ∧ FansHeld s := by
  constructor
  · rintro ⟨hz, ⟨ho, hf⟩, hr⟩
    exact ⟨hz, ho, fun f => (hf f).target, ⟨fun f => (hf f).power, hr⟩, fun f => (hf f).held⟩
  · rintro ⟨hz, ho, ht, ⟨hp, hr⟩, hh⟩
    exact ⟨hz, ⟨ho, fun f => ⟨ht f, hp f, hh f⟩⟩, hr⟩

/-- What a slot record gives its zone: the zone, and the contribution under each substitute (R103). -/
def heatRecord (r : SlotRecord) : Zone × (Int → Option Int) := (r.adm.zone, slotContribution r)

/-- What a channel gives its zone: the zone and the result (R103). -/
def heatChannel (r : ChannelRecord) : Option Zone × Option Int := (r.zone, r.result)

/-- Each slot and each channel gives a zone the same in two states, or is of other zones in both. -/
structure SameHeatTo (s t : State) (z : Zone) : Prop where
  slots : ∀ i, heatRecord (t.slot i) = heatRecord (s.slot i) ∨
    ((t.slot i).adm.zone ≠ z ∧ (s.slot i).adm.zone ≠ z)
  channels : ∀ c : Channel, heatChannel t.channels[c] = heatChannel s.channels[c] ∨
    (t.channels[c].zone ≠ some z ∧ s.channels[c].zone ≠ some z)

/-- A zone to which slots and channels give the same has the same temperature (R104). -/
theorem SameHeatTo.zoneTemp {s t : State} {z : Zone} (h : SameHeatTo s t z)
    (hsub : t.zones[z].substitute = s.zones[z].substitute) : zoneTemp t z = zoneTemp s z := by
  have hslots (x : Int) (i : Slot) : (if (t.slot i).adm.zone = z then slotContribution (t.slot i) x else none) =
      if (s.slot i).adm.zone = z then slotContribution (s.slot i) x else none := by
    obtain hr | ⟨ht, hs⟩ := h.slots i
    · obtain ⟨hzone, hc⟩ := Prod.mk.injEq .. ▸ hr
      rw [hzone, hc]
    · rw [if_neg ht, if_neg hs]
  have hchannels (c : Channel) : (if t.channels[c].zone = some z then t.channels[c].result else none) =
      if s.channels[c].zone = some z then s.channels[c].result else none := by
    obtain hc | ⟨ht, hs⟩ := h.channels c
    · obtain ⟨hzone, hresult⟩ := Prod.mk.injEq .. ▸ hc
      rw [hzone, hresult]
    · rw [if_neg ht, if_neg hs]
  rw [Machine.zoneTemp, Machine.zoneTemp, contributions, contributions, hsub, funext (hslots _), funext hchannels]

/-- Two states with the same zones, thermal settings, fans and F, in which every slot and channel gives its zone the
same. -/
structure SameHeat (s t : State) : Prop where
  thermal : SameThermal s t
  channels : t.channels = s.channels
  slots : ∀ i, heatRecord (t.slot i) = heatRecord (s.slot i)

theorem SameHeat.to {s t : State} (h : SameHeat s t) (z : Zone) : SameHeatTo s t z :=
  ⟨fun i => .inl (h.slots i), fun c => .inl (by rw [h.channels])⟩

/-- Recomputing every zone whose contributions changed, and handing the change on, leaves all current. -/
theorem ThermalCurrent.rezone {s t : State} (hs : ThermalCurrent s) (h : SameThermal s t) (zs : List Zone)
    (hheat : ∀ z, z ∉ zs → SameHeatTo s t z) : ThermalCurrent (rezone zs t) := by
  obtain ⟨zones, hr⟩ := retemp_frame zs t
  have hfans := (hs.handedOn.same h).propagate (t := retemp zs t) (by rw [h.reservation, h.fans, hs.reservation])
    (by rw [hr]) (by rw [hr]) (by rw [hr]) (by rw [hr, h.thermal]; exact hs.handedOn.override.1)
  refine ⟨fun z => ?_, hfans.1, hfans.2⟩
  obtain ⟨hin, hout⟩ := (rezone_handedOn h zs).1 z
  by_cases hz : z ∈ zs
  · rw [hin hz]
  · have hto : SameHeatTo s (Machine.rezone zs t) z := by
      obtain ⟨_, _, _, _, _, hframe⟩ := rezone_frame zs t
      rw [hframe]
      exact ⟨(hheat z hz).slots, (hheat z hz).channels⟩
    rw [hto.zoneTemp (by rw [hout hz]), hout hz, hs.zones z]

theorem ThermalCurrent.same {s t : State} (hs : ThermalCurrent s) (h : SameHeat s t) : ThermalCurrent t := by
  have hr : Machine.rezone [] t = t := if_pos ⟨rfl, rfl⟩
  rw [← hr]
  exact hs.rezone h.thermal [] fun z _ => h.to z

/-- A recomputation of a slot's zone after a change of what that slot gives it. -/
theorem ThermalCurrent.rezoneSlot {s t : State} (hs : ThermalCurrent s) (h : SameThermal s t)
    (hchannels : t.channels = s.channels) {i : Slot} (hzone : (t.slot i).adm.zone = (s.slot i).adm.zone)
    (hslots : ∀ j, j ≠ i → heatRecord (t.slot j) = heatRecord (s.slot j)) : ThermalCurrent (rezoneSlot i t) := by
  refine hs.rezone h _ fun z hz => ⟨fun j => ?_, fun c => .inl (by rw [hchannels])⟩
  by_cases hj : j = i
  · rw [List.mem_singleton] at hz
    subst hj
    exact .inr ⟨fun e => hz e.symm, fun e => hz (by rw [hzone, e])⟩
  · exact .inl (hslots j hj)

/-! ### Changes that give no zone anything else -/

theorem SameHeat.refl (s : State) : SameHeat s s := ⟨⟨rfl, rfl, rfl, rfl⟩, rfl, fun _ => rfl⟩

theorem SameHeat.trans {s t u : State} (h : SameHeat s t) (h' : SameHeat t u) : SameHeat s u :=
  ⟨h.thermal.trans h'.thermal, h'.channels.trans h.channels, fun i => (h'.slots i).trans (h.slots i)⟩

/-- States that differ neither in slots nor in channels, zones, thermal settings and fans. -/
theorem SameHeat.of_eq {s t : State} (hs : t.slots = s.slots) (hc : t.channels = s.channels) (h : SameThermal s t) :
    SameHeat s t := ⟨h, hc, fun i => by rw [State.slot, State.slot, hs]⟩

theorem SameHeat.of_quiet {s t : State} (h : t.quiet = s.quiet) : SameHeat s t where
  thermal :=
    { zones := (congrArg State.zones h :)
      thermal := (congrArg State.thermal h :)
      fans := (congrArg State.fans h :)
      reservation := (congrArg State.fanReservation h :) }
  channels := (congrArg State.channels h :)
  slots i := by
    have hq (r : SlotRecord) : heatRecord (quietRecord r) = heatRecord r := rfl
    rw [← hq, ← quiet_slot, h, quiet_slot, hq]

/-- A change of one slot's record that gives its zone the same. -/
theorem SameHeat.of_slot {s t : State} (h : SameThermal s t) (hchannels : t.channels = s.channels) {i : Slot}
    {r : SlotRecord} (hslot : ∀ j, t.slot j = if j = i then r else s.slot j)
    (hr : heatRecord r = heatRecord (s.slot i)) : SameHeat s t := by
  refine ⟨h, hchannels, fun j => ?_⟩
  rw [hslot]
  split
  next hj => rw [hj]; exact hr
  next => rfl

theorem SameHeat.modSlot {s t : State} (h : SameHeat s t) (i : Slot) (f : SlotRecord → SlotRecord)
    (hf : heatRecord (f (t.slot i)) = heatRecord (t.slot i)) : SameHeat s (t.modSlot i f) :=
  h.trans (.of_slot ⟨rfl, rfl, rfl, rfl⟩ rfl (State.slot_modSlot t i · f) hf)

theorem SameHeat.modInv {s t : State} (h : SameHeat s t) (i : Slot) (f : InventoryRecord → InventoryRecord) :
    SameHeat s (t.modInv i f) := h.modSlot i (fun r => { r with inv := f r.inv }) rfl

theorem SameHeat.modBud {s t : State} (h : SameHeat s t) (i : Slot) (f : BudgetPart → BudgetPart) :
    SameHeat s (t.modBud i f) := h.modSlot i (fun r => { r with bud := f r.bud }) rfl

/-- A change of the rails other than the main rail. -/
theorem SameHeat.modRail {s t : State} (h : SameHeat s t) (i : Slot) (f : RailPart → RailPart)
    (hf : ∀ r, (f r).mainRail = r.mainRail) : SameHeat s (t.modRail i f) := by
  refine h.modSlot i (fun r => { r with rail := f r.rail }) (Prod.ext rfl (funext fun x => ?_))
  unfold heatRecord slotContribution
  dsimp only
  rw [hf]

/-- A change of the admission part other than the zone. -/
theorem SameHeat.modAdm {s t : State} (h : SameHeat s t) (i : Slot) (f : AdmissionPart → AdmissionPart)
    (hf : ∀ a, (f a).zone = a.zone) : SameHeat s (t.modAdm i f) :=
  h.modSlot i (fun r => { r with adm := f r.adm }) (Prod.ext (hf _) rfl)

theorem SameHeat.raise {s t : State} (h : SameHeat s t) (a : Alert) : SameHeat s (raise a t) := by
  rw [raise_eq]
  exact h.trans (.of_eq rfl rfl ⟨rfl, rfl, rfl, rfl⟩)

theorem SameHeat.moveTo {s t : State} (h : SameHeat s t) (i : Slot) (st : SlotState) : SameHeat s (moveTo i st t) := by
  rw [moveTo_eq]
  exact (h.modAdm i (fun a => { a with state := st }) fun _ => rfl).trans (.of_eq rfl rfl ⟨rfl, rfl, rfl, rfl⟩)

theorem SameHeat.freeLane {s t : State} (h : SameHeat s t) (i : Slot) : SameHeat s (freeLane i t) := by
  rw [freeLane_eq]
  exact h.trans (.of_eq rfl rfl ⟨rfl, rfl, rfl, rfl⟩)

theorem SameHeat.offerControl {s t : State} (h : SameHeat s t) (i : Slot) (f : ControlFrame) :
    SameHeat s (offerControl i f t) := h.trans (.of_quiet (quiet_offerControl i f t))

theorem SameHeat.changeTrigger {s t : State} (h : SameHeat s t) : SameHeat s (changeTrigger t) := by
  refine h.trans ?_
  unfold Machine.changeTrigger
  split <;> exact .of_eq rfl rfl ⟨rfl, rfl, rfl, rfl⟩

theorem SameHeat.setPriority {s t : State} (h : SameHeat s t) (i : Slot) (p : Fin 4) :
    SameHeat s (setPriority i p t) := by
  have hframe := setPriority_frame i p t
  refine h.trans (.of_slot ?_ (by rw [hframe]) (setPriority_slot i · p t) rfl)
  rw [hframe]
  exact ⟨rfl, rfl, rfl, rfl⟩

theorem SameHeat.refreshStations {s t : State} (h : SameHeat s t) (i : Slot) (l : List Station) :
    SameHeat s (refreshStations i l t) := by
  unfold Machine.refreshStations
  dsimp only
  have hplaced (stations : List StationEntry) : SameHeat s { t with stations := stations } :=
    h.trans (.of_eq rfl rfl ⟨rfl, rfl, rfl, rfl⟩)
  split
  next => exact ((hplaced _).modInv i _).raise _
  next => exact (hplaced _).modInv i _

/-! ### Changes that are followed by a recomputation (R104) -/

/-- A main-off (R76). -/
theorem ThermalCurrent.mainOff {s : State} (hs : ThermalCurrent s) (i : Slot) (st : SlotState) :
    ThermalCurrent (mainOff i st s) := by
  have hframe := offState_eq i st s
  refine hs.rezoneSlot (t := offState i st s) ?_ ?_ (offState_zone i st s) fun j hj => ?_
  · rw [hframe]
    exact ⟨rfl, rfl, rfl, rfl⟩
  · rw [hframe]
  · have hslot := mainOff_slot i st s j
    rw [mainOff_eq, rezoneSlot_slot, if_neg hj] at hslot
    rw [hslot]

theorem ThermalCurrent.raise {s : State} (hs : ThermalCurrent s) (a : Alert) : ThermalCurrent (raise a s) :=
  hs.same (SameHeat.raise (.refl s) a)

theorem ThermalCurrent.changeTrigger {s : State} (hs : ThermalCurrent s) : ThermalCurrent (changeTrigger s) :=
  hs.same (SameHeat.changeTrigger (.refl s))

/-- A removal (R16). -/
theorem ThermalCurrent.removal {s : State} (hs : ThermalCurrent s) (i : Slot) :
    ThermalCurrent (removal i (s.modAdm i takePresence)) := by
  have hframe := removalState_eq i s
  have hslot (j : Slot) := removalState_slot i j s
  rw [removal_eq]
  refine ThermalCurrent.raise (hs.rezoneSlot (t := removalState i s) ?_ ?_ ?_ fun j hj => ?_) _
  · rw [hframe]
    exact ⟨rfl, rfl, rfl, rfl⟩
  · rw [hframe]
  · rw [hslot, if_pos rfl]
    rfl
  · rw [hslot, if_neg hj]

/-- A change of one slot's telemetry (R92, R93). -/
theorem ThermalCurrent.telemetry {s : State} (hs : ThermalCurrent s) (i : Slot) (f : TelemetryPart → TelemetryPart) :
    ThermalCurrent (Machine.rezoneSlot i (s.modTel i f)) := by
  rw [State.modTel_eq]
  refine hs.rezoneSlot (t := s.modSlot i _) ⟨rfl, rfl, rfl, rfl⟩ rfl ?_ fun j hj => ?_
  · rw [State.slot_modSlot_same]
  · rw [State.slot_modSlot_ne _ _ hj]

theorem ThermalCurrent.grantMain {s : State} (hs : ThermalCurrent s) (i : Slot) : ThermalCurrent (grantMain i s) := by
  have hslot (j : Slot) := grantMain_slot i j s
  rw [grantMain_eq] at hslot ⊢
  simp only [rezoneSlot_slot] at hslot
  refine hs.rezoneSlot (t := grantedState i s) ?_ ?_ ?_ fun j hj => ?_
  · rw [grantedState, moveTo_eq]
    exact ⟨rfl, rfl, rfl, rfl⟩
  · rw [grantedState, moveTo_eq]
    rfl
  · rw [hslot, if_pos rfl]
  · rw [hslot, if_neg hj]

/-- A conversion's result recomputes the zone that its channel is mapped to (R96). -/
theorem ThermalCurrent.completeConversion {s : State} (hs : ThermalCurrent s) (c : Channel) (code : Byte) :
    ThermalCurrent (completeConversion c code s).state := by
  have hframe := resultStored_frame c code s
  have hzone := resultStored_zone c code s
  rw [completeConversion_state]
  refine ThermalCurrent.same (s := resultHandedOn c code s) ?_ (.of_eq rfl rfl ⟨rfl, rfl, rfl, rfl⟩)
  refine hs.rezone (resultStored_sameThermal c code s) _ fun z hz => ⟨fun i => .inl ?_, fun d => ?_⟩
  · rw [hframe]
    rfl
  · rw [Option.mem_toList] at hz
    by_cases hd : d = c
    · subst hd
      exact .inr ⟨fun e => hz (hzone ▸ e), hz⟩
    · exact .inl (congrArg heatChannel (resultStored_channel_ne hd code s))

/-! ### Changes of one fan -/

theorem FansCurrent.raise {s : State} (hs : FansCurrent s) (a : Alert) : FansCurrent (raise a s) :=
  hs.same (SameHeat.raise (.refl s) a).thermal

/-- The zones and the override current, with a fan changed to one that is current. -/
theorem FansCurrent.changeFan {s : State} (hs : FansCurrent s) (f : Fan) (rule : FanRecord → FanRecord)
    (h : FanCurrent s.thermal.overrideOn s.zones (repower s.thermal.overrideOn (rule s.fans[f]))) :
    FansCurrent (changeFan f rule s) where
  override := hs.override
  fans g := by
    rw [changeFan_fans]
    split
    next => exact h
    next => exact hs.fans g

/-- F brought up to date after changes of the fans. -/
theorem ThermalCurrent.updated {s t : State} (hs : ThermalCurrent s) (ht : FansCurrent t) (hslots : t.slots = s.slots)
    (hchannels : t.channels = s.channels) (hzones : t.zones = s.zones) : ThermalCurrent (updateReservation t) where
  zones z := by
    have htemp : zoneTemp (updateReservation t) z = zoneTemp s z :=
      zoneTemp_congr hslots hchannels z (by rw [← hzones])
    rw [htemp, ← hs.zones z, ← hzones]
    rfl
  handedOn := ⟨ht.override, ht.fans⟩
  reservation := rfl

theorem ThermalCurrent.changeFan {s : State} (hs : ThermalCurrent s) (f : Fan) (rule : FanRecord → FanRecord)
    (h : FanCurrent s.thermal.overrideOn s.zones (repower s.thermal.overrideOn (rule s.fans[f]))) :
    ThermalCurrent (updateReservation (changeFan f rule s)) :=
  hs.updated (hs.handedOn.changeFan f rule h) rfl rfl rfl

/-- The tach gate's expiry (R122, R123). -/
theorem ThermalCurrent.gateExpiry {s : State} (hs : ThermalCurrent s) : ThermalCurrent (gateExpiry s) := by
  have hfold := List.foldlRecOn allFans (fun t f => gateFan f t) (motive := fun t =>
    FansCurrent t ∧ t.slots = s.slots ∧ t.channels = s.channels ∧ t.zones = s.zones) ⟨hs.handedOn, rfl, rfl, rfl⟩
    fun t ⟨hcurrent, hkept⟩ f _ => by
      have hg := hcurrent.changeFan f gateResult (hcurrent.fans f).gateResult
      unfold gateFan checkStall
      split
      next =>
        refine ⟨hg.raise _, ?_⟩
        rw [raise_eq]
        exact hkept
      next => exact ⟨hg, hkept⟩
  unfold Machine.gateExpiry
  generalize allFans.foldl (fun s f => gateFan f s) s = t at hfold ⊢
  obtain ⟨hcurrent, hslots, hchannels, hzones⟩ := hfold
  exact hs.updated (t := { t with tachGate := .running 500 }) ⟨hcurrent.override, hcurrent.fans⟩ hslots hchannels
    hzones

/-- A fan changed in what is no part of its power leaves F as it is. -/
theorem powerSum_congr {fs gs : Vector FanRecord 6} (h : ∀ f : Fan, gs[f].power = fs[f].power) :
    powerSum gs = powerSum fs := by
  rw [powerSum, powerSum, funext h]

theorem ThermalCurrent.modFan {s : State} (hs : ThermalCurrent s) (f : Fan) (rule : FanRecord → FanRecord)
    (h : FanCurrent s.thermal.overrideOn s.zones (rule s.fans[f])) (hpower : (rule s.fans[f]).power = s.fans[f].power) :
    ThermalCurrent (s.modFan f rule) where
  zones := hs.zones
  handedOn :=
    { override := hs.handedOn.override
      fans := fun g => by
        rw [State.fans_modFan]
        split
        next => exact h
        next => exact hs.handedOn.fans g }
  reservation := by
    refine hs.reservation.trans (powerSum_congr fun g => ?_).symm
    rw [State.fans_modFan]
    split
    next hg => rw [hg, hpower]
    next => rfl

end Sys2Proof.Machine
end

section
/-! SUPPORT. SET_ZONE and SET_CHANNEL (O38). -/

namespace Sys2Proof.Machine

/-! ### The fields of SET_ZONE and SET_CHANNEL (R101, R102, R103, R181) -/

/-- A SET_ZONE names a zone where it carries a setting of one (R102). -/
theorem zoneNamed_iff (items : List Item) :
    (hasField 1 items || !(hasField 2 items || hasField 3 items || hasField 4 items || hasField 5 items)) = true ↔
      (fieldNat 1 items = none → ∀ k ∈ [2, 3, 4, 5], fieldNat k items = none) := by
  have hnone (n : Nat) : hasField n items = false ↔ fieldNat n items = none := by
    rw [← Bool.not_eq_true, hasField_iff, not_not]
  simp only [Bool.or_eq_true, Bool.not_eq_true', Bool.or_eq_false_iff, hasField_iff, hnone, List.forall_mem_cons,
    List.not_mem_nil, false_imp_iff, implies_true, and_true, and_assoc]
  exact or_iff_not_imp_left.trans (by rw [not_not])

theorem zoneArgs_eq_some (items : List Item) (x : ZoneSettings) : zoneArgs items = some x ↔
    itemsFit [opt 1 1, opt 2 2, opt 3 2, opt 4 2, opt 5 2, opt 6 2] items = true ∧
    (fieldNat 1 items = none → ∀ k ∈ [2, 3, 4, 5], fieldNat k items = none) ∧
    x.zone.map (fun z => z.val + 1) = fieldNat 1 items ∧
    x.low = (fieldInt 2 items).map (clampInt (-64) 127) ∧ x.range = (fieldInt 3 items).map (clampInt 1 64) ∧
    x.limit = (fieldInt 4 items).map (clampInt (-128) 127) ∧
    x.substitute = (fieldInt 5 items).map (clampInt (-64) 127) ∧
    x.hysteresis = (fieldInt 6 items).map (clampInt 0 15) := by
  have hzone (z : Option Zone) : fieldEnum 1 (memberOf 4) items = some z ↔
      z.map (fun z => z.val + 1) = fieldNat 1 items := fieldEnum_eq_some memberOf_eq_some 1 items z
  rw [zoneArgs, Option.ite_none_right_eq_some, Bool.and_eq_true, zoneNamed_iff, and_assoc]
  refine and_congr_right fun _ => and_congr_right fun _ => ?_
  simp only [Option.bind_eq_bind, Option.bind_eq_some_iff, Option.some_inj, hzone]
  constructor
  · rintro ⟨_, hz, rfl⟩
    exact ⟨hz, rfl, rfl, rfl, rfl, rfl⟩
  · rintro ⟨hz, hlow, hrange, hlimit, hsub, hhyst⟩
    exact ⟨x.zone, hz, by rw [← hlow, ← hrange, ← hlimit, ← hsub, ← hhyst]⟩

/-- The value of a channel's zone map: 0 for none, else the zone's number (R103, R181). -/
def zoneMapValue : Option Zone → Nat
  | none => 0
  | some k => k.val + 1

theorem channelArgs_eq_some (items : List Item) (c : Channel) (x : ChannelSettings) :
    channelArgs items = some (c, x) ↔
      itemsFit [req 1 1, opt 2 2, opt 3 2, opt 4 1] items = true ∧ fieldNat 1 items = some c.val ∧
      x.high = (fieldInt 2 items).map (channelLimit c) ∧ x.low = (fieldInt 3 items).map (channelLimit c) ∧
      x.zone.map zoneMapValue = fieldNat 4 items ∧ (4 ≤ c.val → x.zone = none) := by
  have hchannel (c : Channel) : (fieldNat 1 items).bind channelCode = some c ↔ fieldNat 1 items = some c.val :=
    bind_code channelCode_eq_some (fieldNat 1 items) c
  have hzone (z : Option (Option Zone)) : fieldEnum 4 zoneMapCode items = some z ↔
      z.map zoneMapValue = fieldNat 4 items := fieldEnum_eq_some zoneMapCode_eq_some 4 items z
  rw [channelArgs, Option.ite_none_right_eq_some]
  refine and_congr_right fun _ => ?_
  simp only [Option.bind_eq_bind, Option.bind_eq_some_iff, Option.ite_none_left_eq_some, Option.some_inj,
    Prod.mk.injEq, hchannel, hzone]
  constructor
  · rintro ⟨_, hc, z, hz, hmapped, rfl, rfl⟩
    refine ⟨hc, rfl, rfl, hz, fun h4 => ?_⟩
    simpa [h4] using hmapped
  · rintro ⟨hc, hhigh, hlow, hz, hmapped⟩
    refine ⟨c, hc, x.zone, hz, fun ⟨h4, hs⟩ => ?_, rfl, by rw [← hhigh, ← hlow]⟩
    rw [hmapped h4] at hs
    cases hs

/-- A hysteresis that is carried is no less than 0 (R102). -/
theorem zoneArgs_hysteresis {items : List Item} {x : ZoneSettings} (h : zoneArgs items = some x) {held : Int}
    (hheld : 0 ≤ held) : 0 ≤ x.hysteresis.getD held := by
  obtain ⟨-, -, -, -, -, -, -, hhyst⟩ := (zoneArgs_eq_some items x).mp h
  rw [hhyst]
  cases fieldInt 6 items with
  | none => exact hheld
  | some v => exact le_max_left 0 _

/-! ### What SET_ZONE gives (R102, R104, R105) -/

/-- The state with the settings of SET_ZONE stored, before they are handed on. -/
def zoneStored (x : ZoneSettings) (s : State) : State :=
  { storeZoneForm x s with
    thermal := { (storeZoneForm x s).thermal with
      hysteresis := x.hysteresis.getD (storeZoneForm x s).thermal.hysteresis } }

theorem setZone_eq (x : ZoneSettings) (s : State) : setZone x s = answerOk (propagate s (zoneStored x s))
    ([x.low, x.range, x.limit, x.substitute, x.hysteresis].map (ifCarried be16i)) false := rfl

/-- The settings go to the zones and to the hysteresis alone. -/
theorem storeZoneForm_frame (x : ZoneSettings) (s : State) : ∃ zones, storeZoneForm x s = { s with zones := zones } := by
  unfold storeZoneForm
  split
  next => exact ⟨s.zones, rfl⟩
  next z _ =>
    dsimp only
    split
    next => exact ⟨_, rfl⟩
    next =>
      obtain ⟨zones, h⟩ := retemp_frame [z] (s.modZone z (storeZone x))
      exact ⟨zones, h⟩

/-- The zone that SET_ZONE names: its settings, and its temperature where the substitute changed (R104). -/
theorem storeZoneForm_zone {x : ZoneSettings} {z : Zone} (hz : x.zone = some z) (s : State) :
    (storeZoneForm x s).zones[z] = { storeZone x s.zones[z] with
      temp := if x.substitute.getD s.zones[z].substitute = s.zones[z].substitute then s.zones[z].temp
        else zoneTemp (storeZoneForm x s) z } := by
  have hstored : (s.modZone z (storeZone x)).zones[z] = storeZone x s.zones[z] := by
    rw [State.zones_modZone, if_pos rfl]
  have hsub : (storeZone x s.zones[z]).substitute = x.substitute.getD s.zones[z].substitute := rfl
  unfold storeZoneForm
  rw [hz]
  dsimp only
  rw [hstored, hsub]
  split
  next => exact hstored
  next =>
    have hzone := retemp_zones [z] (s.modZone z (storeZone x)) z
    rw [if_pos (List.mem_singleton_self z), hstored] at hzone
    obtain ⟨zones, hframe⟩ := retemp_frame [z] (s.modZone z (storeZone x))
    rw [zoneTemp_congr (s := s.modZone z (storeZone x)) (by rw [hframe]) (by rw [hframe]) z (by rw [hzone, hstored])]
    exact hzone

/-- Every other zone is as it was. -/
theorem storeZoneForm_zone_ne {x : ZoneSettings} {z : Zone} (hz : x.zone ≠ some z) (s : State) :
    (storeZoneForm x s).zones[z] = s.zones[z] := by
  unfold storeZoneForm
  split
  next => rfl
  next w hw =>
    have hne : z ≠ w := fun h => hz (h ▸ hw)
    have hstored : (s.modZone w (storeZone x)).zones[z] = s.zones[z] := by rw [State.zones_modZone, if_neg hne]
    dsimp only
    split
    next => exact hstored
    next => rw [retemp_zones, if_neg (by simpa using hne), hstored]

theorem zoneStored_frame (x : ZoneSettings) (s : State) : ∃ zones, zoneStored x s =
    { s with zones := zones, thermal := { s.thermal with hysteresis := x.hysteresis.getD s.thermal.hysteresis } } := by
  obtain ⟨zones, h⟩ := storeZoneForm_frame x s
  exact ⟨zones, by rw [zoneStored, h]⟩

/-- The state of SET_ZONE (R102, R105). -/
def zoneSet (x : ZoneSettings) (s : State) : State := propagate s (zoneStored x s)

theorem zoneSet_frame (x : ZoneSettings) (s : State) : zoneSet x s =
    { s with
      zones := (storeZoneForm x s).zones
      thermal := { overrideOn := (zoneSet x s).thermal.overrideOn
                   hysteresis := x.hysteresis.getD s.thermal.hysteresis }
      fans := (zoneSet x s).fans, fanReservation := (zoneSet x s).fanReservation
      mgmt := { s.mgmt with alerts := (zoneSet x s).mgmt.alerts } } := by
  obtain ⟨zones, h⟩ := storeZoneForm_frame x s
  obtain ⟨fs, b, F, al, hp⟩ := propagate_frame s (zoneStored x s)
  rw [zoneSet, hp, zoneStored, h]

/-- The temperatures that are handed on are those of the state that results (R104). -/
theorem zoneSet_zoneTemp (x : ZoneSettings) (s : State) (z : Zone) :
    zoneTemp (zoneSet x s) z = zoneTemp (storeZoneForm x s) z := by
  obtain ⟨zones, h⟩ := storeZoneForm_frame x s
  have hframe := zoneSet_frame x s
  exact zoneTemp_congr (by rw [hframe, h]) (by rw [hframe, h]) z (by rw [hframe])

theorem zoneSet_handedOn (x : ZoneSettings) (s : State) :
    ThermalHandedOn s (zoneSet x s) ∧ AlertsGain s (zoneSet x s) fun _ => False := by
  obtain ⟨zones, h⟩ := zoneStored_frame x s
  obtain ⟨hth, hal⟩ := propagate_handedOn (s := s) (t := zoneStored x s) (by rw [h]) (by rw [h]) (by rw [h])
  have hmgmt : (zoneStored x s).mgmt = s.mgmt := by rw [h]
  refine ⟨hth, fun a => (hal a).trans ?_⟩
  rw [hmgmt, false_or]
  rfl

/-! ### What SET_CHANNEL gives (R101, R103, R104) -/

/-- The zones that SET_CHANNEL recomputes: the one that the channel left and the one that it joined. -/
def remappedZones (c : Channel) (x : ChannelSettings) (s : State) : List Zone :=
  if x.zone.getD s.channels[c].zone = s.channels[c].zone then []
  else s.channels[c].zone.toList ++ (x.zone.getD s.channels[c].zone).toList

/-- The state of SET_CHANNEL. -/
def channelSet (c : Channel) (x : ChannelSettings) (s : State) : State :=
  rezone (remappedZones c x s) (s.modChannel c (storeChannel x))

theorem rezone_nil (s : State) : rezone [] s = s := if_pos ⟨rfl, rfl⟩

theorem setChannel_eq (c : Channel) (x : ChannelSettings) (s : State) : setChannel c x s =
    answerOk (channelSet c x s)
      [ifCarried be16i x.high, ifCarried be16i x.low, ifCarried zoneMapField x.zone] false := by
  have hnew : (s.modChannel c (storeChannel x)).channels[c].zone = x.zone.getD s.channels[c].zone := by
    rw [State.channels_modChannel, if_pos rfl]
    rfl
  unfold setChannel channelSet remappedZones
  dsimp only
  rw [hnew]
  split
  next => rw [rezone_nil]
  next => rfl

theorem channelSet_frame (c : Channel) (x : ChannelSettings) (s : State) : channelSet c x s =
    { s with
      channels := (channelSet c x s).channels, zones := (channelSet c x s).zones
      thermal := { s.thermal with overrideOn := (channelSet c x s).thermal.overrideOn }
      fans := (channelSet c x s).fans, fanReservation := (channelSet c x s).fanReservation
      mgmt := { s.mgmt with alerts := (channelSet c x s).mgmt.alerts } } := by
  obtain ⟨zones, fs, b, F, al, h⟩ := rezone_frame (remappedZones c x s) (s.modChannel c (storeChannel x))
  rw [channelSet, h]
  rfl

theorem channelSet_channels (c d : Channel) (x : ChannelSettings) (s : State) : (channelSet c x s).channels[d] =
    if d = c then
      { s.channels[c] with
        high := x.high.getD s.channels[c].high, low := x.low.getD s.channels[c].low
        zone := x.zone.getD s.channels[c].zone }
    else s.channels[d] := by
  obtain ⟨zones, fs, b, F, al, h⟩ := rezone_frame (remappedZones c x s) (s.modChannel c (storeChannel x))
  rw [channelSet, h]
  exact State.channels_modChannel s c d (storeChannel x)

/-- A zone map that stays recomputes no zone. -/
theorem channelSet_sameMap {c : Channel} {x : ChannelSettings} {s : State}
    (h : x.zone.getD s.channels[c].zone = s.channels[c].zone) : (channelSet c x s).zones = s.zones := by
  rw [channelSet, remappedZones, if_pos h, rezone_nil]
  rfl

theorem mem_remappedZones {c : Channel} {x : ChannelSettings} {s : State}
    (h : x.zone.getD s.channels[c].zone ≠ s.channels[c].zone) (z : Zone) : z ∈ remappedZones c x s ↔
      s.channels[c].zone = some z ∨ x.zone.getD s.channels[c].zone = some z := by
  rw [remappedZones, if_neg h, List.mem_append, Option.mem_toList, Option.mem_toList]

theorem channelSet_handedOn (c : Channel) (x : ChannelSettings) (s : State) :
    ZonesRecomputed s (channelSet c x s) (fun z => z ∈ remappedZones c x s) ∧ ThermalHandedOn s (channelSet c x s) ∧
      AlertsGain s (channelSet c x s) fun _ => False := by
  have hsame : SameThermal s (s.modChannel c (storeChannel x)) := ⟨rfl, rfl, rfl, rfl⟩
  obtain ⟨hzones, hth, hal⟩ := rezone_handedOn hsame (remappedZones c x s)
  refine ⟨hzones, hth, fun a => (hal a).trans ?_⟩
  rw [false_or]
  rfl

/-! ### SET_ZONE and SET_CHANNEL (O38) -/

/-- Settles O38: the settings stored, then the zones recomputed and handed on. -/
theorem setZoneAndChannelStoreTheirSettings : Obligations.SetZoneAndChannelStoreTheirSettings := by
  refine ⟨zoneArgs_eq_some, channelArgs_eq_some, ?_⟩
  intro s cs u e items harrives hcs
  subst hcs
  have hthermal : SameThermal s (commandState s u e) := ⟨rfl, rfl, rfl, rfl⟩
  refine ⟨fun x hargs => ?_, fun c x hargs => ?_⟩
  · have hframe := zoneSet_frame x (commandState s u e)
    obtain ⟨hth, hal⟩ := zoneSet_handedOn x (commandState s u e)
    refine ⟨zoneSet x (commandState s u e), ?_, ?_, fun z hz => ?_, fun z hz => ?_, hth.congr hthermal, hal, ?_⟩
    · rw [exec_setZone_arrives s u e items harrives, cmdSetZone, withArgs_some hargs, setZone_eq]
      rfl
    · rw [hframe]
      rfl
    · rw [zoneSet_zoneTemp, hframe]
      exact storeZoneForm_zone hz (commandState s u e)
    · rw [hframe]
      exact storeZoneForm_zone_ne hz (commandState s u e)
    · rw [hframe]
  · have hchannel (d : Channel) := channelSet_channels c d x (commandState s u e)
    have hmap : (channelSet c x (commandState s u e)).channels[c].zone = x.zone.getD s.channels[c].zone := by
      rw [hchannel, if_pos rfl]
      rfl
    obtain ⟨hzones, hth, hal⟩ := channelSet_handedOn c x (commandState s u e)
    refine ⟨channelSet c x (commandState s u e), ?_, ?_, fun d hd => ?_, fun h => ?_, fun h z => ?_,
      hth.congr hthermal, hal, ?_⟩
    · rw [exec_setChannel_arrives s u e items harrives, cmdSetChannel, withArgs_some hargs, setChannel_eq]
      rfl
    · rw [hchannel, if_pos rfl]
      rfl
    · rw [hchannel, if_neg hd]
      rfl
    · rw [hmap] at h
      exact channelSet_sameMap (s := commandState s u e) h
    · rw [hmap] at h ⊢
      have hz := hzones z
      simp only [mem_remappedZones (s := commandState s u e) h] at hz
      exact hz
    · exact channelSet_frame c x (commandState s u e)

end Sys2Proof.Machine
end

section
/-! SUPPORT. Zones, override, targets, fan powers, F and held fans through every step (O56). -/

namespace Sys2Proof.Machine

/-! ### The own changes of the events -/

theorem ThermalCurrent.presenceExpiry {s : State} (hs : ThermalCurrent s) (i : Slot) :
    ThermalCurrent (presenceExpiry i s).state := by
  have htaken : SameHeat s (s.modAdm i takePresence) := .modAdm (.refl s) i _ fun _ => rfl
  unfold Machine.presenceExpiry
  dsimp only
  split
  next => exact hs.same htaken
  next =>
    split
    next =>
      split
      next => exact hs.same (.changeTrigger (.raise (.modInv (.moveTo htaken i .standbyWait) i _) _))
      next => exact hs.same htaken.changeTrigger
    next =>
      split
      next => exact hs.same htaken.changeTrigger
      next => exact (hs.removal i).changeTrigger

theorem ThermalCurrent.powerGoodExpiry {s : State} (hs : ThermalCurrent s) (i : Slot) :
    ThermalCurrent (powerGoodExpiry i s).state := by
  have htaken : SameHeat s (s.modRail i takePowerGood) := .modRail (.refl s) i _ fun _ => rfl
  unfold Machine.powerGoodExpiry
  dsimp only
  split
  next => exact hs.same htaken
  next =>
    split
    next =>
      dsimp only
      split
      next => exact hs.same (htaken.modRail i _ fun _ => rfl)
      next => exact hs.same htaken
    next =>
      split
      next => exact ((hs.same htaken).mainOff i .fault).raise _
      next => exact hs.same htaken

theorem SameHeat.drop {s t : State} (h : SameHeat s t) (p : Port) (r : DropReason) : SameHeat s (drop p r t) :=
  h.trans (.of_quiet (quiet_drop p r t))

/-- An ANNOUNCE gives no zone anything else, whatever its outcome (R7 to R13). -/
theorem takeAnnounce_heat (i : Slot) (b : AnnounceBody) (s : State) : SameHeat s (takeAnnounce i b s).state := by
  have hprio {t : State} (h : SameHeat s t) (g : AdmissionRule) : SameHeat s (applyPriority g i t) := by
    unfold applyPriority
    split
    next p _ => exact h.setPriority i p
    next => exact h
  have haction {t : State} (h : SameHeat s t) (g : AdmissionRule) : SameHeat s (applyAction g i t) := by
    unfold applyAction
    split
    next => exact (h.moveTo i .denied).raise _
    next =>
      split
      next => exact h
      next => exact h.moveTo i _
  unfold takeAnnounce
  split
  next => exact .drop (.refl s) _ _
  next =>
    split
    next => exact .drop (.refl s) _ _
    next =>
      split
      next =>
        refine SameHeat.offerControl (.refreshStations (.modAdm (haction (hprio ?_ _) _) i _ ?_) i _) i _
        · exact .modInv (.refl s) i _
        · exact fun _ => rfl
      next => exact .refreshStations (.modInv (.refl s) i _) i _

theorem recomputeCapacity_heat (s : State) : SameHeat s (recomputeCapacity s) := by
  rw [recomputeCapacity_eq]
  exact .of_eq rfl rfl ⟨rfl, rfl, rfl, rfl⟩

theorem ThermalCurrent.ownChange {s m : State} {cause : Bool} (hs : ThermalCurrent s) (h : OwnChange s m cause) :
    ThermalCurrent m := by
  cases h with
  | presence i _ => exact hs.presenceExpiry i
  | announceWindow i _ =>
    have hstopped : SameHeat s (s.modAdm i fun a => { a with announceWindow := .stopped }) :=
      .modAdm (.refl s) i _ fun _ => rfl
    unfold announceExpiry
    dsimp only
    split
    next => exact hs.same ((hstopped.moveTo i .unidentified).raise _)
    next => exact hs.same hstopped
  | uplinkComplete u f _ => exact hs.same (.of_quiet (quiet_uplinkComplete u f s))
  | slotComplete i f _ => exact hs.same (.of_quiet (quiet_slotComplete i f s))
  | holdEnd u => exact hs.same (.of_quiet (quiet_modUplink s u _))
  | pauseRefresh i => exact hs.same (.of_quiet (quiet_modQue s i _))
  | linkFall u => exact hs.same (.of_quiet (quiet_linkFall u s))
  | linkRise u => exact hs.same (.of_quiet (quiet_modUplink s u _))
  | bay b line =>
    have htaken : SameHeat s (s.modBay b (takeBayLine line)) := .of_eq rfl rfl ⟨rfl, rfl, rfl, rfl⟩
    unfold bayExpiry
    dsimp only
    split
    next => exact hs.same htaken
    next => exact hs.same (htaken.trans (recomputeCapacity_heat _)).changeTrigger
  | capAck i =>
    unfold capAckExpiry
    split
    next => exact (hs.mainOff i .powerWait).raise _
    next =>
      dsimp only
      exact hs.same (.modBud (.refl s) i _)
  | powerGood i _ => exact hs.powerGoodExpiry i
  | powerGoodTimer i =>
    unfold powerGoodTimeout
    split
    next => exact (hs.mainOff i .fault).raise _
    next =>
      dsimp only
      exact hs.same (.modRail (.refl s) i _ fun _ => rfl)
  | resetHold i =>
    unfold resetHoldEnd
    split
    next =>
      dsimp only
      exact hs.same (.modRail (.moveTo (.freeLane (.refl s) i) i .online) i _ fun _ => rfl)
    next =>
      dsimp only
      exact hs.same (.modRail (.refl s) i _ fun _ => rfl)
  | shutdown i =>
    unfold shutdownExpiry
    split
    next => exact (hs.mainOff i .standby).raise _
    next =>
      dsimp only
      exact hs.same (.modRail (.refl s) i _ fun _ => rfl)
  | stale i => exact hs.telemetry i _
  | conversion c code _ => exact hs.completeConversion c code
  | ramp f hr => exact hs.changeFan f rampStep ((hs.handedOn.fans f).rampStep hr)
  | spinUp f hr => exact hs.changeFan f endSpinUp ((hs.handedOn.fans f).endSpinUp hr)
  | tachGate => exact hs.gateExpiry
  | flow p opcode quanta => exact hs.same (.of_quiet (quiet_takeFlow p opcode quanta s))
  | malformed p => exact hs.same (.drop (.refl s) p .malformed)
  | announce i b => exact hs.same (takeAnnounce_heat i b s)
  | telemetry i l =>
    unfold takeTelemetry
    split
    next => exact hs.same (.drop (.refl s) _ _)
    next => exact hs.telemetry i _
  | ackCap i sequence =>
    unfold takeCapAck
    split
    next =>
      dsimp only
      exact hs.same (.modBud (.refl s) i _)
    next => exact hs
  | ackShutdown i =>
    unfold takeShutdownAck
    split
    next => exact hs.mainOff i .standby
    next => exact hs
  | upstream i h rx => exact hs.same (.of_quiet (quiet_upstream i h rx s))
  | downstream u h rx => exact hs.same (.of_quiet (quiet_downstream u h rx s))

theorem ThermalCurrent.plainMove {s t : State} (hs : ThermalCurrent s) (h : PlainMove s t) : ThermalCurrent t := by
  cases h with
  | none => exact hs
  | presenceLine i level _ => exact hs.same (.modAdm (.refl s) i _ fun _ => rfl)
  | bayLine b line level => exact hs.same (.of_eq rfl rfl ⟨rfl, rfl, rfl, rfl⟩)
  | powerGoodLine i level _ => exact hs.same (.modRail (.refl s) i _ fun _ => rfl)
  | period _ => exact hs.same (.of_eq rfl rfl ⟨rfl, rfl, rfl, rfl⟩)
  | startDelay _ => exact hs.same (.of_eq rfl rfl ⟨rfl, rfl, rfl, rfl⟩)
  | pulse f => exact hs.modFan f countPulse ((hs.handedOn.fans f).tach _ _) rfl
  | tooLong p => exact hs.same (.drop (.refl s) p .tooLong)

/-! ### The commands -/

/-- SET_SLOT recomputes the zone that the slot left and the one that it joined (R20). -/
theorem ThermalCurrent.setSlot {s : State} (hs : ThermalCurrent s) (i : Slot) (x : SlotSettings) :
    ThermalCurrent (setSlot i x s).state := by
  have hframe := slotStored_frame i x s
  have hslot (j : Slot) := slotStored_slot i x s j
  have hchannels : (slotStored i x s).channels = s.channels := by rw [hframe]
  rw [setSlot_eq]
  show ThermalCurrent (slotSet i x s)
  unfold slotSet
  split
  next hzone =>
    refine hs.same ⟨slotStored_sameThermal i x s, hchannels, fun j => ?_⟩
    rw [hslot, if_pos rfl] at hzone
    rw [hslot]
    split
    next hj => rw [hj]; exact Prod.ext hzone rfl
    next => rfl
  next =>
    refine hs.rezone (slotStored_sameThermal i x s) _ fun z hz => ⟨fun j => ?_, fun c => .inl (by rw [hchannels])⟩
    simp only [List.mem_cons, List.not_mem_nil, or_false, not_or] at hz
    obtain ⟨hleft, hjoined⟩ := hz
    by_cases hj : j = i
    · subst hj
      exact .inr ⟨Ne.symm hjoined, Ne.symm hleft⟩
    · exact .inl (by rw [hslot, if_neg hj])

theorem ThermalCurrent.setChannel {s : State} (hs : ThermalCurrent s) (c : Channel) (x : ChannelSettings) :
    ThermalCurrent (setChannel c x s).state := by
  have hchannel (d : Channel) := State.channels_modChannel s c d (storeChannel x)
  rw [setChannel_eq]
  refine hs.rezone (t := s.modChannel c (storeChannel x)) ⟨rfl, rfl, rfl, rfl⟩ _ fun z hz =>
    ⟨fun _ => .inl rfl, fun d => ?_⟩
  rw [hchannel]
  split
  next hd =>
    rw [hd]
    by_cases hmap : x.zone.getD s.channels[c].zone = s.channels[c].zone
    · exact .inl (Prod.ext hmap rfl)
    · rw [mem_remappedZones hmap, not_or] at hz
      exact .inr ⟨hz.2, hz.1⟩
  next => exact .inl rfl

/-- SET_ZONE hands on the settings and the temperature that it stores (R102, R105). -/
theorem ThermalCurrent.setZone {s : State} (hs : ThermalCurrent s) {items : List Item} {x : ZoneSettings}
    (hx : zoneArgs items = some x) : ThermalCurrent (setZone x s).state := by
  obtain ⟨zones, hstored⟩ := zoneStored_frame x s
  obtain ⟨zones', hform⟩ := storeZoneForm_frame x s
  obtain ⟨hfans, hsum⟩ := hs.handedOn.propagate (t := zoneStored x s) hs.reservation (by rw [hstored]) (by rw [hstored])
    (by rw [hstored]) (by rw [hstored]; exact zoneArgs_hysteresis hx hs.handedOn.override.1)
  refine ⟨fun z => ?_, hfans, hsum⟩
  show (zoneSet x s).zones[z].temp = zoneTemp (zoneSet x s) z
  rw [zoneSet_zoneTemp, zoneSet_frame]
  have hkept (hsub : (storeZoneForm x s).zones[z].substitute = s.zones[z].substitute) :
      zoneTemp (storeZoneForm x s) z = s.zones[z].temp := by
    rw [hs.zones z]
    exact zoneTemp_congr (by rw [hform]) (by rw [hform]) z hsub
  by_cases hz : x.zone = some z
  · have hzone := storeZoneForm_zone hz s
    rw [hzone] at hkept ⊢
    dsimp only
    split
    next hsub => rw [hkept hsub]
    next => rfl
  · have hzone := storeZoneForm_zone_ne hz s
    rw [hzone] at hkept ⊢
    rw [hkept rfl]

theorem ThermalCurrent.setFan {s : State} (hs : ThermalCurrent s) (f : Fan) (x : FanSettings) :
    ThermalCurrent (setFan f x s).state := by
  unfold Machine.setFan answerOk
  dsimp only
  split
  next => exact hs
  next => exact hs.changeFan f _ (settled_current rfl (hs.handedOn.fans f).spinning)

/-- SET_FAN_DUTY moves the fan in MANUAL alone (R114). -/
theorem ThermalCurrent.setFanDuty {s : State} (hs : ThermalCurrent s) (f : Fan) (d : Nat) :
    ThermalCurrent (setFanDuty f d s).state := by
  have hfan := hs.handedOn.fans f
  unfold Machine.setFanDuty answerOk
  dsimp only
  split
  next =>
    have hstored (g : Fan) := State.fans_modFan s f g fun r => { r with manual := d }
    have hother {g : Fan} (hg : g ≠ f) :
        FanCurrent s.thermal.overrideOn s.zones (s.modFan f fun r => { r with manual := d }).fans[g] := by
      rw [hstored, if_neg hg]
      exact hs.handedOn.fans g
    unfold retarget
    dsimp only
    split
    next ht =>
      rw [hstored, if_pos rfl] at ht
      have hcurrent := hs.modFan f (fun r => { r with manual := d }) ⟨ht.symm, hfan.power, hfan.held⟩ rfl
      exact hcurrent.updated hcurrent.handedOn rfl rfl rfl
    next =>
      refine hs.updated ⟨hs.handedOn.override, fun g => ?_⟩ rfl rfl rfl
      rw [changeFan_fans]
      split
      next => exact settled_current rfl (by rw [hstored, if_pos rfl]; exact hfan.spinning)
      next hg => exact hother hg
  next hmode =>
    refine hs.modFan f _ ⟨?_, hfan.power, hfan.held⟩ rfl
    rw [targetOf_manual, if_neg hmode]
    exact hfan.target

theorem setSupply_heat (x : SupplySettings) (s : State) : SameHeat s (setSupply x s).state := by
  by_cases h : x.lanes = none ∨ s.budget.lanesInUse = 0
  · rw [setSupply_eq h]
    show SameHeat s (supplySet x s)
    rw [supplySet_frame]
    exact .of_eq rfl rfl ⟨rfl, rfl, rfl, rfl⟩
  · have hbusy : x.lanes.isSome = true ∧ 0 < s.budget.lanesInUse := by
      rwa [not_or, ← ne_eq, ← Option.isSome_iff_ne_none, ← ne_eq, ← Nat.pos_iff_ne_zero] at h
    rw [setSupply, if_pos hbusy]
    exact .refl s

theorem setUplink_heat (a : UplinkArgs) (s : State) : SameHeat s (setUplink a s).state := by
  unfold setUplink
  split
  next u management segment =>
    unfold setUplinkForm
    split
    next => exact .refl s
    next => exact .of_quiet (quiet_modUplink s u _)
  next =>
    unfold setChassisForm
    dsimp only
    split <;> exact .of_eq rfl rfl ⟨rfl, rfl, rfl, rfl⟩

theorem ThermalCurrent.slotPowerOff {s : State} (hs : ThermalCurrent s) (i : Slot) (form : ShutdownForm) :
    ThermalCurrent (slotPowerOff i form s).state := by
  have hframe := beginShutdown_frame i form s
  have hdown : ThermalCurrent (beginShutdown i form s) := by
    refine hs.same (.of_slot ?_ (by rw [hframe]) (beginShutdown_slot i · form s) rfl)
    rw [hframe]
    exact ⟨rfl, rfl, rfl, rfl⟩
  unfold Machine.slotPowerOff
  split
  case h_1 => exact hdown
  case h_2 => exact hdown
  case h_5 => exact hs.mainOff i .standby
  case h_6 => exact hs.same (.moveTo (.refl s) i .standby)
  all_goals exact hs

theorem ThermalCurrent.slotKill {s : State} (hs : ThermalCurrent s) (i : Slot) :
    ThermalCurrent (slotKill i s).state := by
  have hoff := hs.mainOff i .standby
  unfold Machine.slotKill
  split
  case h_1 => exact hoff
  case h_2 => exact hoff
  case h_3 => exact hoff
  case h_4 => exact hoff
  all_goals exact hs

/-- A manager's admission and release are state changes (R18, R19). -/
theorem slotAdmit_heat (i : Slot) (pair : PowerPair) (s : State) : SameHeat s (slotAdmit i pair s).state := by
  unfold slotAdmit
  split
  next => exact .offerControl (.moveTo (.modInv (.refl s) i _) i _) i _
  next => exact .refl s

theorem slotRelease_heat (i : Slot) (s : State) : SameHeat s (slotRelease i s).state := by
  unfold slotRelease
  split
  next => exact .moveTo (.refl s) i _
  next =>
    dsimp only [answerOk]
    exact .modAdm (.moveTo (.refl s) i .announceWait) i _ fun _ => rfl
  all_goals exact .refl s

theorem ThermalCurrent.commandChange {s m : State} {items : List Item} (hs : ThermalCurrent s)
    (h : CommandChange s items m) : ThermalCurrent m := by
  have hsame {t : State} (hslots : t.slots = s.slots) (hchannels : t.channels = s.channels) (ht : SameThermal s t) :
      ThermalCurrent t := hs.same (.of_eq hslots hchannels ht)
  cases h with
  | none => exact hs
  | setSlot i x _ => exact hs.setSlot i x
  | setSupply x _ => exact hs.same (setSupply_heat x s)
  | setTiming x _ =>
    unfold Machine.setTiming
    split <;> exact hsame rfl rfl ⟨rfl, rfl, rfl, rfl⟩
  | setZone x hx => exact hs.setZone hx
  | setFan f x _ => exact hs.setFan f x
  | setFanCurve f c _ => exact hs.changeFan f _ ((hs.handedOn.fans f).curve c)
  | setFanDuty f d _ => exact hs.setFanDuty f d
  | setChannel c x _ => exact hs.setChannel c x
  | setUplink a _ => exact hs.same (setUplink_heat a s)
  | setQueue a _ => exact hs.same (.of_quiet (quiet_setQueueLimits a s))
  | loadSegment g _ =>
    unfold Machine.loadSegment
    split <;> exact hsame rfl rfl ⟨rfl, rfl, rfl, rfl⟩
  | deleteSegment id _ =>
    unfold Machine.deleteSegment
    split <;> exact hsame rfl rfl ⟨rfl, rfl, rfl, rfl⟩
  | loadAdmission k g _ =>
    unfold Machine.loadAdmission
    split
    next => exact hsame rfl rfl ⟨rfl, rfl, rfl, rfl⟩
    next =>
      dsimp only
      split <;> exact hsame rfl rfl ⟨rfl, rfl, rfl, rfl⟩
  | deleteAdmission k _ =>
    unfold Machine.deleteAdmission
    split
    next => exact hsame rfl rfl ⟨rfl, rfl, rfl, rfl⟩
    next => split <;> exact hsame rfl rfl ⟨rfl, rfl, rfl, rfl⟩
  | slotPowerOn i _ =>
    unfold slotPowerOn
    split
    next => exact hs.same (.moveTo (.refl s) i .powerWait)
    all_goals exact hs
  | slotPowerOff i form _ => exact hs.slotPowerOff i form
  | slotKill i _ => exact hs.slotKill i
  | slotAdmit i pair _ => exact hs.same (slotAdmit_heat i pair s)
  | slotRelease i _ => exact hs.same (slotRelease_heat i s)
  | inject i o _ => exact hs.same (.of_quiet (quiet_injectFrame i o s))
  | restart =>
    have hqueues := SameHeat.of_quiet (quiet_restartQueues s)
    unfold Machine.restart answerOk
    generalize restartQueues s = t at hqueues ⊢
    exact hs.same (hqueues.trans (.of_eq rfl rfl ⟨rfl, rfl, rfl, rfl⟩))
  | _ => exact hsame rfl rfl ⟨rfl, rfl, rfl, rfl⟩

/-! ### The evaluation and the reset -/

/-- A slot that holds standby alone contributes nothing, before a cut and after it (R62, R75, R94, R103). -/
theorem cutRecord_heat {r : SlotRecord} (h : SlotConsistent r) (hst : isStandbyOnly r = true) :
    heatRecord (cutRecord r) = heatRecord r := by
  obtain ⟨⟨-, hmain, -⟩, -, -⟩ := h
  rw [isStandbyOnly, Bool.and_eq_true, Bool.not_eq_true'] at hst
  rw [hst.2] at hmain
  have hoff {q : SlotRecord} (hq : q.rail.mainRail = false) : slotContribution q = fun _ => none := by
    funext x
    rw [slotContribution, hq]
    rfl
  have hcut : (cutRecord r).rail.mainRail = false := hmain
  exact Prod.ext rfl ((hoff hcut).trans (hoff hmain).symm)

theorem ThermalCurrent.standbyCut {s : State} (hs : ThermalCurrent s) {i : Slot} (h : SlotConsistent (s.slot i))
    (hst : isStandbyOnly (s.slot i) = true) : ThermalCurrent (standbyCut i s) := by
  have hframe := standbyCut_eq i s
  refine hs.same (.of_slot ?_ (by rw [hframe]) (standbyCut_slot i · s) (cutRecord_heat h hst))
  rw [hframe]
  exact ⟨rfl, rfl, rfl, rfl⟩

/-- A cap, an uncap and a standby grant leave the rails that are on (R59, R65, R53). -/
theorem capSlot_heat (i : Slot) (s : State) : SameHeat s (capSlot i s) := by
  have hframe := capSlot_eq i s
  refine .of_slot ?_ (by rw [hframe]) (capSlot_slot i · s) rfl
  rw [hframe]
  exact ⟨rfl, rfl, rfl, rfl⟩

theorem uncapSlot_heat (i : Slot) (s : State) : SameHeat s (uncapSlot i s) := by
  have hframe := uncapSlot_eq i s
  refine .of_slot ?_ (by rw [hframe]) (uncapSlot_slot i · s) rfl
  rw [hframe]
  exact ⟨rfl, rfl, rfl, rfl⟩

theorem grantStandby_heat (i : Slot) (s : State) : SameHeat s (grantStandby i s) :=
  .modSlot (.moveTo (.refl s) i .announceWait) i _ rfl

theorem markShort_heat (s : State) : SameHeat s (markShort s) := by
  unfold markShort
  split
  next => exact .refl s
  next =>
    split
    next =>
      refine .raise ?_ _
      exact .of_eq rfl rfl ⟨rfl, rfl, rfl, rfl⟩
    next => exact .refl s

/-- The actions of an evaluation; the power invariants say that a slot that is cut has its main rail off. -/
theorem thermalCurrent_evaluation : KeptByEvaluation fun s => PowerInv False s ∧ ThermalCurrent s :=
  have K := (powerInv_kept False).evaluation
  { cap := fun i s ⟨hp, hs⟩ h => ⟨K.cap i s hp h, hs.same (capSlot_heat i s)⟩
    powerOff := fun i s ⟨hp, hs⟩ h => ⟨K.powerOff i s hp h, (hs.mainOff i .powerWait).raise _⟩
    standbyCut := fun i s ⟨hp, hs⟩ h => ⟨K.standbyCut i s hp h, hs.standbyCut (hp.slot i) h⟩
    uncap := fun i s ⟨hp, hs⟩ h => ⟨K.uncap i s hp h, hs.same (uncapSlot_heat i s)⟩
    grantStandby := fun e rest s ⟨hp, hs⟩ hq hk h =>
      ⟨K.grantStandby e rest s hp hq hk h, hs.same (grantStandby_heat e.slot s)⟩
    grantMain := fun e rest s ⟨hp, hs⟩ hq hk h => ⟨K.grantMain e rest s hp hq hk h, hs.grantMain e.slot⟩
    short := fun s ⟨hp, hs⟩ => ⟨K.short s hp, hs.same (markShort_heat s)⟩ }

theorem afterReset_heat (straps : Byte) (s : State) : SameHeat State.reset (afterReset straps s) where
  thermal := ⟨rfl, rfl, rfl, rfl⟩
  channels := rfl
  slots i := by
    rw [afterReset_slot]
    rfl

/-- The thermal state is kept with the power invariants, by every event. -/
theorem thermalCurrent_kept : QuietInvariant fun s => PowerInv False s ∧ ThermalCurrent s :=
  have K := powerInv_kept False
  { quiet := fun h ⟨hp, hs⟩ => ⟨K.move hp (.same _ (.of_quiet h.symm)), hs.same (.of_quiet h.symm)⟩
    pending := fun _ _ ⟨hp, hs⟩ => ⟨hp, hs.same (.of_eq rfl rfl ⟨rfl, rfl, rfl, rfl⟩)⟩
    reset := fun straps s =>
      ⟨K.reset straps s, ((thermalCurrent_iff _).mpr reset_thermal).same (afterReset_heat straps s)⟩
    plain := fun _ _ ⟨hp, hs⟩ h => ⟨K.moves hp h.moves, hs.plainMove h⟩
    own := fun _ _ _ ⟨hp, hs⟩ h => ⟨K.moves hp h.moves, hs.ownChange h⟩
    command := fun _ _ _ ⟨hp, hs⟩ h => ⟨K.moves hp h.moves, hs.commandChange h⟩
    evaluation := thermalCurrent_evaluation }

/-- Settles O56: the thermal state is kept by every event and by each action of an evaluation. -/
theorem everyStepKeepsTheThermalState : Obligations.EveryStepKeepsTheThermalState := by
  intro s t hp hzones hoverride htargets hpowers hfans hstep
  have hs := (thermalCurrent_iff s).mpr ⟨hzones, hoverride, htargets, hpowers, hfans⟩
  exact (thermalCurrent_iff t).mp (thermalCurrent_kept.keptAtEnds.step ⟨⟨hp, False.elim⟩, hs⟩ hstep).2

end Sys2Proof.Machine
end

section
/-! SUPPORT. What contributes to a zone (O16), the stale timer's expiry (O16), and TELEMETRY (O26). -/

namespace Sys2Proof.Machine

/-! ### The contribution of a slot (R103) -/

theorem slotContribution_off {r : SlotRecord} (h : r.rail.mainRail = false) (x : Int) :
    slotContribution r x = none := by
  rw [slotContribution, h]
  rfl

/-- A slot with its main rail on: its substitute while it is stale or unread, else its largest reading. -/
theorem slotContribution_on {r : SlotRecord} (h : r.rail.mainRail = true) (x : Int) : slotContribution r x =
    if r.tel.stale = true then some x else some ((largest (validReadings r.tel)).getD x) := by
  rw [slotContribution, if_pos h]
  cases largest (validReadings r.tel) <;> rfl

theorem largest_validReadings_eq_none (t : TelemetryPart) :
    largest (validReadings t) = none ↔ ∀ k : Channel, t.readings[k] = none := by
  rw [largest_eq_none, List.eq_nil_iff_forall_not_mem]
  simp only [mem_validReadings, not_exists]
  rw [forall_comm]
  exact forall_congr' fun k => Option.eq_none_iff_forall_ne_some.symm

theorem largest_validReadings_eq_some (t : TelemetryPart) (v : Int) : largest (validReadings t) = some v ↔
    (∃ k : Channel, t.readings[k] = some v) ∧ ∀ (k : Channel) (w : Int), t.readings[k] = some w → w ≤ v := by
  rw [largest_eq_some, mem_validReadings]
  refine and_congr_right fun _ => ⟨fun h k w hk => h w ((mem_validReadings t w).mpr ⟨k, hk⟩), fun h w hw => ?_⟩
  obtain ⟨k, hk⟩ := (mem_validReadings t w).mp hw
  exact h k w hk

theorem slotContribution_substitute {r : SlotRecord} (hon : r.rail.mainRail = true)
    (h : r.tel.stale = true ∨ ∀ k : Channel, r.tel.readings[k] = none) (x : Int) : slotContribution r x = some x := by
  rw [slotContribution_on hon]
  split
  next => rfl
  next hfresh => rw [(largest_validReadings_eq_none r.tel).mpr (h.resolve_left hfresh), Option.getD_none]

theorem slotContribution_fresh {r : SlotRecord} (hon : r.rail.mainRail = true) (hfresh : r.tel.stale = false)
    (h : ∃ k : Channel, r.tel.readings[k] ≠ none) (x v : Int) : slotContribution r x = some v ↔
      (∃ k : Channel, r.tel.readings[k] = some v) ∧ ∀ (k : Channel) (w : Int), r.tel.readings[k] = some w → w ≤ v := by
  rw [slotContribution_on hon, if_neg (by rw [hfresh]; exact Bool.false_ne_true), ← largest_validReadings_eq_some]
  cases hl : largest (validReadings r.tel) with
  | none =>
    obtain ⟨k, hk⟩ := h
    exact absurd ((largest_validReadings_eq_none r.tel).mp hl k) hk
  | some w => rfl

/-! ### The contributions and the temperature of a zone (R103, R104) -/

theorem mem_allChannels : ∀ c : Channel, c ∈ allChannels := by decide

theorem mem_contributions (s : State) (z : Zone) (t : Int) : t ∈ contributions s z ↔
    (∃ i : Slot, (s.slot i).adm.zone = z ∧ slotContribution (s.slot i) s.zones[z].substitute = some t) ∨
      ∃ c : Channel, s.channels[c].zone = some z ∧ s.channels[c].result = some t := by
  simp only [contributions, List.mem_append, List.mem_filterMap, mem_allSlots, mem_allChannels, true_and,
    Option.ite_none_right_eq_some]

theorem zoneTemp_largest {s : State} {z : Zone} (h : contributions s z ≠ []) :
    zoneTemp s z ∈ contributions s z ∧ ∀ t ∈ contributions s z, t ≤ zoneTemp s z := by
  cases hl : largest (contributions s z) with
  | none => exact absurd ((largest_eq_none _).mp hl) h
  | some t =>
    have ht : zoneTemp s z = t := by rw [zoneTemp, hl]
    rw [ht]
    exact (largest_eq_some _ t).mp hl

theorem zoneTemp_empty {s : State} {z : Zone} (h : contributions s z = []) : zoneTemp s z = s.zones[z].substitute := by
  rw [zoneTemp, h]
  rfl

/-! ### A change of a slot's cache (R92, R93) -/

/-- A slot's cache changed and its zone recomputed. -/
def cacheSet (i : Slot) (f : TelemetryPart → TelemetryPart) (s : State) : State := rezoneSlot i (s.modTel i f)

theorem cacheSet_slot (i : Slot) (f : TelemetryPart → TelemetryPart) (s : State) :
    (cacheSet i f s).slot i = { s.slot i with tel := f (s.slot i).tel } := by
  rw [cacheSet, rezoneSlot_slot, State.modTel_eq, State.slot_modSlot_same]

theorem cacheSet_slot_ne {i j : Slot} (h : j ≠ i) (f : TelemetryPart → TelemetryPart) (s : State) :
    (cacheSet i f s).slot j = s.slot j := by
  rw [cacheSet, rezoneSlot_slot, State.modTel_eq, State.slot_modSlot_ne _ _ h]

theorem cacheSet_frame (i : Slot) (f : TelemetryPart → TelemetryPart) (s : State) : cacheSet i f s =
    { s with
      slots := (cacheSet i f s).slots, zones := (cacheSet i f s).zones
      thermal := { s.thermal with overrideOn := (cacheSet i f s).thermal.overrideOn }
      fans := (cacheSet i f s).fans, fanReservation := (cacheSet i f s).fanReservation
      mgmt := { s.mgmt with alerts := (cacheSet i f s).mgmt.alerts } } := by
  obtain ⟨z, fs, b, F, al, h⟩ := rezoneSlot_frame i (s.modTel i f)
  rw [cacheSet, h]
  rfl

theorem cacheSet_handedOn (i : Slot) (f : TelemetryPart → TelemetryPart) (s : State) :
    ZonesRecomputed s (cacheSet i f s) (fun z => z = (s.slot i).adm.zone) ∧ ThermalHandedOn s (cacheSet i f s) ∧
      AlertsGain s (cacheSet i f s) fun _ => False := by
  have hsame : SameThermal s (s.modTel i f) := ⟨rfl, rfl, rfl, rfl⟩
  obtain ⟨hz, hth, hal⟩ := rezoneSlot_handedOn hsame (i := i) (by rw [State.modTel_eq, State.slot_modSlot_same])
  refine ⟨hz, hth, fun a => (hal a).trans ?_⟩
  rw [false_or]
  rfl

/-! ### The stale timer's expiry (R93) -/

theorem exec_staleTimerExpiry {i : Slot} {s : State} (h : (s.slot i).tel.staleTimer.isRunning = true) :
    exec (.staleTimerExpiry i) s =
      .next (close s (cacheSet i (fun t => { t with stale := true, staleTimer := .stopped }) s) false) :=
  congrArg Host.Outcome.next (if_pos h)

/-- Settles O16: a cache marked stale, then the contributions and the temperature that follow from it. -/
theorem staleExpirySubstitutes : Obligations.StaleExpirySubstitutes := by
  refine ⟨fun i s hrun => ?_, fun r x => ⟨?_, ?_, ?_⟩,
    fun s z => ⟨mem_contributions s z, zoneTemp_largest, zoneTemp_empty⟩⟩
  · obtain ⟨hz, hth, hal⟩ := cacheSet_handedOn i (fun t => { t with stale := true, staleTimer := .stopped }) s
    exact ⟨_, exec_staleTimerExpiry hrun, cacheSet_slot i _ s, fun j hj => cacheSet_slot_ne hj _ s, hz, hth, hal,
      cacheSet_frame i _ s⟩
  · exact fun h => slotContribution_off h x
  · exact fun hon h => slotContribution_substitute hon h x
  · exact fun hon hfresh h v => slotContribution_fresh hon hfresh h x v

/-! ### TELEMETRY bodies read back (R178) -/

theorem telemetryIn_octets (l : List TelemetryItem) :
    telemetryIn l.length (l.flatMap fun t => [t.sensor, t.reading]) = l := by
  induction l with
  | nil => rfl
  | cons t l ih => exact congrArg (t :: ·) ih

theorem telemetryOctets_length (l : List TelemetryItem) : (telemetryOctets l).length = 1 + 2 * l.length := by
  rw [telemetryOctets, List.length_append, List.length_flatMap]
  simp [Nat.mul_comm]

/-- A TELEMETRY that arrives is handed to the Sensor Unit (R92, R130). -/
theorem exec_telemetry_arrives (i : Slot) (e : Envelope) (l : List TelemetryItem) (s : State) (hn : l.length < 256)
    (h : ControlArrives s e (1 + 2 * l.length)) :
    exec (.telemetry i e l) s = .next (close (countReceived (.slot i) s)
      (takeTelemetry i l (countReceived (.slot i) s)).state (takeTelemetry i l (countReceived (.slot i) s)).cause) := by
  have hlen := telemetryOctets_length l
  have hcount : octetAt (telemetryOctets l) 0 = octet l.length := rfl
  have hitems : (telemetryOctets l).drop 1 = l.flatMap fun t => [t.sensor, t.reading] := rfl
  show Host.Outcome.next (receive (.slot i) (composeControl e kindTelemetry (telemetryOctets l)) s) = _
  rw [receive_control s (.slot i) e kindTelemetry (telemetryOctets l) (by rw [hlen]; exact h)]
  have hclass : bodyClass s (.slot i) kindTelemetry e.sequence e.source (telemetryOctets l) = .telemetry i l := by
    rw [bodyClass, if_neg (by decide), if_pos rfl, hcount, octet_toNat hn, hlen, if_pos ⟨by omega, rfl⟩, hitems,
      telemetryIn_octets]
  rw [hclass]
  rfl

/-! ### The cache of a slot (R92) -/

theorem readingOf_eq (b : Byte) : readingOf b = if b = 0x80#8 then none else some b.toInt := by
  rw [readingOf]
  exact if_congr (toInt_eq_lowest_iff b) rfl rfl

theorem storeReading_readings (t : TelemetryPart) (it : TelemetryItem) (k : Channel) :
    (storeReading t it).readings[k] = if it.sensor.toNat = k.val then readingOf it.reading else t.readings[k] := by
  unfold storeReading
  split
  next => simp only [Fin.getElem_fin, Vector.getElem_set]
  next h => rw [if_neg fun e => h (by rw [e]; exact k.isLt)]

/-- Each index takes its last item (R92). -/
theorem foldl_storeReading (l : List TelemetryItem) (t : TelemetryPart) (k : Channel) :
    (l.foldl storeReading t).readings[k] =
      match l.reverse.find? (fun it => decide (it.sensor.toNat = k.val)) with
      | some it => if it.reading = 0x80#8 then none else some it.reading.toInt
      | none => t.readings[k] := by
  induction l using List.reverseRecOn with
  | nil => rfl
  | append_singleton l it ih =>
    rw [List.foldl_append, List.foldl_cons, List.foldl_nil, storeReading_readings, List.reverse_append,
      List.reverse_singleton, List.singleton_append, List.find?_cons]
    split
    next h => simp only [h, decide_true, readingOf_eq]
    next h => simp only [h, decide_false, ih]

/-- The cache with the items stored, no longer stale, its stale timer started with `length` (R92). -/
def takeItems (l : List TelemetryItem) (length : Nat) (t : TelemetryPart) : TelemetryPart :=
  { l.foldl storeReading t with stale := false, staleTimer := .running length }

theorem takeTelemetry_dropped {i : Slot} {s : State} (h : s.slotState i = .empty ∨ s.slotState i = .standbyWait)
    (l : List TelemetryItem) : takeTelemetry i l s = { state := drop (.slot i) .notOnline s, cause := false } := by
  rw [takeTelemetry, if_pos h]

theorem takeTelemetry_stored {i : Slot} {s : State} (h : ¬(s.slotState i = .empty ∨ s.slotState i = .standbyWait))
    (l : List TelemetryItem) :
    takeTelemetry i l s = { state := cacheSet i (takeItems l (s.timing.staleS * 1000)) s, cause := false } := by
  rw [takeTelemetry, if_neg h]
  rfl

/-- Settles O26: a TELEMETRY that is not dropped is a change of its slot's cache. -/
theorem telemetryFillsTheCache : Obligations.TelemetryFillsTheCache := by
  intro i e l s r hn harrives hr
  have hexec := exec_telemetry_arrives i e l s hn harrives
  rw [← hr] at hexec
  have hthermal : SameThermal s r := by rw [hr]; exact ⟨rfl, rfl, rfl, rfl⟩
  have hslots : r.slots = s.slots := by rw [hr]; rfl
  have htiming : r.timing = s.timing := by rw [hr]; rfl
  have hmgmt : r.mgmt = s.mgmt := by rw [hr]; rfl
  have hslot : ∀ j, r.slot j = s.slot j := fun j => by rw [State.slot, hslots]; rfl
  have hstate : r.slotState i = s.slotState i := congrArg (·.adm.state) (hslot i)
  refine ⟨fun hoff => ?_, fun hempty hwait => ?_⟩
  · rw [hexec, takeTelemetry_dropped (by rw [hstate]; exact hoff)]
  · rw [takeTelemetry_stored (by rw [hstate]; exact not_or.mpr ⟨hempty, hwait⟩), htiming] at hexec
    have hcache := cacheSet_slot i (takeItems l (s.timing.staleS * 1000)) r
    rw [hslot i] at hcache
    obtain ⟨hz, hth, hal⟩ := cacheSet_handedOn i (takeItems l (s.timing.staleS * 1000)) r
    refine ⟨_, hexec, fun k => ?_, ?_, fun j hj => ?_, ?_, hth.congr hthermal, ?_, ?_⟩
    · rw [hcache]
      exact foldl_storeReading l _ k
    · rw [hcache]
      rfl
    · rw [cacheSet_slot_ne hj, hslot j]
    · rw [ZonesRecomputed, ← hthermal.zones, ← hslot i]
      exact hz
    · rw [AlertsGain, ← hmgmt, ← hthermal.thermal]
      exact hal
    · have hframe := cacheSet_frame i (takeItems l (s.timing.staleS * 1000)) r
      rw [hmgmt, hthermal.thermal] at hframe
      exact hframe

end Sys2Proof.Machine
end

section
/-! SUPPORT. The triggers of the sweep engine (O18), and SET_SWEEP, START_SWEEP and STOP_SWEEP (O40). -/

namespace Sys2Proof.Machine

/-! ### Triggers (R96, R97, R98) -/

theorem armedTimer_eq (c : SweepSettings) :
    armedTimer c = if c.select = .period then .running c.period else .stopped := by
  rw [armedTimer]
  cases c.select <;> rfl

theorem triggerSweep_idle {w : Sweep} (he : w.engine = .idle) (hs : w.staged = none) :
    triggerSweep w = { w with engine := .starting } := by
  rw [triggerSweep, he, hs]

theorem triggerSweep_staged {w : Sweep} {c : SweepSettings} (he : w.engine = .idle) (hs : w.staged = some c) :
    triggerSweep w = { w with
      engine := .starting, current := c, staged := none
      periodTimer := if c.select = .period then .running c.period else .stopped } := by
  rw [triggerSweep, he, hs, ← armedTimer_eq]

theorem triggerSweep_missed {w : Sweep} (he : w.engine ≠ .idle) :
    triggerSweep w = { w with missed := w.missed + 1 } := by
  rw [triggerSweep]
  cases hw : w.engine with
  | idle => exact absurd hw he
  | starting | converting c => rfl

theorem changeTrigger_of_ne {s : State} (h : s.sweep.current.select ≠ .change) : changeTrigger s = s := by
  rw [changeTrigger]
  cases hs : s.sweep.current.select with
  | change => exact absurd hs h
  | command | period => rfl

theorem changeTrigger_change {s : State} (h : s.sweep.current.select = .change) :
    changeTrigger s = { s with sweep := triggerSweep s.sweep } := by
  rw [changeTrigger, h]

/-! ### The period timer (R97, R98) -/

theorem exec_periodTimerExpiry {s : State} (h : s.sweep.periodTimer.isRunning = true) :
    exec .periodTimerExpiry s = .next { s with sweep := periodExpiry s.sweep } :=
  congrArg Host.Outcome.next (if_pos h)

/-- A trigger under PERIOD that arms the timer itself leaves it as it armed it (log 14). -/
theorem periodExpiry_staged {w : Sweep} {c : SweepSettings} (hp : w.current.select = .period) (he : w.engine = .idle)
    (hs : w.staged = some c) : periodExpiry w = { w with
      engine := .starting, current := c, staged := none
      periodTimer := if c.select = .period then .running c.period else .stopped } := by
  rw [periodExpiry, hp]
  dsimp only
  rw [if_pos ⟨he, by rw [hs]; rfl⟩, triggerSweep_staged (w := { w with periodTimer := .stopped }) he hs]

/-- Any other trigger under PERIOD keeps the settings: REPEAT starts the timer again, SINGLE does not (R98). -/
theorem periodExpiry_unstaged {w : Sweep} {g : Engine} {n : Word32} (hp : w.current.select = .period)
    (hs : ¬(w.engine = .idle ∧ w.staged.isSome = true))
    (htrigger : triggerSweep { w with periodTimer := .stopped } =
      { w with engine := g, missed := n, periodTimer := .stopped }) :
    periodExpiry w = { w with
      engine := g, missed := n
      periodTimer := if w.current.mode = .repeating then .running w.current.period else .stopped } := by
  rw [periodExpiry, hp]
  dsimp only
  rw [if_neg hs, htrigger]
  cases hm : w.current.mode <;> rfl

theorem periodExpiry_idle {w : Sweep} (hp : w.current.select = .period) (he : w.engine = .idle)
    (hs : w.staged = none) : periodExpiry w = { w with
      engine := .starting
      periodTimer := if w.current.mode = .repeating then .running w.current.period else .stopped } :=
  periodExpiry_unstaged hp (by rw [hs]; exact fun h => Bool.false_ne_true h.2)
    (triggerSweep_idle (w := { w with periodTimer := .stopped }) he hs)

theorem periodExpiry_missed {w : Sweep} (hp : w.current.select = .period) (he : w.engine ≠ .idle) :
    periodExpiry w = { w with
      missed := w.missed + 1
      periodTimer := if w.current.mode = .repeating then .running w.current.period else .stopped } :=
  periodExpiry_unstaged hp (fun h => he h.1) (triggerSweep_missed (w := { w with periodTimer := .stopped }) he)

/-! ### The end of STARTING (R96) -/

theorem exec_startDelayEnd {s : State} (h : s.sweep.engine = .starting) : exec .startDelayEnd s =
    .next { s with sweep := { s.sweep with engine := (advanceEngine s.sweep 0).engine } } := by
  show execStartDelayEnd s = _
  rw [execStartDelayEnd, h]
  rfl

theorem firstChannel_eq_some {mask : BitVec 8} {c : Channel} : nextChannel mask 0 = some c ↔
    mask.getLsbD c.val = true ∧ ∀ d : Channel, d < c → mask.getLsbD d.val = false := by
  rw [nextChannel_eq, Fin.find?_eq_some_iff]
  simp only [Nat.zero_le, decide_true, Bool.true_and]

theorem firstChannel_eq_none {mask : BitVec 8} : nextChannel mask 0 = none ↔ mask = 0 := by
  rw [nextChannel_eq, Fin.find?_eq_none_iff]
  simp only [Nat.zero_le, decide_true, Bool.true_and]
  constructor
  · exact fun h => BitVec.eq_of_getLsbD_eq fun i hi => by
      rw [h ⟨i, hi⟩]
      exact BitVec.getLsbD_zero.symm
  · rintro rfl c
    exact BitVec.getLsbD_zero

/-- Settles O18: each timer and line change as the trigger it gives, the start delay as the first enabled channel. -/
theorem sweepTimersDriveTheEngine : Obligations.SweepTimersDriveTheEngine := by
  refine ⟨fun s => ⟨fun hrun hp => ?_, fun he => ?_⟩, fun s => ⟨changeTrigger_of_ne, fun hc => ?_⟩⟩
  · rw [exec_periodTimerExpiry hrun]
    refine ⟨fun he hs => ?_, fun w he hs => ?_, fun he => ?_⟩
    · rw [periodExpiry_idle hp he hs]
    · rw [periodExpiry_staged hp he hs]
    · rw [periodExpiry_missed hp he]
  · exact ⟨_, exec_startDelayEnd he, fun c => (advanceEngine_converting _ 0 c).trans firstChannel_eq_some,
      (advanceEngine_idle _ 0).trans firstChannel_eq_none⟩
  · rw [changeTrigger_change hc]
    refine ⟨fun he hs => ?_, fun w he hs => ?_, fun he => ?_⟩
    · rw [triggerSweep_idle he hs]
    · rw [triggerSweep_staged he hs]
    · rw [triggerSweep_missed he]

/-! ### The fields of SET_SWEEP (R99, R181) -/

/-- The value of a sweep mode (R99). -/
def sweepModeValue : SweepMode → Nat
  | .single => 0
  | .repeating => 1

/-- The value of a trigger select (R99). -/
def triggerValue : TriggerSelect → Nat
  | .command => 0
  | .period => 1
  | .change => 2

/-- The mask of a SET_SWEEP takes one octet (R181). -/
theorem sweepMask_lt {items : List Item} (hfit : itemsFit [opt 1 1, opt 2 1, opt 3 1, opt 4 2] items = true) {v : Nat}
    (hv : fieldNat 2 items = some v) : v < 2 ^ 8 := by
  obtain ⟨f, hf, hnumber, hlt⟩ := fieldNat_lt hfit hv
  have hmost : ∀ f ∈ [opt 1 1, opt 2 1, opt 3 1, opt 4 2], f.number = 2 → f.most = 1 := by decide
  rw [hmost f hf hnumber] at hlt
  exact hlt

theorem sweepArgs_eq_some (items : List Item) (x : SweepArgs) : sweepArgs items = some x ↔
    itemsFit [opt 1 1, opt 2 1, opt 3 1, opt 4 2] items = true ∧ x.mode.map sweepModeValue = fieldNat 1 items ∧
      x.mask.map BitVec.toNat = fieldNat 2 items ∧ x.select.map triggerValue = fieldNat 3 items ∧
      x.period = (fieldNat 4 items).map (settingSteps 2550) := by
  have hmode (m : Option SweepMode) : fieldEnum 1 sweepModeCode items = some m ↔
      m.map sweepModeValue = fieldNat 1 items := fieldEnum_eq_some sweepModeCode_eq_some 1 items m
  have hselect (t : Option TriggerSelect) : fieldEnum 3 triggerCode items = some t ↔
      t.map triggerValue = fieldNat 3 items := fieldEnum_eq_some triggerCode_eq_some 3 items t
  have hperiod : settingSteps 2550 = tenMsSteps 2550 := funext fun v => (tenMsSteps_eq 2550 v (.inr rfl)).symm
  rw [sweepArgs, Option.ite_none_right_eq_some]
  refine and_congr_right fun hfit => ?_
  rw [← map_ofNat fun v => sweepMask_lt hfit, hperiod]
  simp only [Option.bind_eq_bind, Option.bind_eq_some_iff, Option.some_inj, hmode, hselect]
  constructor
  · rintro ⟨_, hm, _, ht, rfl⟩
    exact ⟨hm, rfl, ht, rfl⟩
  · rintro ⟨hm, hmask, ht, hp⟩
    exact ⟨x.mode, hm, x.select, ht, by rw [hmask, ← hp]⟩

theorem anyCarried_eq_false (x : SweepArgs) :
    x.anyCarried = false ↔ x = { mode := none, mask := none, select := none, period := none } := by
  obtain ⟨mode, mask, select, period⟩ := x
  simp only [SweepArgs.anyCarried, Bool.or_eq_false_iff, Option.isSome_eq_false_iff, Option.isNone_iff_eq_none,
    SweepArgs.mk.injEq, and_assoc]

/-! ### SET_SWEEP, START_SWEEP and STOP_SWEEP (R97, R99, R100) -/

theorem storeSweep_idle {w : Sweep} (he : w.engine = .idle) (c : SweepSettings) : storeSweep c w = { w with
    current := c, staged := none, periodTimer := if c.select = .period then .running c.period else .stopped } := by
  rw [storeSweep, he, ← armedTimer_eq]

theorem storeSweep_staged {w : Sweep} (he : w.engine ≠ .idle) (c : SweepSettings) :
    storeSweep c w = { w with staged := some c } := by
  rw [storeSweep]
  cases hw : w.engine with
  | idle => exact absurd hw he
  | starting | converting d => rfl

theorem startSweep_idle {s : State} (he : s.sweep.engine = .idle) : startSweep s =
    { state := { s with sweep := triggerSweep s.sweep }, status := .ok, results := [], cause := false } := by
  rw [startSweep, if_pos he]

theorem startSweep_busy {s : State} (he : s.sweep.engine ≠ .idle) : startSweep s =
    { state := { s with sweep := { s.sweep with missed := s.sweep.missed + 1 } }
      status := .busy, results := [], cause := false } := by
  rw [startSweep, if_neg he, triggerSweep_missed he]

/-- Settles O40: the fields of SET_SWEEP, then each command as what it makes of the engine. -/
theorem sweepCommandsDriveTheEngine : Obligations.SweepCommandsDriveTheEngine := by
  refine ⟨sweepArgs_eq_some, anyCarried_eq_false, fun s cs u e items harrives hcs => ⟨?_, fun hitems => ?_⟩⟩
  · rintro x _ full hargs rfl hfull
    have hsweep : cs.sweep = s.sweep := by rw [hcs]; rfl
    have hexec := exec_setSweep_arrives s u e items harrives
    refine ⟨if x.anyCarried then storeSweep full s.sweep else s.sweep, ?_, fun hx => ?_, fun hx he => ?_,
      fun hx he => ?_⟩
    · rw [← hcs, cmdSetSweep, withArgs_some hargs, setSweep, fullSweep, hsweep, ← hfull] at hexec
      exact hexec
    · rw [if_neg (by rw [hx]; exact Bool.false_ne_true)]
    · rw [if_pos hx, storeSweep_idle he]
    · rw [if_pos hx, storeSweep_staged he]
  · subst hitems
    have hsweep : cs.sweep = s.sweep := by rw [hcs]; rfl
    have hstart : cmdStartSweep [] cs = startSweep cs := rfl
    rw [exec_startSweep_arrives s u e [] harrives, exec_stopSweep_arrives s u e [] harrives, ← hcs, hstart]
    refine ⟨fun he => ?_, fun he => ?_, ?_⟩
    · rw [startSweep_idle (by rw [hsweep]; exact he), hsweep]
      cases hs : s.sweep.staged with
      | none => rw [triggerSweep_idle he hs]
      | some w => rw [triggerSweep_staged he hs]
    · rw [startSweep_busy (by rw [hsweep]; exact he), hsweep]
    · rw [← hsweep]
      rfl

end Sys2Proof.Machine
end

section
/-! SUPPORT. The demand of a zone and the target of a fan (O22), and the power curve (O23). -/

namespace Sys2Proof.Machine

/-! ### The demand of a zone (R111) -/

theorem demand_below {z : ZoneRecord} (h : z.temp < z.low) (f : FanRecord) :
    demand z f = if f.below = .stop then 0 else f.minDuty := by
  rw [demand, if_pos h]
  cases f.below <;> rfl

theorem demand_band {z : ZoneRecord} (hlow : z.low ≤ z.temp) (hband : z.temp < z.low + z.range) (f : FanRecord) :
    demand z f = f.minDuty + (255 - f.minDuty) * (z.temp - z.low).toNat / z.range.toNat := by
  rw [demand, if_neg (not_lt.mpr hlow), if_pos hband]

theorem demand_above {z : ZoneRecord} (hlow : z.low ≤ z.temp) (habove : z.low + z.range ≤ z.temp) (f : FanRecord) :
    demand z f = 255 := by
  rw [demand, if_neg (not_lt.mpr hlow), if_neg (not_lt.mpr habove)]

theorem demand_below_le {z : ZoneRecord} (h : z.temp < z.low) (f : FanRecord) : demand z f ≤ f.minDuty := by
  rw [demand_below h]
  split
  next => exact Nat.zero_le _
  next => exact le_rfl

theorem minDuty_le_demand {z : ZoneRecord} {f : FanRecord} (hm : f.minDuty ≤ 255) (hlow : z.low ≤ z.temp) :
    f.minDuty ≤ demand z f := by
  rcases lt_or_ge z.temp (z.low + z.range) with hband | habove
  · rw [demand_band hlow hband]
    exact Nat.le_add_right _ _
  · rw [demand_above hlow habove]
    exact hm

/-- In the band the demand has covered at most the whole of the way from the minimum duty to 255. -/
theorem demand_le {f : FanRecord} (hm : f.minDuty ≤ 255) (z : ZoneRecord) : demand z f ≤ 255 := by
  rcases lt_or_ge z.temp z.low with hbelow | hlow
  · exact (demand_below_le hbelow f).trans hm
  · rcases lt_or_ge z.temp (z.low + z.range) with hband | habove
    · have hshare : (z.temp - z.low).toNat ≤ z.range.toNat := by omega
      have hrise : (255 - f.minDuty) * (z.temp - z.low).toNat / z.range.toNat ≤ 255 - f.minDuty :=
        Nat.div_le_of_le_mul ((Nat.mul_le_mul_left _ hshare).trans_eq (Nat.mul_comm _ _))
      rw [demand_band hlow hband]
      omega
    · exact (demand_above hlow habove f).le

/-- A hotter zone never demands less (R111). -/
theorem demand_mono {f : FanRecord} (hm : f.minDuty ≤ 255) {z : ZoneRecord} {t : Int} (ht : z.temp ≤ t) :
    demand z f ≤ demand { z with temp := t } f := by
  rcases lt_or_ge t z.low with hbelow | hlow
  · rw [demand_below (lt_of_le_of_lt ht hbelow), demand_below (z := { z with temp := t }) hbelow]
  · rcases lt_or_ge z.temp z.low with hcold | hwarm
    · exact (demand_below_le hcold f).trans (minDuty_le_demand (z := { z with temp := t }) hm hlow)
    · rcases lt_or_ge t (z.low + z.range) with hband | habove
      · rw [demand_band hwarm (lt_of_le_of_lt ht hband), demand_band (z := { z with temp := t }) hlow hband]
        have hshare : (z.temp - z.low).toNat ≤ (t - z.low).toNat := Int.toNat_le_toNat (Int.sub_le_sub_right ht _)
        exact Nat.add_le_add_left (Nat.div_le_div_right (Nat.mul_le_mul_left _ hshare)) _
      · rw [demand_above (z := { z with temp := t }) hlow habove]
        exact demand_le hm z

/-! ### The target of a fan (R112) -/

/-- A running maximum over the members that a test selects is at most a bound exactly where each of them is. -/
theorem foldl_max_le_iff {α : Type} (select : α → Bool) (value : α → Nat) (l : List α) (d b : Nat) :
    l.foldl (fun d a => if select a = true then max d (value a) else d) d ≤ b ↔
      d ≤ b ∧ ∀ a ∈ l, select a = true → value a ≤ b := by
  induction l generalizing d with
  | nil => simp
  | cons a l ih =>
    rw [List.foldl_cons, ih, List.forall_mem_cons, ← and_assoc]
    refine and_congr_left fun _ => ?_
    split
    next h => simp only [max_le_iff, h, true_imp_iff]
    next h => simp [h]

/-- The zones of a fan's zone set. -/
def zonesOf (f : FanRecord) : Finset Zone := Finset.univ.filter fun z => f.zoneSet.getLsbD z.val = true

theorem mem_zonesOf (f : FanRecord) (z : Zone) : z ∈ zonesOf f ↔ f.zoneSet.getLsbD z.val = true := by
  simp [zonesOf]

theorem zonesOf_nonempty {f : FanRecord} (h : f.zoneSet ≠ 0) : (zonesOf f).Nonempty := by
  by_contra hempty
  refine h (BitVec.eq_of_getLsbD_eq fun i hi => ?_)
  rw [Finset.not_nonempty_iff_eq_empty] at hempty
  have hz := (mem_zonesOf f ⟨i, hi⟩).not.mp (by rw [hempty]; exact Finset.notMem_empty _)
  exact ((Bool.not_eq_true _).mp hz).trans BitVec.getLsbD_zero.symm

theorem hottestDemand_eq_sup (zones : Vector ZoneRecord 4) (f : FanRecord) :
    hottestDemand zones f = (zonesOf f).sup fun z => demand zones[z] f := by
  refine eq_of_forall_ge_iff fun b => ?_
  rw [hottestDemand, foldl_max_le_iff (fun z : Zone => f.zoneSet.getLsbD z.val) (fun z => demand zones[z] f),
    Finset.sup_le_iff]
  simp only [mem_allZones, mem_zonesOf, Nat.zero_le, true_and, true_imp_iff]

theorem hottestDemand_eq_iff {f : FanRecord} (h : f.zoneSet ≠ 0) (zones : Vector ZoneRecord 4) (d : Nat) :
    hottestDemand zones f = d ↔ (∃ z : Zone, f.zoneSet.getLsbD z.val = true ∧ demand zones[z] f = d) ∧
      ∀ z : Zone, f.zoneSet.getLsbD z.val = true → demand zones[z] f ≤ d := by
  simp only [hottestDemand_eq_sup, ← mem_zonesOf]
  constructor
  · rintro rfl
    obtain ⟨z, hz, hsup⟩ := Finset.exists_mem_eq_sup (zonesOf f) (zonesOf_nonempty h) fun z => demand zones[z] f
    exact ⟨⟨z, hz, hsup.symm⟩, fun w hw => Finset.le_sup (f := fun z : Zone => demand zones[z] f) hw⟩
  · rintro ⟨⟨z, hz, rfl⟩, hall⟩
    exact le_antisymm (Finset.sup_le hall) (Finset.le_sup (f := fun z : Zone => demand zones[z] f) hz)

theorem targetOf_hottest {f : FanRecord} (h : f.mode = .hottest) (zones : Vector ZoneRecord 4) :
    targetOf zones f = hottestDemand zones f := by rw [targetOf, h]

theorem follows_iff (f : FanRecord) (z : Zone) : follows f z = true ↔
    (f.mode = .zone ∧ f.zoneSel = z) ∨ (f.mode = .hottest ∧ f.zoneSet.getLsbD z.val = true) := by
  rw [follows]
  cases f.mode <;> simp

/-- Settles O22: the demand by where the temperature lies, the target by the mode. -/
theorem demandFollowsTheZone : Obligations.DemandFollowsTheZone := by
  refine ⟨fun z f => ⟨fun h => demand_below h f, fun hlow h => demand_band hlow h f,
    fun hlow h => demand_above hlow h f, fun hm _ => demand_le hm z, fun hm _ t ht => demand_mono hm ht⟩,
    fun zones f => ?_, follows_iff, fun zones f d hmode hset => ?_⟩
  · refine ⟨fun h => ?_, fun h => ?_, fun h => ?_, fun h => ?_⟩
    all_goals rw [targetOf, h]
  · rw [targetOf_hottest hmode]
    exact hottestDemand_eq_iff hset zones d

/-! ### The power curve (R124) -/

/-- A line rounded up is at most a power exactly where the line itself is. -/
theorem interpolate_le_iff (p q k : Nat) {w : Nat} (hw : 0 < w) (x : Nat) :
    interpolate p q k w ≤ x ↔ (q - p) * k + p * w ≤ x * w := by
  have hsum : interpolate p q k w = ((q - p) * k + p * w + w - 1) / w := by
    rw [interpolate, Nat.add_comm p, ← Nat.add_mul_div_right _ _ hw]
    congr 1
    omega
  rw [hsum, ← Nat.ceilDiv_eq_add_pred_div, ceilDiv_le_iff_le_mul hw, Nat.mul_comm w x]

theorem interpolate_mono (p q : Nat) {k l w : Nat} (hw : 0 < w) (h : k ≤ l) :
    interpolate p q k w ≤ interpolate p q l w := by
  rw [interpolate_le_iff p q k hw]
  exact (Nat.add_le_add_right (Nat.mul_le_mul_left _ h) _).trans ((interpolate_le_iff p q l hw _).mp le_rfl)

theorem interpolate_start (p q : Nat) {w : Nat} (hw : 0 < w) : interpolate p q 0 w = p := by
  refine eq_of_forall_ge_iff fun x => ?_
  rw [interpolate_le_iff p q 0 hw, Nat.mul_zero, Nat.zero_add, Nat.mul_le_mul_right_iff hw]

theorem interpolate_end {p q : Nat} (h : p ≤ q) {w : Nat} (hw : 0 < w) : interpolate p q w w = q := by
  refine eq_of_forall_ge_iff fun x => ?_
  rw [interpolate_le_iff p q w hw, ← Nat.add_mul, Nat.sub_add_cancel h, Nat.mul_le_mul_right_iff hw]

/-! ### The pieces of a curve, each with both of its ends (R124) -/

theorem curveAt_first {c : Curve} (h : c.p0 ≤ c.p1) {d : Nat} (hd : d ≤ 64) :
    curveAt c d = interpolate c.p0 c.p1 d 64 := by
  rcases hd.lt_or_eq with hd | rfl
  · rw [curveAt, if_pos hd]
  · rw [interpolate_end h (by decide)]
    exact interpolate_start c.p1 c.p2 (by decide)

theorem curveAt_second {c : Curve} (h : c.p1 ≤ c.p2) {d : Nat} (hlow : 64 ≤ d) (hd : d ≤ 128) :
    curveAt c d = interpolate c.p1 c.p2 (d - 64) 64 := by
  rcases hd.lt_or_eq with hd | rfl
  · rw [curveAt, if_neg (by omega), if_pos hd]
  · rw [interpolate_end h (by decide)]
    exact interpolate_start c.p2 c.p3 (by decide)

theorem curveAt_third {c : Curve} (h : c.p2 ≤ c.p3) {d : Nat} (hlow : 128 ≤ d) (hd : d ≤ 192) :
    curveAt c d = interpolate c.p2 c.p3 (d - 128) 64 := by
  rcases hd.lt_or_eq with hd | rfl
  · rw [curveAt, if_neg (by omega), if_neg (by omega), if_pos hd]
  · rw [interpolate_end h (by decide)]
    exact interpolate_start c.p3 c.p4 (by decide)

theorem curveAt_fourth {c : Curve} (h : c.p3 ≤ c.p4) {d : Nat} (hlow : 192 ≤ d) (hd : d ≤ 255) :
    curveAt c d = interpolate c.p3 c.p4 (d - 192) 63 := by
  rcases hd.lt_or_eq with hd | rfl
  · rw [curveAt, if_neg (by omega), if_neg (by omega), if_neg (by omega), if_pos hd]
  · rw [interpolate_end h (by decide)]
    rfl

theorem curveAt_above (c : Curve) {d : Nat} (h : 255 ≤ d) : curveAt c d = c.p4 := by
  rw [curveAt, if_neg (by omega), if_neg (by omega), if_neg (by omega), if_neg (by omega)]

/-- Two neighbouring duties lie on one piece, where the power does not fall (R124). -/
theorem curveAt_mono {c : Curve} (h0 : c.p0 ≤ c.p1) (h1 : c.p1 ≤ c.p2) (h2 : c.p2 ≤ c.p3) (h3 : c.p3 ≤ c.p4) :
    Monotone (curveAt c) := by
  refine monotone_nat_of_le_succ fun d => ?_
  rcases lt_or_ge d 64 with hd | hd
  · rw [curveAt_first h0 hd.le, curveAt_first h0 hd]
    exact interpolate_mono _ _ (by decide) (Nat.le_succ d)
  rcases lt_or_ge d 128 with hd' | hd
  · rw [curveAt_second h1 hd hd'.le, curveAt_second h1 (Nat.le_succ_of_le hd) hd']
    exact interpolate_mono _ _ (by decide) (Nat.sub_le_sub_right (Nat.le_succ d) _)
  rcases lt_or_ge d 192 with hd' | hd
  · rw [curveAt_third h2 hd hd'.le, curveAt_third h2 (Nat.le_succ_of_le hd) hd']
    exact interpolate_mono _ _ (by decide) (Nat.sub_le_sub_right (Nat.le_succ d) _)
  rcases lt_or_ge d 255 with hd' | hd
  · rw [curveAt_fourth h3 hd hd'.le, curveAt_fourth h3 (Nat.le_succ_of_le hd) hd']
    exact interpolate_mono _ _ (by decide) (Nat.sub_le_sub_right (Nat.le_succ d) _)
  · rw [curveAt_above c hd, curveAt_above c (Nat.le_succ_of_le hd)]

/-- Settles O23: the points are starts of pieces, and each piece is a line rounded up. -/
theorem powerCurveIsInterpolated : Obligations.PowerCurveIsInterpolated := by
  intro c
  refine ⟨interpolate_start _ _ (by decide), interpolate_start _ _ (by decide), interpolate_start _ _ (by decide),
    interpolate_start _ _ (by decide), rfl,
    fun h0 h1 h2 h3 => ⟨fun d e hde => curveAt_mono h0 h1 h2 h3 hde, fun d p => ⟨fun hd => ?_, fun hlow hd => ?_,
      fun hlow hd => ?_, fun hlow hd => ?_⟩⟩⟩
  · rw [curveAt_first h0 hd, interpolate_le_iff _ _ _ (by decide)]
  · rw [curveAt_second h1 hlow hd, interpolate_le_iff _ _ _ (by decide)]
  · rw [curveAt_third h2 hlow hd, interpolate_le_iff _ _ _ (by decide)]
  · rw [curveAt_fourth h3 hlow hd, interpolate_le_iff _ _ _ (by decide)]

end Sys2Proof.Machine
end

section
/-! SUPPORT. The fan timers (O20), and the tach pulses and the tach gate (O21). -/

namespace Sys2Proof.Machine

/-! ### The power of a fan (R125) -/

theorem fanPower_off {r : FanRecord} (h : r.mode = .off) (overrideOn : Bool) : fanPower overrideOn r = 0 := if_pos h

theorem fanPower_full {overrideOn : Bool} {r : FanRecord} (hmode : r.mode ≠ .off)
    (h : r.spin.isRunning = true ∨ overrideOn = true) : fanPower overrideOn r = curveAt r.curve 255 := by
  rw [fanPower, if_neg hmode, if_pos (Bool.or_eq_true_iff.mpr h)]

theorem fanPower_duty {overrideOn : Bool} {r : FanRecord} (hmode : r.mode ≠ .off) (hspin : r.spin.isRunning = false)
    (hon : overrideOn = false) : fanPower overrideOn r = curveAt r.curve (max r.target r.actual) := by
  rw [fanPower, if_neg hmode, if_neg (by rw [hspin, hon]; exact Bool.false_ne_true)]

/-! ### The ramp and the spin-up timer (R116, R117) -/

theorem rampDuty_eq (r : FanRecord) : rampDuty r =
    if r.actual < r.target then r.actual + 1
    else if r.actual = r.target then r.actual
    else if r.target = 0 ∧ r.actual ≤ r.minDuty then 0
    else r.actual - 1 := by
  unfold rampDuty
  split_ifs <;> omega

theorem repower_rampStep (overrideOn : Bool) (r : FanRecord) : repower overrideOn (rampStep r) =
    { r with
      actual := rampDuty r
      ramp := if rampDuty r = r.target then .stopped else .running ((r.rampN + 1) * 10)
      power := fanPower overrideOn { r with actual := rampDuty r } } := rfl

/-- A spin-up that ends leaves the actual duty at the target, and the power with it. -/
theorem fanPower_endSpinUp (overrideOn : Bool) (r : FanRecord) : fanPower overrideOn (endSpinUp r) =
    if r.mode = .off then 0
    else if overrideOn = true then curveAt r.curve 255
    else curveAt r.curve r.target := by
  split
  next hoff => exact fanPower_off (r := endSpinUp r) hoff overrideOn
  next hmode =>
    split
    next hon => exact fanPower_full (r := endSpinUp r) hmode (.inr hon)
    next hon =>
      rw [fanPower_duty (r := endSpinUp r) hmode rfl ((Bool.not_eq_true _).mp hon)]
      exact congrArg (curveAt r.curve) (max_self r.target)

theorem exec_rampExpiry {f : Fan} {s : State} (h : s.fans[f].ramp.isRunning = true) :
    exec (.rampExpiry f) s = .next (close s (rampExpiry f s) false) := congrArg Host.Outcome.next (if_pos h)

theorem exec_spinUpExpiry {f : Fan} {s : State} (h : s.fans[f].spin.isRunning = true) :
    exec (.spinUpExpiry f) s = .next (close s (spinUpExpiry f s) false) := congrArg Host.Outcome.next (if_pos h)

theorem changeFan_fans_same (f : Fan) (rule : FanRecord → FanRecord) (s : State) :
    (changeFan f rule s).fans[f] = repower s.thermal.overrideOn (rule s.fans[f]) := by
  rw [changeFan_fans, if_pos rfl]

theorem changeFan_fans_ne {f g : Fan} (h : g ≠ f) (rule : FanRecord → FanRecord) (s : State) :
    (changeFan f rule s).fans[g] = s.fans[g] := by
  rw [changeFan_fans, if_neg h]

/-- Settles O20: each expiry is a change of one fan, with F brought up to date. -/
theorem fanTimersMoveTheDuty : Obligations.FanTimersMoveTheDuty := by
  refine ⟨fun overrideOn r => ⟨fun h => fanPower_off h overrideOn, fanPower_full, fanPower_duty⟩,
    fun f s => ⟨fun hrun => ?_, fun hrun => ?_⟩⟩
  · refine ⟨rampExpiry f s, rampDuty s.fans[f], exec_rampExpiry hrun, rampDuty_eq _, ?_,
      fun g hg => changeFan_fans_ne hg rampStep s, rfl⟩
    exact (changeFan_fans_same f rampStep s).trans (repower_rampStep _ _)
  · refine ⟨spinUpExpiry f s, exec_spinUpExpiry hrun, ?_, fun g hg => changeFan_fans_ne hg endSpinUp s, rfl⟩
    rw [← fanPower_endSpinUp]
    exact changeFan_fans_same f endSpinUp s

/-! ### Pulses and gate results (R118, R122, R123) -/

theorem countPulse_eq (r : FanRecord) :
    countPulse r = { r with pulses := if r.pulses < 1023 then r.pulses + 1 else 1023 } := by
  have hcount : min (r.pulses + 1) 1023 = if r.pulses < 1023 then r.pulses + 1 else 1023 := by
    split <;> omega
  rw [countPulse, hcount]

/-- Whether a gate result ends a spin-up: at the minimum speed or above it (R118). -/
def EndsSpinUp (r : FanRecord) : Prop :=
  r.spin.isRunning = true ∧ 0 < r.minSpeed ∧ r.minSpeed ≤ speedOf r

theorem gateResult_ends {r : FanRecord} (h : EndsSpinUp r) : gateResult r =
    { r with speed := some (speedOf r), pulses := 0, actual := r.target, spin := .stopped, ramp := .stopped } := by
  obtain ⟨hspin, hmin, hspeed⟩ := h
  exact if_pos (by simp only [hspin, hmin, hspeed, decide_true, Bool.and_self])

theorem gateResult_runs {r : FanRecord} (h : ¬EndsSpinUp r) :
    gateResult r = { r with speed := some (speedOf r), pulses := 0 } := by
  refine if_neg fun hends => h ?_
  simpa only [EndsSpinUp, Bool.and_eq_true, decide_eq_true_eq, and_assoc] using hends

/-- A fan whose spin-up ends is at its minimum speed, so it is not found stalled (R118, R123). -/
theorem stalled_gateResult (r : FanRecord) : stalled (gateResult r) = true ↔
    speedOf r < r.minSpeed ∧ 0 < r.actual ∧ r.spin.isRunning = false ∧ r.mode ≠ .off := by
  by_cases h : EndsSpinUp r
  · obtain ⟨hspin, -, hspeed⟩ := id h
    simp [gateResult_ends h, stalled, hspin, hspeed]
  · rw [gateResult_runs h]
    simp only [stalled, Bool.and_eq_true, decide_eq_true_eq, Bool.not_eq_true', and_assoc]
    exact and_congr_right fun hslow => and_iff_right (Nat.zero_lt_of_lt hslow)

/-! ### The gate of every fan (R122, R123) -/

/-- The STALL alert of a fan (R163). -/
def stallAlert (f : Fan) : Alert := { kind := .stall, index := f.val + 1 }

theorem stallAlert_inj {f g : Fan} (h : stallAlert f = stallAlert g) : f = g := by
  simpa [stallAlert, Fin.ext_iff] using h

theorem gateFan_frame (f : Fan) (s : State) : gateFan f s =
    { s with fans := (gateFan f s).fans, mgmt := { s.mgmt with alerts := (gateFan f s).mgmt.alerts } } := by
  unfold gateFan checkStall
  split
  next => rw [raise_eq]; rfl
  next => rfl

theorem gateFan_fans (f g : Fan) (s : State) : (gateFan f s).fans[g] =
    if g = f then repower s.thermal.overrideOn (gateResult s.fans[f]) else s.fans[g] := by
  rw [← changeFan_fans f g gateResult s]
  unfold gateFan checkStall
  split
  next => rw [raise_eq]
  next => rfl

theorem gateFan_alerts (f : Fan) (s : State) (a : Alert) : a ∈ (gateFan f s).mgmt.alerts ↔
    (a = stallAlert f ∧ stalled (gateResult s.fans[f]) = true) ∨ a ∈ s.mgmt.alerts := by
  have hstalled : stalled (changeFan f gateResult s).fans[f] = stalled (gateResult s.fans[f]) :=
    (congrArg stalled (changeFan_fans_same f gateResult s)).trans rfl
  unfold gateFan checkStall
  rw [hstalled]
  split
  next h =>
    rw [mem_raise, and_iff_left h]
    rfl
  next h => exact (or_iff_right fun hs => h hs.2).symm

/-- The gate results of some fans: their records, the alerts of those found stalled, and nothing else. -/
structure Gated (l : List Fan) (s t : State) : Prop where
  frame : t = { s with fans := t.fans, mgmt := { s.mgmt with alerts := t.mgmt.alerts } }
  fans : ∀ g : Fan, t.fans[g] = if g ∈ l then repower s.thermal.overrideOn (gateResult s.fans[g]) else s.fans[g]
  alerts : ∀ a : Alert, a ∈ t.mgmt.alerts ↔
    (∃ g ∈ l, a = stallAlert g ∧ stalled (gateResult s.fans[g]) = true) ∨ a ∈ s.mgmt.alerts

/-- A fan's gate result before those of other fans. -/
theorem Gated.cons {f : Fan} {l : List Fan} {s t : State} (hf : f ∉ l) (h : Gated l (gateFan f s) t) :
    Gated (f :: l) s t := by
  have hthermal : (gateFan f s).thermal = s.thermal := by rw [gateFan_frame]
  have hother {g : Fan} (hg : g ∈ l) : (gateFan f s).fans[g] = s.fans[g] := by
    rw [gateFan_fans, if_neg fun e : g = f => hf (e ▸ hg)]
  refine ⟨?_, fun g => ?_, fun a => ?_⟩
  · have hframe := h.frame
    rw [gateFan_frame f s] at hframe
    exact hframe
  · rw [h.fans]
    by_cases hg : g ∈ l
    · rw [if_pos hg, if_pos (List.mem_cons_of_mem f hg), hother hg, hthermal]
    · rw [if_neg hg, gateFan_fans]
      by_cases e : g = f
      · subst e
        rw [if_pos rfl, if_pos List.mem_cons_self]
      · rw [if_neg e, if_neg (List.not_mem_cons_of_ne_of_not_mem e hg)]
  · have hrest : (∃ g ∈ l, a = stallAlert g ∧ stalled (gateResult (gateFan f s).fans[g]) = true) ↔
        ∃ g ∈ l, a = stallAlert g ∧ stalled (gateResult s.fans[g]) = true :=
      exists_congr fun g => and_congr_right fun hg => by rw [hother hg]
    rw [h.alerts, hrest, gateFan_alerts, ← or_assoc]
    refine or_congr_left (or_comm.trans ?_)
    simp only [List.mem_cons, or_and_right, exists_or, exists_eq_left]

theorem foldl_gateFan {l : List Fan} (hl : l.Nodup) (s : State) :
    Gated l s (l.foldl (fun s f => gateFan f s) s) := by
  induction l generalizing s with
  | nil => exact ⟨rfl, fun _ => rfl, fun _ => by simp⟩
  | cons f l ih =>
    obtain ⟨hf, hl⟩ := List.nodup_cons.mp hl
    exact (ih hl (gateFan f s)).cons hf

theorem gateExpiry_gated (s : State) :
    ∃ t, Gated allFans s t ∧ gateExpiry s = updateReservation { t with tachGate := .running 500 } :=
  ⟨_, foldl_gateFan (by decide) s, rfl⟩

theorem gateExpiry_fans (s : State) (f : Fan) :
    (gateExpiry s).fans[f] = repower s.thermal.overrideOn (gateResult s.fans[f]) := by
  obtain ⟨t, ⟨-, hfans, -⟩, h⟩ := gateExpiry_gated s
  rw [h]
  exact (hfans f).trans (if_pos (mem_allFans f))

theorem gateExpiry_alerts (s : State) (a : Alert) : a ∈ (gateExpiry s).mgmt.alerts ↔
    (∃ f : Fan, a = stallAlert f ∧ stalled (gateResult s.fans[f]) = true) ∨ a ∈ s.mgmt.alerts := by
  obtain ⟨t, ⟨-, -, halerts⟩, h⟩ := gateExpiry_gated s
  simp only [mem_allFans, true_and] at halerts
  rw [h]
  exact halerts a

theorem gateExpiry_frame (s : State) : gateExpiry s =
    { s with
      fans := (gateExpiry s).fans, fanReservation := powerSum (gateExpiry s).fans, tachGate := .running 500
      mgmt := { s.mgmt with alerts := (gateExpiry s).mgmt.alerts } } := by
  obtain ⟨t, ⟨hframe, -, -⟩, h⟩ := gateExpiry_gated s
  rw [h, hframe]
  rfl

theorem gateExpiry_tachGate (s : State) : (gateExpiry s).tachGate = .running 500 := by rw [gateExpiry_frame]

/-- A fan's own alert stands after the gate where it stood or where the fan is found stalled (R123, R168). -/
theorem stallAlert_mem_gateExpiry (s : State) (f : Fan) : stallAlert f ∈ (gateExpiry s).mgmt.alerts ↔
    stallAlert f ∈ s.mgmt.alerts ∨ stalled (gateResult s.fans[f]) = true := by
  rw [gateExpiry_alerts, or_comm]
  refine or_congr_right ⟨?_, fun h => ⟨f, rfl, h⟩⟩
  rintro ⟨g, hg, h⟩
  rw [stallAlert_inj hg]
  exact h

theorem exec_tachGateExpiry {s : State} (h : s.tachGate.isRunning = true) :
    exec .tachGateExpiry s = .next (close s (gateExpiry s) false) := congrArg Host.Outcome.next (if_pos h)

/-- Settles O21: a pulse is a change of one fan, and the gate gives each fan its result once. -/
theorem tachGateMeasuresEveryFan : Obligations.TachGateMeasuresEveryFan := by
  refine ⟨fun f s => ⟨s.modFan f countPulse, rfl, ?_, fun g hg => ?_, rfl⟩,
    fun s hrun => ⟨gateExpiry s, exec_tachGateExpiry hrun, gateExpiry_tachGate s, fun f v hv => ?_, fun f => ?_,
      fun a ha => ?_, gateExpiry_frame s⟩⟩
  · rw [State.fans_modFan, if_pos rfl, countPulse_eq]
  · rw [State.fans_modFan, if_neg hg]
  · have hfan := gateExpiry_fans s f
    subst hv
    refine ⟨fun h => ?_, fun h => ?_, ?_⟩
    · rw [hfan, gateResult_ends h]
      rfl
    · rw [hfan, gateResult_runs h]
      rfl
    · exact (stallAlert_mem_gateExpiry s f).trans (or_congr_right (stalled_gateResult s.fans[f]))
  · rw [gateExpiry_fans]
    rfl
  · rw [gateExpiry_alerts, or_iff_right]
    rintro ⟨f, rfl, -⟩
    exact ha rfl

end Sys2Proof.Machine
end

section
/-! SUPPORT. SET_FAN, SET_FAN_CURVE and SET_FAN_DUTY (O39). -/

namespace Sys2Proof.Machine

/-! ### The fields of the fan commands (R113, R114, R126, R181) -/

/-- The value of a fan mode (R113). -/
def fanModeValue : FanMode → Nat
  | .zone => 0
  | .hottest => 1
  | .full => 2
  | .off => 3
  | .manual => 4

/-- The value of a below-limit behaviour (R113). -/
def belowValue : BelowLimit → Nat
  | .stop => 0
  | .min => 1

theorem fieldFan_eq_some (n : Nat) (items : List Item) (f : Fan) :
    fieldFan n items = some f ↔ fieldNat n items = some (f.val + 1) :=
  bind_memberOf_eq_some (fieldNat n items) f

theorem fanArgs_eq_some (items : List Item) (f : Fan) (x : FanSettings) : fanArgs items = some (f, x) ↔
    itemsFit [req 1 1, opt 2 1, opt 3 1, opt 4 1, opt 5 1, opt 6 2, opt 7 1, opt 8 1, opt 9 1, opt 10 1, opt 11 2,
      opt 12 1] items = true ∧
    fieldNat 1 items = some (f.val + 1) ∧ x.mode.map fanModeValue = fieldNat 2 items ∧
    x.zoneSel.map (fun z => z.val + 1) = fieldNat 3 items ∧
    x.zoneSet.map BitVec.toNat = fieldNat 4 items ∧ x.zoneSet ≠ some 0 ∧
    x.below.map belowValue = fieldNat 5 items ∧ x.minDuty = (fieldNat 6 items).map (fun v => min v 255) ∧
    x.rampOn.map flagValue = fieldNat 7 items ∧ x.rampN = (fieldNat 8 items).map (fun v => min v 63) ∧
    x.spinOn.map flagValue = fieldNat 9 items ∧ x.spinN = (fieldNat 10 items).map (fun v => min v 31) ∧
    x.minSpeed = (fieldNat 11 items).map (fun v => min v 20000) ∧
    x.pulsesPerRev = (fieldNat 12 items).map (clampNat 1 4) := by
  have hmode (m : Option FanMode) : fieldEnum 2 fanModeCode items = some m ↔ m.map fanModeValue = fieldNat 2 items :=
    fieldEnum_eq_some fanModeCode_eq_some 2 items m
  have hzone (z : Option Zone) : fieldEnum 3 (memberOf 4) items = some z ↔
      z.map (fun z => z.val + 1) = fieldNat 3 items := fieldEnum_eq_some memberOf_eq_some 3 items z
  have hbelow (b : Option BelowLimit) : fieldEnum 5 belowCode items = some b ↔ b.map belowValue = fieldNat 5 items :=
    fieldEnum_eq_some belowCode_eq_some 5 items b
  have hflag (n : Nat) (b : Option Bool) : fieldEnum n flagCode items = some b ↔ b.map flagValue = fieldNat n items :=
    fieldEnum_eq_some flagCode_eq_some n items b
  have hmin (k : Nat) : min k = fun v => min v k := funext fun v => Nat.min_comm k v
  rw [fanArgs, Option.ite_none_right_eq_some]
  refine and_congr_right fun _ => ?_
  simp only [Option.bind_eq_bind, Option.bind_eq_some_iff, Option.some_inj, Prod.mk.injEq, fieldFan_eq_some, hmode,
    hzone, fieldEnum_zoneSet, hbelow, hflag, hmin 255, hmin 63, hmin 31, hmin 20000]
  constructor
  · rintro ⟨_, hf, _, hm, _, hz, _, ⟨hset, hne⟩, _, hb, _, hr, _, hs, rfl, rfl⟩
    exact ⟨hf, hm, hz, hset, hne, hb, rfl, hr, rfl, hs, rfl, rfl, rfl⟩
  · rintro ⟨hf, hm, hz, hset, hne, hb, hduty, hr, hrn, hs, hsn, hspeed, hrev⟩
    exact ⟨f, hf, x.mode, hm, x.zoneSel, hz, x.zoneSet, ⟨hset, hne⟩, x.below, hb, x.rampOn, hr, x.spinOn, hs, rfl,
      by rw [← hduty, ← hrn, ← hsn, ← hspeed, ← hrev]⟩

/-- The five powers of a curve in their places (R126). -/
theorem curveOf_eq_iff (o : Octets) (c : Curve) : curveOf o = c ↔
    ((List.range 5).map fun k => min (word16At o (2 * k)).toNat 255) = [c.p0, c.p1, c.p2, c.p3, c.p4] := by
  have hpowers : ((List.range 5).map fun k => min (word16At o (2 * k)).toNat 255) =
      [curvePower o 0, curvePower o 1, curvePower o 2, curvePower o 3, curvePower o 4] := rfl
  obtain ⟨p0, p1, p2, p3, p4⟩ := c
  simp only [hpowers, curveOf, Curve.mk.injEq, List.cons.injEq, and_true]

theorem curveArgs_eq_some (items : List Item) (f : Fan) (c : Curve) : curveArgs items = some (f, c) ↔
    itemsFit [req 1 1, req 2 10] items = true ∧ fieldNat 1 items = some (f.val + 1) ∧
    (fieldOctets 2 items).map (fun o => (List.range 5).map fun k => min (word16At o (2 * k)).toNat 255) =
      some [c.p0, c.p1, c.p2, c.p3, c.p4] ∧
    c.p0 ≤ c.p1 ∧ c.p1 ≤ c.p2 ∧ c.p2 ≤ c.p3 ∧ c.p3 ≤ c.p4 := by
  rw [curveArgs, Option.ite_none_right_eq_some, ← fieldFan_eq_some]
  refine and_congr_right fun _ => ?_
  simp only [Option.map_eq_some_iff, ← curveOf_eq_iff]
  split
  next g d hg hd =>
    obtain ⟨o, ho, rfl⟩ := Option.map_eq_some_iff.mp hd
    simp only [hg, ho, Option.ite_none_right_eq_some, Option.some_inj, Prod.mk.injEq, exists_eq_left']
    constructor
    · rintro ⟨horder, rfl, rfl⟩
      exact ⟨rfl, rfl, horder⟩
    · rintro ⟨rfl, rfl, horder⟩
      exact ⟨horder, rfl, rfl⟩
  next hnone =>
    refine iff_of_false (fun h => by cases h) ?_
    rintro ⟨hf, ⟨o, ho, rfl⟩, -⟩
    exact hnone f (curveOf o) hf (by rw [ho]; rfl)

/-- A power of a curve is at most 255 W (R126). -/
theorem curveArgs_le {items : List Item} {f : Fan} {c : Curve} (h : curveArgs items = some (f, c)) : c.p4 ≤ 255 := by
  obtain ⟨-, -, hcurve, -⟩ := (curveArgs_eq_some items f c).mp h
  obtain ⟨o, -, ho⟩ := Option.map_eq_some_iff.mp hcurve
  rw [← (curveOf_eq_iff o c).mpr ho]
  exact Nat.min_le_right _ _

theorem dutyArgs_eq_some (items : List Item) (f : Fan) (d : Nat) : dutyArgs items = some (f, d) ↔
    itemsFit [req 1 1, req 2 2] items = true ∧ fieldNat 1 items = some (f.val + 1) ∧
    (fieldNat 2 items).map (fun v => min v 255) = some d := by
  rw [dutyArgs, Option.ite_none_right_eq_some, ← fieldFan_eq_some]
  refine and_congr_right fun _ => ?_
  split
  next g v hg hv => simp only [hg, hv, Option.some_inj, Prod.mk.injEq, Option.map_some]
  next hnone =>
    refine iff_of_false (fun h => by cases h) ?_
    rintro ⟨hf, hd⟩
    obtain ⟨v, hv, -⟩ := Option.map_eq_some_iff.mp hd
    exact hnone f v hf hv

theorem dutyArgs_le {items : List Item} {f : Fan} {d : Nat} (h : dutyArgs items = some (f, d)) : d ≤ 255 := by
  obtain ⟨-, -, hd⟩ := (dutyArgs_eq_some items f d).mp h
  obtain ⟨v, -, rfl⟩ := Option.map_eq_some_iff.mp hd
  exact Nat.min_le_right _ _

/-! ### The settle table (R115) -/

theorem settle_off {r : FanRecord} (h : r.mode = .off) (overrideOn : Bool) :
    settle overrideOn r = { r with actual := 0, spin := .stopped, ramp := .stopped } := if_pos h

theorem settle_override {overrideOn : Bool} {r : FanRecord} (hmode : r.mode ≠ .off) (h : overrideOn = true) :
    settle overrideOn r = { r with actual := 255, spin := .stopped, ramp := .stopped } := by
  rw [settle, if_neg hmode, if_pos h]

/-- A fan in spin-up keeps its duty unless its target is 0 or its spin-up is switched off. -/
theorem settle_spinning {r : FanRecord} (hmode : r.mode ≠ .off) (hspin : r.spin.isRunning = true) :
    settle false r =
      if r.target = 0 then { r with actual := 0, spin := .stopped }
      else if r.spinOn = false then { r with actual := r.target, spin := .stopped }
      else r := by
  rw [settle, if_neg hmode, if_neg Bool.false_ne_true, if_pos hspin]
  simp only [Bool.not_eq_true']

/-- A fan that starts from 0 starts in a spin-up where it has one, and at its target elsewhere. -/
theorem settle_starting {r : FanRecord} (hmode : r.mode ≠ .off) (hspin : r.spin.isRunning = false)
    (hactual : r.actual = 0) (htarget : 0 < r.target) :
    settle false r =
      if r.spinOn = true ∧ 0 < r.spinN then
        { r with actual := 255, spin := .running (r.spinN * 100), ramp := .stopped }
      else { r with actual := r.target } := by
  rw [settle, if_neg hmode, if_neg Bool.false_ne_true, if_neg (ne_true_of_eq_false hspin), if_pos ⟨hactual, htarget⟩]

/-- A fan that turns already, or is to stand, goes to its target at once or by its ramp timer. -/
theorem settle_moving {r : FanRecord} (hmode : r.mode ≠ .off) (hspin : r.spin.isRunning = false)
    (hmoving : r.actual ≠ 0 ∨ r.target = 0) :
    settle false r =
      if r.mode = .full ∨ r.mode = .manual ∨ r.rampOn = false then { r with actual := r.target, ramp := .stopped }
      else if r.actual ≠ r.target then
        { r with ramp := if r.ramp.isRunning = true then r.ramp else .running ((r.rampN + 1) * 10) }
      else { r with ramp := .stopped } := by
  rw [settle, if_neg hmode, if_neg Bool.false_ne_true, if_neg (ne_true_of_eq_false hspin), if_neg (by omega)]
  simp only [Bool.not_eq_true', ← or_assoc, rampInterval]
  by_cases hdirect : r.mode = .full ∨ r.mode = .manual
  · rw [if_pos hdirect, if_pos (.inl hdirect)]
  · rw [if_neg hdirect]
    simp only [or_iff_right hdirect]

/-- The rows in which a fan that turns already goes to its target at once. -/
theorem settle_atOnce {r : FanRecord} (hmode : r.mode ≠ .off) (hspin : r.spin.isRunning = false)
    (hmoving : r.actual ≠ 0 ∨ r.target = 0) (h : r.mode = .full ∨ r.mode = .manual ∨ r.rampOn = false) :
    settle false r = { r with actual := r.target, ramp := .stopped } := by
  rw [settle_moving hmode hspin hmoving, if_pos h]

/-- The rows in which a fan that turns already is left to its ramp timer. -/
theorem settle_ramping {r : FanRecord} (hspin : r.spin.isRunning = false)
    (hmoving : r.actual ≠ 0 ∨ r.target = 0) (hzone : r.mode = .zone ∨ r.mode = .hottest) (hramp : r.rampOn = true) :
    settle false r =
      if r.actual ≠ r.target then
        { r with ramp := if r.ramp.isRunning = true then r.ramp else .running ((r.rampN + 1) * 10) }
      else { r with ramp := .stopped } := by
  have hmode : r.mode ≠ .off := by rcases hzone with h | h <;> rw [h] <;> decide
  refine (settle_moving hmode hspin hmoving).trans (if_neg ?_)
  rcases hzone with h | h <;> simp [h, hramp]

/-! ### What the fan commands give (R113, R114, R126) -/

@[simp] theorem updateReservation_fan (s : State) (f : Fan) : (updateReservation s).fans[f] = s.fans[f] := rfl

/-- The state of a SET_FAN that carries settings, and of one that carries none. -/
def fanSet (f : Fan) (x : FanSettings) (s : State) : State :=
  if x = noFanSettings then s else reconfigure f (storeFan x) s

/-- The fan that a SET_FAN leaves, before its power is brought up to date (R112, R113, R115). -/
def fanStored (x : FanSettings) (s : State) (r : FanRecord) : FanRecord :=
  settle s.thermal.overrideOn { storeFan x r with target := targetOf s.zones (storeFan x r) }

theorem setFan_eq (f : Fan) (x : FanSettings) (s : State) :
    setFan f x s = answerOk (fanSet f x s) ((fanSettings (fanSet f x s).fans[f]).map fun v => [v]) false := rfl

theorem fanSet_frame (f : Fan) (x : FanSettings) (s : State) :
    fanSet f x s = { s with fans := (fanSet f x s).fans, fanReservation := (fanSet f x s).fanReservation } := by
  unfold fanSet
  split <;> rfl

theorem fanSet_none (f : Fan) (s : State) : fanSet f noFanSettings s = s := if_pos rfl

theorem fanSet_carried {x : FanSettings} (h : x ≠ noFanSettings) (f : Fan) (s : State) :
    fanSet f x s = updateReservation (changeFan f (fanStored x s) s) := if_neg h

theorem fanSet_fans_ne {f g : Fan} (h : g ≠ f) (x : FanSettings) (s : State) :
    (fanSet f x s).fans[g] = s.fans[g] := by
  by_cases hx : x = noFanSettings
  · rw [hx, fanSet_none]
  · rw [fanSet_carried hx]
    exact changeFan_fans_ne h (fanStored x s) s

/-- The answered settings are read from the part of a fan that no settling changes. -/
theorem fanSettings_congr {r g : FanRecord} (h : fanFixed g = fanFixed r) : fanSettings g = fanSettings r := by
  have hfixed (r : FanRecord) : fanSettings (fanFixed r) = fanSettings r := rfl
  rw [← hfixed g, h, hfixed]

theorem fanSet_settings (f : Fan) (x : FanSettings) (s : State) :
    fanSettings (fanSet f x s).fans[f] = fanSettings (storeFan x s.fans[f]) := by
  by_cases hx : x = noFanSettings
  · rw [hx, fanSet_none]
    rfl
  · rw [fanSet_carried hx]
    refine fanSettings_congr (Eq.trans (congrArg fanFixed (changeFan_fans_same f (fanStored x s) s)) ?_)
    exact resettled_fixed _ _

/-- The state of SET_FAN_CURVE (R126). -/
def curveSet (f : Fan) (c : Curve) (s : State) : State :=
  updateReservation (changeFan f (fun r => { r with curve := c }) s)

theorem setFanCurve_eq (f : Fan) (c : Curve) (s : State) : setFanCurve f c s =
    answerOk (curveSet f c s) [[[c.p0, c.p1, c.p2, c.p3, c.p4].flatMap be16n]] false := by
  have hfield : curveField c = [c.p0, c.p1, c.p2, c.p3, c.p4].flatMap be16n := rfl
  rw [setFanCurve, hfield]
  rfl

theorem curveSet_fans (f g : Fan) (c : Curve) (s : State) : (curveSet f c s).fans[g] =
    if g = f then
      { s.fans[f] with curve := c, power := fanPower s.thermal.overrideOn { s.fans[f] with curve := c } }
    else s.fans[g] := changeFan_fans f g (fun r => { r with curve := c }) s

/-- The state of SET_FAN_DUTY (R114). -/
def dutySet (f : Fan) (d : Nat) (s : State) : State :=
  if s.fans[f].mode = .manual then updateReservation (retarget f (s.modFan f fun r => { r with manual := d }))
  else s.modFan f fun r => { r with manual := d }

theorem setFanDuty_eq (f : Fan) (d : Nat) (s : State) :
    setFanDuty f d s = answerOk (dutySet f d s) [[be16n d]] false := rfl

theorem dutySet_other {f : Fan} {s : State} (h : s.fans[f].mode ≠ .manual) (d : Nat) :
    dutySet f d s = s.modFan f fun r => { r with manual := d } := if_neg h

/-- In MANUAL the stored duty is the target: one that is held already changes nothing further, any other is settled. -/
theorem dutySet_manual {f : Fan} {s : State} (h : s.fans[f].mode = .manual) (d : Nat) : dutySet f d s =
    updateReservation (
      if d = s.fans[f].target then s.modFan f fun r => { r with manual := d }
      else changeFan f (fun r => settle s.thermal.overrideOn { r with target := d })
        (s.modFan f fun r => { r with manual := d })) := by
  have hstored : (s.modFan f fun r => { r with manual := d }).fans[f] = { s.fans[f] with manual := d } := by
    rw [State.fans_modFan, if_pos rfl]
  rw [dutySet, if_pos h, retarget, hstored, State.modFan_zones, targetOf_manual, if_pos h]
  rfl

theorem dutySet_frame (f : Fan) (d : Nat) (s : State) :
    dutySet f d s = { s with fans := (dutySet f d s).fans, fanReservation := (dutySet f d s).fanReservation } := by
  obtain ⟨fs, h⟩ := retarget_frame f (s.modFan f fun r => { r with manual := d })
  unfold dutySet
  rw [h]
  split <;> rfl

theorem dutySet_fans_ne {f g : Fan} (h : g ≠ f) (d : Nat) (s : State) : (dutySet f d s).fans[g] = s.fans[g] := by
  have hstored : (s.modFan f fun r => { r with manual := d }).fans[g] = s.fans[g] := by
    rw [State.fans_modFan, if_neg h]
  by_cases hmode : s.fans[f].mode = .manual
  · rw [dutySet_manual hmode]
    split
    next => exact hstored
    next => rw [updateReservation_fan, changeFan_fans_ne h, hstored]
  · rw [dutySet_other hmode, hstored]

theorem dutySet_fan {f : Fan} {s : State} (h : s.fans[f].mode = .manual) (d : Nat) : (dutySet f d s).fans[f] =
    if d = s.fans[f].target then { s.fans[f] with manual := d }
    else repower s.thermal.overrideOn
      (settle s.thermal.overrideOn { s.fans[f] with manual := d, target := d }) := by
  have hstored : (s.modFan f fun r => { r with manual := d }).fans[f] = { s.fans[f] with manual := d } := by
    rw [State.fans_modFan, if_pos rfl]
  rw [dutySet_manual h]
  split
  next => exact hstored
  next =>
    rw [updateReservation_fan, changeFan_fans_same, hstored]
    rfl

theorem dutySet_reservation {f : Fan} {s : State} (h : s.fans[f].mode = .manual) (d : Nat) :
    (dutySet f d s).fanReservation = powerSum (dutySet f d s).fans := by
  rw [dutySet_manual h]
  rfl

/-! ### SET_FAN, SET_FAN_CURVE, SET_FAN_DUTY (O39) -/

/-- Settles O39: the fields, then each command as what it makes of its fan, then the settle table row by row. -/
theorem fanCommandsSettleTheFan : Obligations.FanCommandsSettleTheFan := by
  refine ⟨fanArgs_eq_some, curveArgs_eq_some, dutyArgs_eq_some, fun s cs u e items f harrives hcs => ?_,
    fun r overrideOn => ⟨fun h => settle_off h overrideOn, settle_override, fun hmode hon => ?_⟩⟩
  · subst hcs
    refine ⟨fun x hargs => ?_, fun c hargs => ?_, fun d hargs => ?_⟩
    · refine ⟨fanSet f x (commandState s u e), storeFan x s.fans[f], _, ?_, ?_, rfl, rfl, fun hx => ?_,
        fun k hk => fanSet_fans_ne hk x _, fanSet_frame f x _⟩
      · rw [exec_setFan_arrives s u e items harrives, cmdSetFan, withArgs_some hargs, setFan_eq, fanSet_settings]
        rfl
      · rintro rfl
        exact fanSet_none f _
      · rw [fanSet_carried hx]
        exact ⟨changeFan_fans_same f _ _, rfl⟩
    · obtain ⟨-, -, -, h0, h1, h2, h3⟩ := (curveArgs_eq_some items f c).mp hargs
      refine ⟨curveSet f c (commandState s u e), h0, h1, h2, h3, curveArgs_le hargs, ?_,
        (curveSet_fans f f c _).trans (if_pos rfl), fun k hk => (curveSet_fans f k c _).trans (if_neg hk), rfl⟩
      rw [exec_setFanCurve_arrives s u e items harrives, cmdSetFanCurve, withArgs_some hargs, setFanCurve_eq]
      rfl
    · refine ⟨dutySet f d (commandState s u e), dutyArgs_le hargs, ?_,
        fun h => dutySet_other (s := commandState s u e) h d, fun h ht => ?_, fun h ht => ⟨_, rfl, ?_⟩,
        fun h => dutySet_reservation (s := commandState s u e) h d, fun k hk => dutySet_fans_ne hk d _,
        dutySet_frame f d _⟩
      · rw [exec_setFanDuty_arrives s u e items harrives, cmdSetFanDuty, withArgs_some hargs, setFanDuty_eq]
        rfl
      · exact (dutySet_fan (s := commandState s u e) h d).trans (if_pos ht.symm)
      · exact (dutySet_fan (s := commandState s u e) h d).trans (if_neg (Ne.symm ht))
  · subst hon
    refine ⟨fun hspin => ?_, fun hspin hactual htarget => ?_, fun hspin hmoving =>
      ⟨settle_atOnce hmode hspin hmoving, fun hzone hramp => ?_⟩⟩
    · rw [settle_spinning hmode hspin]
      refine ⟨fun ht => if_pos ht, fun ht hs => ?_, fun ht hs => ?_⟩
      · rw [if_neg ht, if_pos hs]
      · rw [if_neg ht, if_neg (by rw [hs]; exact Bool.noConfusion)]
    · rw [settle_starting hmode hspin hactual htarget]
      exact ⟨fun hs hn => if_pos ⟨hs, hn⟩, fun hs => if_neg hs⟩
    · rw [settle_ramping hspin hmoving hzone hramp]
      refine ⟨fun hne hrun => ?_, fun hne hrun => ?_, fun heq => if_neg (not_not.mpr heq)⟩
      · rw [if_pos hne, if_pos hrun]
      · rw [if_pos hne, if_neg (ne_true_of_eq_false hrun)]

end Sys2Proof.Machine
end

section
/-! SUPPORT. The steps of a downstream frame, its delivery and its flood (O30). -/

namespace Sys2Proof.Machine

/-! ### The copies of a frame (R141) -/

theorem deliverCopy_eq (rx : Reception) (i : Slot) (s : State) :
    deliverCopy rx i s = (offerEgress i (rxFrame rx) s).getD (drop (.slot i) .queueFull s) := by
  unfold deliverCopy
  cases offerEgress i (rxFrame rx) s <;> rfl

theorem slotState_running_eq (s : State) (i : Slot) :
    (s.slotState i).running = (s.slotState i == .online || s.slotState i == .capped) := by
  cases s.slotState i <;> rfl

theorem mem_runningMembers (s : State) (g : Segment) (i : Slot) : i ∈ runningMembers s g ↔
    inSlotSet g.members i = true ∧ (s.slotState i = .online ∨ s.slotState i = .capped) := by
  simp [runningMembers, mem_allSlots, slotState_running]

theorem runningMembers_eq_nil {s : State} {g : Segment}
    (h : ∀ i : Slot, inSlotSet g.members i = true → s.slotState i ≠ .online ∧ s.slotState i ≠ .capped) :
    runningMembers s g = [] := by
  refine List.eq_nil_iff_forall_not_mem.mpr fun i hi => ?_
  obtain ⟨hmem, hrun⟩ := (mem_runningMembers s g i).mp hi
  obtain ⟨honline, hcapped⟩ := h i hmem
  exact hrun.elim honline hcapped

section
variable {u : Uplink} {g : Segment} {h : TrafficHeader} {rx : Reception} {s : State}

theorem flood_notOnline (hnone : runningMembers s g = []) : flood u g rx s = drop (.uplink u) .notOnline s := by
  rw [flood, hnone]

theorem flood_copies (hsome : runningMembers s g ≠ []) :
    flood u g rx s = (runningMembers s g).foldl (fun t i => deliverCopy rx i t) s := by
  obtain ⟨i, rest, hl⟩ := List.exists_cons_of_ne_nil hsome
  rw [flood, hl]

/-! ### The delivery by the destination (R141) -/

theorem deliver_owned {i : Slot} (hone : isGroup h.destination = false)
    (howner : ownerOf s.stations h.destination = some i) :
    deliver u g h rx s =
      if inSlotSet g.members i = false then drop (.uplink u) .notMember s
      else if (s.slotState i).running = false then drop (.uplink u) .notOnline s
      else deliverCopy rx i s := by
  simp [deliver, hone, howner]

theorem deliver_flooded (hto : isGroup h.destination = true ∨ ownerOf s.stations h.destination = none) :
    deliver u g h rx s = flood u g rx s := by
  have hnone : (if isGroup h.destination = true then none else ownerOf s.stations h.destination) = none := by
    rcases hto with hgroup | hunknown
    · rw [if_pos hgroup]
    · rw [hunknown, ite_self]
  rw [deliver, hnone]

/-! ### The steps of a downstream frame in their order (R140) -/

theorem selectIncludes_eq_false (k : UplinkSelect) (u : Uplink) :
    selectIncludes k u = false ↔ (k = .a ∧ u = .B) ∨ (k = .b ∧ u = .A) := by
  cases k <;> cases u <;> decide

/-- What the action of its segment makes of a downstream frame on an uplink that the segment includes. -/
def downstreamAction (u : Uplink) (g : Segment) (h : TrafficHeader) (rx : Reception) (s : State) :
    SegmentAction → State
  | .drop => drop (.uplink u) .segDrop s
  | .trap => trapFrame (.uplink u) rx s
  | .forward => deliver u g h rx s

theorem downstream_noSegment (hseg : frameSegment s (s.uplink u).segment h = none) :
    downstream u h rx s = drop (.uplink u) .noSegment s := by
  rw [downstream, hseg]

theorem downstream_segment (hseg : frameSegment s (s.uplink u).segment h = some g) :
    downstream u h rx s =
      if selectIncludes g.select u = false then drop (.uplink u) .wrongUplink s
      else downstreamAction u g h rx s g.action := by
  rw [downstream, hseg]
  simp only [Bool.not_eq_true']
  cases g.action with
  | drop => rfl
  | trap => rfl
  | forward => rfl

end

/-! ### The downstream frame (O30) -/

theorem exec_downstreamFrame_arrives {s : State} {rx : Reception} (u : Uplink) (hcrc : rx.crcMatches = true)
    (hleast : 64 ≤ rx.octets.length + 4) (hmost : rx.octets.length + 4 ≤ s.fwd.maxLength)
    (hflow : word16At rx.octets 12 ≠ 0x8808#16) (hown : stationAt rx.octets 0 ≠ s.station)
    (hgroup : stationAt rx.octets 0 ≠ 0x07E56A000001#48) :
    exec (.downstreamFrame u rx) s = .next (close (countReceived (.uplink u) s)
      (downstream u (trafficHeader s rx.octets) rx (countReceived (.uplink u) s)) false) :=
  congrArg Host.Outcome.next (receive_traffic (.uplink u) hcrc hleast hmost hflow hown hgroup)

/-- Settles O30: a downstream frame meets the steps of R140 in their order, and a FORWARD frame is delivered or flooded
by R141. The counted reception changes nothing that they read. -/
theorem downstreamFramesAreDelivered : Obligations.DownstreamFramesAreDelivered := by
  refine ⟨fun _ => rfl, ?_⟩
  intro u rx s r h hcrc hleast hmost hflow hown hgroup hh hr
  have hstate (i : Slot) : r.slotState i = s.slotState i := hr ▸ rfl
  have hstations : r.stations = s.stations := hr ▸ rfl
  have huplink : r.uplink u = s.uplink u := by rw [hr, countReceived, State.modCounters_uplink]
  have hsegment : frameSegment r (s.uplink u).segment h = frameSegment s (s.uplink u).segment h := hr ▸ rfl
  have hexec := exec_downstreamFrame_arrives u hcrc hleast hmost hflow hown hgroup
  rw [show trafficHeader s rx.octets = h from hh.symm, ← hr] at hexec
  simp only [← hstate, ← hstations, ← deliverCopy_eq, ← slotState_running_eq]
  rw [← hsegment, ← huplink]
  refine ⟨_, hexec, downstream_noSegment, fun g hseg => ?_⟩
  rw [downstream_segment hseg]
  refine ⟨fun hwrong => if_pos ((selectIncludes_eq_false _ _).mpr hwrong), fun hright => ?_⟩
  rw [if_neg fun hfalse => hright ((selectIncludes_eq_false _ _).mp hfalse)]
  refine ⟨fun hdrop => by rw [hdrop, downstreamAction], fun htrap => ?_, fun hforward => ?_⟩
  · rw [htrap, downstreamAction]
    exact ⟨trapFrame_refused, fun _ => trapFrame_admitted⟩
  · rw [hforward, downstreamAction]
    refine ⟨fun i hone howner => ?_, fun hto => ?_⟩
    · rw [deliver_owned hone howner]
      refine ⟨fun hmem => if_pos hmem, fun hmem honline hcapped => ?_, fun hmem hrun => ?_⟩
      · have hstop : (r.slotState i).running = false :=
          Bool.eq_false_iff.mpr fun hrun => ((slotState_running r i).mp hrun).elim honline hcapped
        rw [if_neg (by simp [hmem]), if_pos hstop]
      · rw [if_neg (by simp [hmem]), if_neg (by simp [(slotState_running r i).mpr hrun])]
    · rw [deliver_flooded hto]
      refine ⟨fun hstopped => flood_notOnline (runningMembers_eq_nil hstopped), ?_⟩
      rintro ⟨i, hi⟩
      exact flood_copies (List.ne_nil_of_mem ((mem_runningMembers r g i).mpr hi))

end Sys2Proof.Machine
end

section
/-! SUPPORT. SET_UPLINK and SET_QUEUE (O41). -/

namespace Sys2Proof.Machine

/-! ### The fields of SET_UPLINK (R144, R181) -/

theorem hasField_eq_false (n : Nat) (items : List Item) : hasField n items = false ↔ fieldNat n items = none := by
  rw [Bool.eq_false_iff, ne_eq, hasField_iff, not_not]

theorem uplinkArgs_uplink_iff (items : List Item) (u : Uplink) (management : Option Bool)
    (segment : Option (Option Nat)) : uplinkArgs items = some (.uplink u management segment) ↔
      itemsFit [opt 1 1, opt 2 1, opt 3 2, opt 4 2, opt 5 2, opt 6 2] items = true ∧
      fieldNat 1 items = some (if u = .A then 1 else 2) ∧ (∀ k ∈ [4, 5, 6], fieldNat k items = none) ∧
      management.map flagValue = fieldNat 2 items ∧ segment.map (fun g => g.getD 0) = fieldNat 3 items ∧
      ∀ id, segment = some (some id) → 1 ≤ id ∧ id ≤ 4094 := by
  rw [uplinkArgs, Option.ite_none_right_eq_some]
  refine and_congr_right fun _ => ?_
  cases fieldNat 1 items with
  | none => simp
  | some n =>
    simp only [Option.ite_none_left_eq_some, Bool.or_eq_true, not_or, Bool.not_eq_true, hasField_eq_false,
      Option.bind_eq_bind, Option.bind_eq_some_iff, fieldEnum_eq_some flagCode_eq_some, fieldEnum_segment,
      uplinkCode_eq_some, Option.some_inj, UplinkArgs.uplink.injEq, List.forall_mem_cons, List.not_mem_nil,
      false_implies, implies_true, and_true]
    constructor
    · rintro ⟨⟨⟨h4, h5⟩, h6⟩, _, hu, _, hm, _, hg, rfl, rfl, rfl⟩
      exact ⟨hu, ⟨h4, h5, h6⟩, hm, hg⟩
    · rintro ⟨hu, ⟨h4, h5, h6⟩, hm, hg⟩
      exact ⟨⟨⟨h4, h5⟩, h6⟩, u, hu, management, hm, segment, hg, rfl, rfl, rfl⟩

theorem uplinkArgs_chassis_iff (items : List Item) (maxLength : Option Nat) (tagType controlType : Option Word16) :
    uplinkArgs items = some (.chassis maxLength tagType controlType) ↔
      itemsFit [opt 1 1, opt 2 1, opt 3 2, opt 4 2, opt 5 2, opt 6 2] items = true ∧
      (∀ k ∈ [1, 2, 3], fieldNat k items = none) ∧
      maxLength = (fieldNat 4 items).map (fun v => max 64 (min v 2048)) ∧
      tagType.map BitVec.toNat = fieldNat 5 items ∧ controlType.map BitVec.toNat = fieldNat 6 items := by
  rw [uplinkArgs, Option.ite_none_right_eq_some]
  refine and_congr_right fun hfit => ?_
  have hwidth (n : Nat) (hn : n = 5 ∨ n = 6) (v : Nat) (hv : fieldNat n items = some v) : v < 2 ^ 16 := by
    rcases hn with rfl | rfl <;> simpa [opt] using fieldNat_lt hfit hv
  cases hone : fieldNat 1 items with
  | none =>
    simp only [Option.ite_none_left_eq_some, Bool.or_eq_true, not_or, Bool.not_eq_true, hasField_eq_false,
      Option.some_inj, UplinkArgs.chassis.injEq, map_ofNat (hwidth 5 (.inl rfl)), map_ofNat (hwidth 6 (.inr rfl)),
      List.forall_mem_cons, hone, List.not_mem_nil, false_implies, implies_true, and_true, true_and]
    exact and_congr_right fun _ => and_congr_left fun _ => eq_comm
  | some n => simp [hone, Option.bind_eq_some_iff]

/-! ### The fields of SET_QUEUE (R160, R181) -/

theorem queueArgs_classQueue_iff (items : List Item) (u : Uplink) (c : Cls) (limit high low : Option Nat) :
    queueArgs items = some (.classQueue u c limit high low) ↔
      itemsFit [opt 1 1, opt 2 1, opt 3 1, opt 4 2, opt 5 2, opt 6 2] items = true ∧
      fieldNat 1 items = some (if u = .A then 1 else 2) ∧ fieldNat 2 items = some c.val ∧ fieldNat 3 items = none ∧
      limit = (fieldNat 4 items).map (fun v => max 8 (min v 256)) ∧ high = fieldNat 5 items ∧
      low = fieldNat 6 items := by
  rw [queueArgs, Option.ite_none_right_eq_some]
  refine and_congr_right fun _ => ?_
  split
  next n k h1 h2 h3 =>
    simp only [h1, h2, h3, Option.bind_eq_bind, Option.bind_eq_some_iff, uplinkCode_eq_some, classCode_eq_some,
      Option.some_inj, QueueArgs.classQueue.injEq, true_and]
    constructor
    · rintro ⟨_, hu, _, hc, rfl, rfl, hl, hh, hw⟩
      exact ⟨hu, hc, hl.symm, hh.symm, hw.symm⟩
    · rintro ⟨hu, hc, hl, hh, hw⟩
      exact ⟨u, hu, c, hc, rfl, rfl, hl.symm, hh.symm, hw.symm⟩
  next n h1 h2 h3 => simp [h1]
  next hclass _ =>
    simp only [reduceCtorEq, false_iff]
    rintro ⟨h1, h2, h3, -⟩
    exact hclass _ _ h1 h2 h3

theorem queueArgs_egress_iff (items : List Item) (i : Slot) (limit : Option Nat) :
    queueArgs items = some (.egress i limit) ↔
      itemsFit [opt 1 1, opt 2 1, opt 3 1, opt 4 2, opt 5 2, opt 6 2] items = true ∧
      (∀ k ∈ [1, 2, 5, 6], fieldNat k items = none) ∧ fieldNat 3 items = some (i.val + 1) ∧
      limit = (fieldNat 4 items).map (fun v => max 4 (min v 64)) := by
  rw [queueArgs, Option.ite_none_right_eq_some]
  refine and_congr_right fun _ => ?_
  split
  next n k h1 h2 h3 => simp [h1, Option.bind_eq_some_iff]
  next n h1 h2 h3 =>
    simp only [Option.ite_none_left_eq_some, Bool.or_eq_true, not_or, Bool.not_eq_true, hasField_eq_false,
      Option.map_eq_some_iff, memberOf_eq_some, QueueArgs.egress.injEq, List.forall_mem_cons, h1, h2, h3,
      List.not_mem_nil, false_implies, implies_true, and_true, true_and, Option.some_inj]
    constructor
    · rintro ⟨hnone, _, hi, rfl, hl⟩
      exact ⟨hnone, hi, hl.symm⟩
    · rintro ⟨hnone, hi, hl⟩
      exact ⟨hnone, i, hi, rfl, hl.symm⟩
  next hegress =>
    simp only [reduceCtorEq, false_iff, List.forall_mem_cons]
    rintro ⟨⟨h1, h2, -⟩, h3, -⟩
    exact hegress _ h1 h2 h3

/-! ### What SET_UPLINK gives (R144) -/

@[simp] theorem commandState_uplink (s : State) (u : Uplink) (e : Envelope) (v : Uplink) :
    (commandState s u e).uplink v = s.uplink v := by
  cases v <;> rfl

theorem typesFit_eq_false (tagType controlType : Word16) : typesFit tagType controlType = false ↔
    tagType = controlType ∨ tagType = 0x8808#16 ∨ controlType = 0x8808#16 := by
  simp only [typesFit, Bool.and_eq_false_iff, decide_eq_false_iff_not, ne_eq, not_not, or_assoc]

theorem setUplinkForm_refused {v : Uplink} {management : Option Bool} {s : State} (hclear : management = some false)
    (hother : (s.uplink (otherUplink v)).management = false) (segment : Option (Option Nat)) :
    setUplinkForm v management segment s = refuse s .badValue :=
  if_pos ⟨hclear, hother⟩

theorem setUplinkForm_stored {v : Uplink} {management : Option Bool} {s : State}
    (h : management ≠ some false ∨ (s.uplink (otherUplink v)).management = true) (segment : Option (Option Nat)) :
    setUplinkForm v management segment s =
      answerOk
        (s.modUplink v fun r =>
          { r with management := management.getD r.management, segment := segment.getD r.segment })
        [ifCarried flagOctet management, ifCarried segmentField segment] false := by
  refine if_neg ?_
  rintro ⟨hclear, hother⟩
  exact h.elim (· hclear) fun htrue => by simp [hother] at htrue

section
variable {tagType controlType : Option Word16} {s : State}

theorem setChassisForm_refused (hcarried : tagType ≠ none ∨ controlType ≠ none)
    (hbad : typesFit (tagType.getD s.fwd.tagType) (controlType.getD s.fwd.controlType) = false)
    (maxLength : Option Nat) : setChassisForm maxLength tagType controlType s = refuse s .badValue :=
  if_pos (by simpa [hbad, Option.isSome_iff_ne_none] using hcarried)

theorem setChassisForm_stored (h : (tagType = none ∧ controlType = none) ∨
      typesFit (tagType.getD s.fwd.tagType) (controlType.getD s.fwd.controlType) = true) (maxLength : Option Nat) :
    setChassisForm maxLength tagType controlType s =
      answerOk
        { s with fwd := { s.fwd with
            maxLength := maxLength.getD s.fwd.maxLength, tagType := tagType.getD s.fwd.tagType
            controlType := controlType.getD s.fwd.controlType } }
        [[], [], ifCarried be16n maxLength, ifCarried be16 tagType, ifCarried be16 controlType] false := by
  refine if_neg ?_
  rcases h with ⟨rfl, rfl⟩ | hfit
  · simp
  · simp [hfit]

end

/-! ### What SET_QUEUE gives (R160) -/

/-- The pair of watermarks that SET_QUEUE leaves in a queue: those carried, and the staged or current ones for the
rest. -/
def resultingMarks (high low : Option Nat) (q : ClassQueue) : Watermarks where
  high := high.getD (q.staged.getD q.marks).high
  low := low.getD (q.staged.getD q.marks).low

theorem setClassQueue_refused {v : Uplink} {c : Cls} {limit high low : Option Nat} {s : State} {w : Watermarks}
    (hw : w = resultingMarks high low (s.uplink v).queues[c])
    (hbad : ¬(1 ≤ w.low ∧ w.low < w.high ∧ w.high ≤ limit.getD (s.uplink v).queues[c].limit)) :
    setClassQueue v c limit high low s = refuse s .badValue := by
  subst hw
  exact if_neg hbad

/-- What SET_QUEUE answers once its limit and watermarks are stored: the carried limit, the pair where one was carried,
and whether a pair is staged. -/
def queueAnswer (v : Uplink) (c : Cls) (limit : Option Nat) (marks : List (List Octets)) (s : State) : Answer :=
  answerOk s (ifCarried be16n limit :: marks ++ [[flagOctet (s.uplink v).queues[c].staged.isSome]]) false

theorem modClass_congr {v : Uplink} {c : Cls} {f g : ClassQueue → ClassQueue} {s : State}
    (h : f (s.uplink v).queues[c] = g (s.uplink v).queues[c]) : s.modClass v c f = s.modClass v c g := by
  cases v with
  | A => simp only [State.modClass, State.modUplink, show f s.uplinkA.queues[c] = g s.uplinkA.queues[c] from h]
  | B => simp only [State.modClass, State.modUplink, show f s.uplinkB.queues[c] = g s.uplinkB.queues[c] from h]

/-- The class queue after SET_QUEUE: its limit in force, a pair of watermarks stored where one was carried (R160). -/
def limitedQueue (limit high low : Option Nat) (w : Watermarks) (q : ClassQueue) : ClassQueue :=
  if (high.isSome || low.isSome) = true then storeMarks w { q with limit := limit.getD q.limit }
  else { q with limit := limit.getD q.limit }

/-- The answered pair of watermarks, empty where none was carried. -/
def marksAnswer (high low : Option Nat) (w : Watermarks) : List (List Octets) :=
  [if (high.isSome || low.isSome) = true then [be16n w.high] else [],
    if (high.isSome || low.isSome) = true then [be16n w.low] else []]

theorem setClassQueue_stored {v : Uplink} {c : Cls} {limit high low : Option Nat} {s : State} {w : Watermarks}
    (hw : w = resultingMarks high low (s.uplink v).queues[c])
    (hgood : 1 ≤ w.low ∧ w.low < w.high ∧ w.high ≤ limit.getD (s.uplink v).queues[c].limit) :
    setClassQueue v c limit high low s =
      queueAnswer v c limit (marksAnswer high low w) (s.modClass v c (limitedQueue limit high low w)) := by
  subst hw
  have hmod : (s.modClass v c fun q =>
      if (high.isSome || low.isSome) = true then
        storeMarks (resultingMarks high low (s.uplink v).queues[c])
          { q with limit := limit.getD (s.uplink v).queues[c].limit }
      else { q with limit := limit.getD (s.uplink v).queues[c].limit }) =
        s.modClass v c (limitedQueue limit high low (resultingMarks high low (s.uplink v).queues[c])) :=
    modClass_congr rfl
  rw [← hmod]
  exact if_pos hgood

section
variable {high low : Option Nat}

theorem carried_isSome (h : high ≠ none ∨ low ≠ none) : (high.isSome || low.isSome) = true := by
  simpa [Option.isSome_iff_ne_none] using h

theorem marksAnswer_carried (h : high ≠ none ∨ low ≠ none) (w : Watermarks) :
    marksAnswer high low w = [[be16n w.high], [be16n w.low]] := by
  simp [marksAnswer, carried_isSome h]

theorem limitedQueue_inForce (h : high ≠ none ∨ low ≠ none) (limit : Option Nat) (w : Watermarks) {q : ClassQueue}
    (hq : q.congested = false) :
    limitedQueue limit high low w q = { q with limit := limit.getD q.limit, marks := w } :=
  (if_pos (carried_isSome h)).trans (if_neg (by simp [hq]))

theorem limitedQueue_staged (h : high ≠ none ∨ low ≠ none) (limit : Option Nat) (w : Watermarks) {q : ClassQueue}
    (hq : q.congested = true) :
    limitedQueue limit high low w q = { q with limit := limit.getD q.limit, staged := some w } :=
  (if_pos (carried_isSome h)).trans (if_pos hq)

end

/-! ### SET_UPLINK and SET_QUEUE (O41) -/

/-- Settles O41: the fields of the two commands, then each form as what it stores or why it is refused. -/
theorem setUplinkAndQueueStoreTheirSettings : Obligations.SetUplinkAndQueueStoreTheirSettings := by
  refine ⟨uplinkArgs_uplink_iff, uplinkArgs_chassis_iff, queueArgs_classQueue_iff, queueArgs_egress_iff, ?_⟩
  intro s cs u e items harrives hcs
  have huplink (v : Uplink) : cs.uplink v = s.uplink v := by rw [hcs, commandState_uplink]
  have hfwd : cs.fwd = s.fwd := hcs ▸ rfl
  have hexecUplink {a : UplinkArgs} (hargs : uplinkArgs items = some a) :
      exec (.setUplink u e items) s = .next (commandDone s u e 0x19#16 (setUplink a cs)) := by
    rw [exec_setUplink_arrives s u e items harrives, cmdSetUplink, withArgs_some hargs, hcs]
  have hexecQueue {a : QueueArgs} (hargs : queueArgs items = some a) :
      exec (.setQueue u e items) s = .next (commandDone s u e 0x1A#16 (setQueueLimits a cs)) := by
    rw [exec_setQueue_arrives s u e items harrives, cmdSetQueue, withArgs_some hargs, hcs]
  refine ⟨fun v management segment hargs => ?_, fun maxLength tagType controlType tt ct hargs htt hct => ?_,
    fun v c limit high low q w hargs hq hw => ?_, fun i limit hargs => ?_⟩
  · rw [hexecUplink hargs, setUplink, ← huplink]
    refine ⟨fun hclear hother => ?_, fun h => ?_⟩
    · rw [setUplinkForm_refused hclear hother]
      rfl
    · rw [setUplinkForm_stored h]
      rfl
  · rw [hexecUplink hargs, setUplink, ← hfwd]
    rw [← hfwd] at htt hct
    subst htt hct
    rw [← typesFit_eq_false]
    refine ⟨fun hcarried hbad => ?_, fun h => ?_⟩
    · rw [setChassisForm_refused hcarried hbad]
      rfl
    · rw [setChassisForm_stored (h.imp_right fun hgood => ?_)]
      · rfl
      · rw [← Bool.not_eq_false, typesFit_eq_false]
        simpa only [not_or] using hgood
  · rw [hexecQueue hargs, setQueueLimits]
    rw [← huplink] at hq
    subst hq
    refine ⟨fun hbad => ?_, fun hleast hless hmost => ?_⟩
    · rw [setClassQueue_refused hw hbad]
      rfl
    · refine ⟨_, _, by rw [setClassQueue_stored hw ⟨hleast, hless, hmost⟩]; rfl, fun h => marksAnswer_carried h w, ?_,
        fun h hq => modClass_congr (limitedQueue_inForce h limit w hq),
        fun h hq => modClass_congr (limitedQueue_staged h limit w hq), ?_⟩
      · rintro rfl rfl
        rfl
      · rintro rfl rfl
        rfl
  · rw [hexecQueue hargs]
    rfl

end Sys2Proof.Machine
end

section
/-! SUPPORT. INJECT, CLEAR_ALERTS, CLEAR_COUNTERS and RESTART (O45). -/

namespace Sys2Proof.Machine

/-! ### The fields of INJECT (R145, R181) -/

/-- The value of a field has a length that the command lists for its number. -/
theorem fieldOctets_length {spec : List FieldSpec} {items : List Item} (hfit : itemsFit spec items = true) {n : Nat}
    {o : Octets} (ho : fieldOctets n items = some o) :
    ∃ f ∈ spec, f.number = n ∧ f.least ≤ o.length ∧ o.length ≤ f.most := by
  obtain ⟨it, hit, rfl⟩ := Option.map_eq_some_iff.mp ho
  have hn : it.field.toNat = n := by simpa using List.find?_some hit
  rw [itemsFit, Bool.and_eq_true] at hfit
  obtain ⟨f, hf, hfield⟩ := List.any_eq_true.mp (List.all_eq_true.mp hfit.1 it (List.mem_of_find?_eq_some hit))
  simp only [Bool.and_eq_true, decide_eq_true_eq] at hfield
  obtain ⟨⟨hnumber, hleast⟩, hmost⟩ := hfield
  exact ⟨f, hf, hnumber.symm.trans hn, hleast, hmost⟩

theorem injectArgs_eq_some (items : List Item) (i : Slot) (o : Octets) : injectArgs items = some (i, o) ↔
    itemsFit [req 1 1, { number := 2, least := 60, most := 1996, required := true }] items = true ∧
    fieldNat 1 items = some (i.val + 1) ∧ fieldOctets 2 items = some o := by
  rw [injectArgs, Option.ite_none_right_eq_some, ← fieldSlot_eq_some]
  refine and_congr_right fun _ => ?_
  cases fieldSlot 1 items with
  | none => simp
  | some j => cases fieldOctets 2 items <;> simp

theorem injectArgs_range {items : List Item} {i : Slot} {o : Octets} (h : injectArgs items = some (i, o)) :
    60 ≤ o.length ∧ o.length ≤ 1996 := by
  obtain ⟨hfit, -, ho⟩ := (injectArgs_eq_some items i o).mp h
  simpa [req] using fieldOctets_length hfit ho

/-! ### The fields of CLEAR_ALERTS (R170, R181) -/

theorem alertKindCode_eq_some (v : Nat) (k : AlertKind) : alertKindCode v = some k ↔ v = k.code := by
  have hmem : k ∈ allAlertKinds := by cases k <;> decide
  rw [alertKindCode, find?_key_eq_some (by decide), eq_comm (a := v)]
  exact and_iff_right hmem

theorem alertPair_eq_some (o : Octets) (a : Alert) : alertPair o = some a ↔
    (octetAt o 0).toNat = a.kind.code ∧ (octetAt o 1).toNat = a.index ∧ a.kind.admitsIndex a.index = true := by
  obtain ⟨kind, index⟩ := a
  rw [← alertKindCode_eq_some, alertPair]
  cases alertKindCode (octetAt o 0).toNat with
  | none => simp
  | some k =>
    simp only [Option.ite_none_right_eq_some, Option.some_inj, Alert.mk.injEq]
    constructor
    · rintro ⟨hrange, rfl, rfl⟩
      exact ⟨rfl, rfl, hrange⟩
    · rintro ⟨rfl, rfl, hrange⟩
      exact ⟨hrange, rfl, rfl⟩

theorem valuesOf_eq_nil (n : Nat) (items : List Item) : valuesOf n items = [] ↔ hasField n items = false := by
  simp [valuesOf, hasField, fieldOctets]

theorem clearAlertsArgs_eq_some (items : List Item) (pairs : Option (List Alert)) :
    clearAlertsArgs items = some pairs ↔
      itemsFit [{ number := 1, least := 2, most := 2, repeatable := true }, opt 2 0] items = true ∧
      (pairs = none → valuesOf 1 items = [] ∧ valuesOf 2 items ≠ []) ∧
      ∀ l, pairs = some l → valuesOf 1 items ≠ [] ∧ valuesOf 2 items = [] ∧
        List.Forall₂ (fun (o : Octets) (a : Alert) => (octetAt o 0).toNat = a.kind.code ∧
          (octetAt o 1).toNat = a.index ∧ a.kind.admitsIndex a.index = true) (valuesOf 1 items) l := by
  have hread (l : List Alert) : readEach alertPair (fieldAll 1 items) = some l ↔
      List.Forall₂ (fun (o : Octets) (a : Alert) => (octetAt o 0).toNat = a.kind.code ∧
        (octetAt o 1).toNat = a.index ∧ a.kind.admitsIndex a.index = true) (valuesOf 1 items) l :=
    readEach_iff alertPair_eq_some (valuesOf 1 items) l
  rw [clearAlertsArgs, Option.ite_none_right_eq_some]
  refine and_congr_right fun _ => ?_
  simp only [ne_eq, valuesOf_eq_nil, ← hread]
  split
  next h1 h2 => cases pairs <;> simp [h1, h2]
  next h1 h2 => cases pairs <;> simp [h1, h2]
  next h1 h2 => cases pairs <;> simp [h1, h2]
  next h1 h2 => cases pairs <;> simp [h1, h2]

/-! ### What INJECT gives (R145) -/

section
variable {i : Slot} {o : Octets} {s : State}

theorem injectFrame_admitted {t : State} (hrun : (s.slotState i).running = true)
    (ho : offerEgress i { octets := o, fcs := none } s = some t) : injectFrame i o s = answerOk t [] false := by
  rw [injectFrame, if_pos hrun, ho]

theorem injectFrame_full (hrun : (s.slotState i).running = true)
    (ho : offerEgress i { octets := o, fcs := none } s = none) : injectFrame i o s = refuse s .full := by
  rw [injectFrame, if_pos hrun, ho]

theorem injectFrame_badState (hrun : (s.slotState i).running ≠ true) : injectFrame i o s = refuse s .badState :=
  if_neg hrun

end

/-! ### Every member of a part rewritten (R159) -/

/-- One member rewritten by a rule, with the cells that it gives up returned. -/
def rewriteMember {α : Type} {n : Nat} (rule : α → α) (cells : α → Nat) (p : Vector α n × Nat) (k : Fin n) :
    Vector α n × Nat :=
  (p.1.set k (rule p.1[k]), p.2 + cells p.1[k])

/-- Where no member is rewritten twice, each has what the rule makes of it, and the cells given up add up. -/
theorem foldl_rewriteMember {α : Type} {n : Nat} (rule : α → α) (cells : α → Nat) {l : List (Fin n)} (hl : l.Nodup)
    (v : Vector α n) (free : Nat) :
    l.foldl (rewriteMember rule cells) (v, free) =
      (Vector.ofFn fun k => if k ∈ l then rule v[k] else v[k], free + (l.map fun k => cells v[k]).sum) := by
  induction l generalizing v free with
  | nil => simp
  | cons k l ih =>
    obtain ⟨hk, hl⟩ := List.nodup_cons.mp hl
    have hset (j : Fin n) : (v.set k (rule v[k]))[j] = if j = k then rule v[k] else v[j] := by
      simp only [Fin.getElem_fin, Vector.getElem_set, Fin.ext_iff, eq_comm]
    have hcells : (l.map fun j => cells (v.set k (rule v[k]))[j]) = l.map fun j => cells v[j] :=
      List.map_congr_left fun j hj => by rw [hset, if_neg (ne_of_mem_of_not_mem hj hk)]
    rw [List.foldl_cons, rewriteMember, ih hl, hcells, List.map_cons, List.sum_cons, Nat.add_assoc]
    congr 1
    refine congrArg Vector.ofFn (funext fun j => ?_)
    rw [hset]
    by_cases hj : j = k
    · subst hj
      simp [hk]
    · simp [hj]

theorem foldl_rewriteMember_all {α : Type} {n : Nat} (rule : α → α) (cells : α → Nat) {l : List (Fin n)} (hl : l.Nodup)
    (hall : ∀ k, k ∈ l) (v : Vector α n) (free : Nat) :
    l.foldl (rewriteMember rule cells) (v, free) =
      (v.map rule, free + (l.map fun k => cells v[k]).sum) := by
  rw [foldl_rewriteMember rule cells hl]
  congr 1
  ext k hk
  simp [hall]

/-- A step that rewrites a slot's record by a rule and returns the cells that it gives up, over every slot. -/
theorem foldl_allSlots {step : State → Slot → State} {rule : SlotRecord → SlotRecord} {cells : SlotRecord → Nat}
    (h : ∀ t i, step t i = { t.modSlot i rule with freeCells := t.freeCells + cells (t.slot i) }) (s : State) :
    allSlots.foldl step s = { s with
      slots := s.slots.map rule, freeCells := s.freeCells + (allSlots.map fun i => cells (s.slot i)).sum } := by
  have hfold := List.foldl_hom (l := allSlots) (init := (s.slots, s.freeCells))
    (fun p : Vector SlotRecord 16 × Nat => ({ s with slots := p.1, freeCells := p.2 } : State))
    (g₁ := rewriteMember rule cells) (g₂ := step) fun _ i => h _ i
  rw [foldl_rewriteMember_all rule cells (by decide) mem_allSlots] at hfold
  exact hfold

/-- An uplink with each of its class queues rewritten by a rule. -/
def mapQueues (rule : ClassQueue → ClassQueue) (r : UplinkRecord) : UplinkRecord :=
  { r with queues := r.queues.map rule }

/-- A step that rewrites a class queue by a rule and returns the cells that it gives up, over every class. -/
theorem foldl_allClasses {step : Cls → State → State} {rule : ClassQueue → ClassQueue} {cells : ClassQueue → Nat}
    (u : Uplink)
    (h : ∀ c t, step c t =
      { t with freeCells := t.freeCells + cells (t.uplink u).queues[c] }.modClass u c rule) (s : State) :
    allClasses.foldl (fun t c => step c t) s =
      { s with freeCells := s.freeCells + (allClasses.map fun c => cells (s.uplink u).queues[c]).sum }.modUplink u
        (mapQueues rule) := by
  have hfold := List.foldl_hom (l := allClasses) (init := ((s.uplink u).queues, s.freeCells))
    (fun p : Vector ClassQueue 4 × Nat =>
      ({ s with freeCells := p.2 } : State).modUplink u fun r => { r with queues := p.1 })
    (g₁ := rewriteMember rule cells) (g₂ := fun t c => step c t) fun _ c => by rw [h]; cases u <;> rfl
  rw [foldl_rewriteMember_all rule cells (by decide) (by decide)] at hfold
  cases u with
  | A => exact hfold
  | B => exact hfold

/-- A step that rewrites a class queue by a rule and returns the cells that it gives up, over every class queue. -/
theorem eachClass_eq {step : Uplink → Cls → State → State} {rule : ClassQueue → ClassQueue} {cells : ClassQueue → Nat}
    (h : ∀ u c t, step u c t =
      { t with freeCells := t.freeCells + cells (t.uplink u).queues[c] }.modClass u c rule) (s : State) :
    eachClass step s = { s with
      uplinkA := mapQueues rule s.uplinkA, uplinkB := mapQueues rule s.uplinkB
      freeCells := s.freeCells +
        (allUplinks.map fun u => (allClasses.map fun c => cells (s.uplink u).queues[c]).sum).sum } := by
  rw [eachClass, allUplinks, List.foldl_cons, List.foldl_cons, List.foldl_nil, foldl_allClasses .A (h .A),
    foldl_allClasses .B (h .B), List.map_cons, List.map_cons, List.map_nil, List.sum_cons, List.sum_cons, List.sum_nil,
    Nat.add_zero, ← Nat.add_assoc]
  rfl

/-! ### What RESTART gives (R159, R172) -/

/-- A slot record after the release of R159 step 1. -/
def releasedRecord (r : SlotRecord) : SlotRecord :=
  if r.que.backpressure = true then
    { r with que := { r.que with backpressure := false, refresh := .stopped, pendingPause := some 0 } }
  else r

/-- A slot record after R159. -/
def restartedRecord (r : SlotRecord) : SlotRecord :=
  { r with que := { r.que with
    egress := [], control := [], backpressure := false
    refresh := if r.que.backpressure = true then .stopped else r.que.refresh
    pendingPause := if r.que.backpressure = true then some 0 else r.que.pendingPause } }

/-- A class queue after R159. -/
def restartedQueue (q : ClassQueue) : ClassQueue :=
  { q with entries := [], congested := false, held := 0, staged := none, marks := q.staged.getD q.marks }

theorem releasedRecord_egress (r : SlotRecord) : (releasedRecord r).que.egress = r.que.egress := by
  unfold releasedRecord
  split <;> rfl

theorem releasedRecord_emptied (r : SlotRecord) :
    { releasedRecord r with que := { (releasedRecord r).que with egress := [], control := [] } } =
      restartedRecord r := by
  unfold releasedRecord restartedRecord
  split
  next => simp
  next hflag => simp [hflag]

theorem mapQueues_entries {rule : ClassQueue → ClassQueue} (h : ∀ q, (rule q).entries = q.entries) (r : UplinkRecord)
    (c : Cls) : (mapQueues rule r).queues[c].entries = r.queues[c].entries := by
  simp [mapQueues, h]

theorem mapQueues_mapQueues (f g : ClassQueue → ClassQueue) (r : UplinkRecord) :
    mapQueues f (mapQueues g r) = mapQueues (fun q => f (g q)) r := by
  simp [mapQueues, Function.comp_def]

theorem modSlot_unchanged {i : Slot} {f : SlotRecord → SlotRecord} {s : State} (h : f (s.slot i) = s.slot i) :
    s.modSlot i f = s := by
  rw [State.modSlot_congr (g := id) h]
  simp [State.modSlot]

theorem releaseFlagged_eq (s : State) : releaseFlagged s = { s with slots := s.slots.map releasedRecord } := by
  refine (foldl_allSlots (rule := releasedRecord) (cells := fun _ => 0) (fun t i => ?_) s).trans (by simp)
  split
  next hflag =>
    rw [releaseSlot, State.modQue_eq]
    exact State.modSlot_congr (by rw [releasedRecord, if_pos hflag])
  next hflag => exact (modSlot_unchanged (if_neg hflag)).symm

theorem clearQueues_eq (s : State) : eachClass (fun u c t => t.modClass u c clearCongestion) s = { s with
    uplinkA := mapQueues clearCongestion s.uplinkA, uplinkB := mapQueues clearCongestion s.uplinkB } :=
  (eachClass_eq (rule := clearCongestion) (cells := fun _ => 0) (fun _ _ _ => rfl) s).trans (by simp)

theorem flushQueues_eq (s : State) : eachClass flushClass s = { s with
    uplinkA := mapQueues (fun q => { q with entries := [] }) s.uplinkA
    uplinkB := mapQueues (fun q => { q with entries := [] }) s.uplinkB
    freeCells := s.freeCells +
      (allUplinks.map fun u => (allClasses.map fun c => entryCells (s.uplink u).queues[c].entries).sum).sum } :=
  eachClass_eq (rule := fun q => { q with entries := [] }) (cells := fun q => entryCells q.entries) (fun _ _ _ => rfl) s

theorem flushLinks_eq (s : State) : allSlots.foldl (fun t i => flushLink i t) s = { s with
    slots := s.slots.map fun r => { r with que := { r.que with egress := [], control := [] } }
    freeCells := s.freeCells + (allSlots.map fun i => frameCells (s.slot i).que.egress).sum } :=
  foldl_allSlots (rule := fun r => { r with que := { r.que with egress := [], control := [] } })
    (cells := fun r => frameCells r.que.egress)
    (fun t i => by simp [flushLink, flushEgress, State.modSlot, State.slot]) s

/-- The queues after R159. -/
theorem restartQueues_eq (s : State) : restartQueues s = { s with
    slots := s.slots.map restartedRecord
    uplinkA := mapQueues restartedQueue s.uplinkA, uplinkB := mapQueues restartedQueue s.uplinkB
    freeCells := s.freeCells + trapCells s.trapQueue +
      (allSlots.map fun i => frameCells (s.slot i).que.egress).sum +
      (allUplinks.map fun v => (allClasses.map fun c => entryCells (s.uplink v).queues[c].entries).sum).sum
    trapQueue := [] } := by
  rw [restartQueues, releaseFlagged_eq, clearQueues_eq, flushQueues_eq, flushLinks_eq, flushTrap]
  have hslots : (s.slots.map releasedRecord).map
      (fun r => { r with que := { r.que with egress := [], control := [] } }) = s.slots.map restartedRecord := by
    rw [Vector.map_map]
    exact congrArg (s.slots.map ·) (funext releasedRecord_emptied)
  have hentries (r : UplinkRecord) (c : Cls) : (mapQueues clearCongestion r).queues[c].entries = r.queues[c].entries :=
    mapQueues_entries (rule := clearCongestion) (fun _ => rfl) r c
  have hegress (i : Slot) : (s.slots.map releasedRecord)[i].que.egress = s.slots[i].que.egress := by
    rw [Fin.getElem_fin, Vector.getElem_map, releasedRecord_egress]
    rfl
  simp only [hslots, mapQueues_mapQueues, allUplinks, List.map_cons, List.map_nil, State.uplink, State.slot, hentries,
    hegress]
  have hadd (free classes frames trapped : Nat) :
      free + classes + frames + trapped = free + trapped + frames + classes := by omega
  rw [hadd]
  rfl

/-- The state after RESTART (R172). -/
def restarted (s : State) : State :=
  { s with
    slots := s.slots.map restartedRecord
    uplinkA := mapQueues restartedQueue s.uplinkA, uplinkB := mapQueues restartedQueue s.uplinkB
    freeCells := s.freeCells + trapCells s.trapQueue +
      (allSlots.map fun i => frameCells (s.slot i).que.egress).sum +
      (allUplinks.map fun v => (allClasses.map fun c => entryCells (s.uplink v).queues[c].entries).sum).sum
    trapQueue := []
    counters := Vector.replicate 18 { received := 0, drops := Vector.replicate 12 0 }
    mgmt := { s.mgmt with alerts := [] }, sweep := { s.sweep with engine := .idle, missed := 0 } }

theorem restart_eq (s : State) : restart s = answerOk (restarted s) [] false := by
  rw [restart, restartQueues_eq]
  rfl

theorem restarted_slot (s : State) (i : Slot) : (restarted s).slot i = restartedRecord (s.slot i) := by
  simp [State.slot, restarted]

theorem restarted_uplink (s : State) (v : Uplink) : (restarted s).uplink v = mapQueues restartedQueue (s.uplink v) := by
  cases v <;> rfl

/-! ### INJECT, CLEAR_ALERTS, CLEAR_COUNTERS and RESTART (O45) -/

/-- Settles O45: the fields of INJECT and CLEAR_ALERTS, then each command as what it leaves. -/
theorem injectClearAndRestart : Obligations.InjectClearAndRestart := by
  refine ⟨injectArgs_eq_some, clearAlertsArgs_eq_some, ?_⟩
  intro s cs u e items harrives hcs
  have hstate (i : Slot) : cs.slotState i = s.slotState i := hcs ▸ rfl
  refine ⟨fun i o hargs => ?_, fun pairs hargs => ?_, ?_, ?_⟩
  · obtain ⟨hleast, hmost⟩ := injectArgs_range hargs
    rw [exec_inject_arrives s u e items harrives, cmdInject, withArgs_some hargs, ← hcs, ← hstate]
    refine ⟨hleast, hmost, fun hrun => ?_, fun honline hcapped => ?_⟩
    · replace hrun := (slotState_running cs i).mpr hrun
      refine ⟨fun t ho => ?_, fun ho => ?_⟩
      · rw [injectFrame_admitted hrun ho]
        rfl
      · rw [injectFrame_full hrun ho]
        rfl
    · rw [injectFrame_badState fun hrun => ((slotState_running cs i).mp hrun).elim honline hcapped]
      rfl
  · rw [exec_clearAlerts_arrives s u e items harrives, cmdClearAlerts, withArgs_some hargs, ← hcs]
    refine ⟨_, rfl, fun hall => by rw [hall], fun l hl => ?_⟩
    rw [hl, hcs]
    simp [commandState, setDestination, countReceived]
  · rintro rfl
    rw [exec_clearCounters_arrives s u e [] harrives, ← hcs]
    subst hcs
    rfl
  · rintro rfl
    subst hcs
    refine ⟨restarted (commandState s u e), ?_, fun i => restarted_slot _ i, fun v c => ?_, fun v => ?_, rfl, rfl⟩
    · rw [exec_restart_arrives s u e [] harrives, cmdRestart, plainCommand, restart_eq]
      rfl
    · rw [restarted_uplink, commandState_uplink, mapQueues, Fin.getElem_fin, Vector.getElem_map]
      rfl
    · rw [restarted_uplink, commandState_uplink]
      rfl

end Sys2Proof.Machine
end

section
/-! SUPPORT. The frames of chapter 11 read back, and the octets of those that the part builds (O60). -/

namespace Sys2Proof.Machine

/-! ### The bodies of blade frames by their kind (R178) -/

theorem bodyClass_announce (s : State) (i : Slot) (sequence : Word16) (source : Station) {b : AnnounceBody}
    (h : b.addresses.length < 256) :
    bodyClass s (.slot i) kindAnnounce sequence source (announceOctets b) = .announce i b := by
  obtain ⟨hcount, hread⟩ := readAnnounce_octets b h
  rw [bodyClass, if_pos rfl, hcount, octet_toNat h, announceOctets_length, if_pos ⟨by omega, rfl⟩, hread]

theorem bodyClass_telemetry (s : State) (i : Slot) (sequence : Word16) (source : Station) {l : List TelemetryItem}
    (h : l.length < 256) :
    bodyClass s (.slot i) kindTelemetry sequence source (telemetryOctets l) = .telemetry i l := by
  have hcount : octetAt (telemetryOctets l) 0 = octet l.length := rfl
  have hitems : (telemetryOctets l).drop 1 = l.flatMap fun t => [t.sensor, t.reading] := rfl
  rw [bodyClass, if_neg (by decide), if_pos rfl, hcount, octet_toNat h, telemetryOctets_length, if_pos ⟨by omega, rfl⟩,
    hitems, telemetryIn_octets]

theorem bodyClass_capAck (s : State) (i : Slot) (sequence : Word16) (source : Station) :
    bodyClass s (.slot i) kindCapAck sequence source [] = .capAck i sequence := rfl

theorem bodyClass_shutdownAck (s : State) (i : Slot) (sequence : Word16) (source : Station) :
    bodyClass s (.slot i) kindShutdownAck sequence source [] = .shutdownAck i := rfl

/-! ### Flow-control frames (R131, R175) -/

theorem composeFlow_length (f : FlowFrame) : (composeFlow f).octets.length = 18 + f.rest.length := by
  simp only [composeFlow, List.length_append, be48_length, be16_length]

theorem frameClass_flow (s : State) (p : Port) (f : FlowFrame) :
    frameClass s p (composeFlow f).octets = .flow f.opcode f.quanta := by
  have htype : word16At (composeFlow f).octets 12 = Config.flowControlType := join16 _
  have hopcode : word16At (composeFlow f).octets 14 = f.opcode := join16 _
  have hquanta : word16At (composeFlow f).octets 16 = f.quanta := join16 _
  simp only [frameClass, htype, hopcode, hquanta, if_true]

/-! ### Numbers as octets (R173) -/

/-- An octet appended to a word is the next digit to base 256. -/
theorem toNat_append_octet {n : Nat} (w : BitVec n) (b : Byte) : (w ++ b).toNat = w.toNat * 256 + b.toNat := by
  rw [BitVec.toNat_append, ← Nat.shiftLeft_add_eq_or_of_lt b.isLt, Nat.shiftLeft_eq]

theorem word16At_toNat (o : Octets) (k : Nat) : (word16At o k).toNat = natOf [octetAt o k, octetAt o (k + 1)] := by
  simp [word16At, natOf, toNat_append_octet]

theorem stationAt_toNat (o : Octets) (k : Nat) :
    (stationAt o k).toNat = natOf ((List.range 6).map fun j => octetAt o (k + j)) := by
  simp [stationAt, natOf, toNat_append_octet, List.range_succ]

theorem be16n_eq (n : Nat) : be16n n = [octet (n / 256), octet n] := by
  have hhigh : (BitVec.ofNat 16 n).extractLsb' 8 8 = octet (n / 256) := by
    apply BitVec.eq_of_toNat_eq
    simp only [BitVec.extractLsb'_toNat, BitVec.toNat_ofNat, octet, Nat.shiftRight_eq_div_pow]
    omega
  have hlow : (BitVec.ofNat 16 n).extractLsb' 0 8 = octet n := by
    apply BitVec.eq_of_toNat_eq
    simp only [BitVec.extractLsb'_toNat, BitVec.toNat_ofNat, octet, Nat.shiftRight_eq_div_pow]
    omega
  rw [be16n, be16, hhigh, hlow]

theorem be16_eq (w : Word16) : be16 w = be16n w.toNat := by
  rw [be16n, BitVec.ofNat_toNat, BitVec.setWidth_eq]

theorem natOf_be32 (v : Word32) : natOf (be32 v) = v.toNat := by
  have := v.isLt
  simp only [natOf, be32, List.foldl_cons, List.foldl_nil, BitVec.extractLsb'_toNat, Nat.shiftRight_eq_div_pow]
  omega

theorem natOf_be48 (a : Station) : natOf (be48 a) = a.toNat := by
  have := a.isLt
  simp only [natOf, be48, List.foldl_cons, List.foldl_nil, BitVec.extractLsb'_toNat, Nat.shiftRight_eq_div_pow]
  omega

theorem station_toNat (s : State) : s.station.toNat = 0x02E56A000000 + s.fwd.straps.toNat := by
  rw [State.station, toNat_append_octet]
  rfl

/-! ### The frames that the part builds (R174, R175, R176) -/

/-- Past other octets, an octet of a run of zeros, or of none at all, reads as 0. -/
theorem octetAt_zeros (a : Octets) (n k : Nat) (h : a.length ≤ k) : octetAt (a ++ List.replicate n 0) k = 0 := by
  obtain ⟨j, rfl⟩ := Nat.exists_eq_add_of_le h
  rw [octetAt_append_right, octetAt, List.getD_eq_getElem?_getD, List.getElem?_replicate]
  split <;> rfl

/-- The octets of a control frame that the part builds, before its body. -/
def builtFront (s : State) (destination : Station) (kind : Byte) (sequence : Word16) (bodyLength : Nat) : Octets :=
  be48 destination ++ be48 s.station ++ be16 s.fwd.controlType ++ header kind sequence bodyLength

section
variable (s : State) (destination : Station) (kind : Byte) (sequence : Word16) (body : Octets)

theorem builtFront_length (n : Nat) : (builtFront s destination kind sequence n).length = 20 := rfl

theorem buildControl_eq : s.buildControl destination kind sequence body =
    builtFront s destination kind sequence body.length ++ body ++ List.replicate (60 - (20 + body.length)) 0 := by
  rw [State.buildControl, padded, ← builtFront, List.length_append, builtFront_length]

theorem buildControl_length :
    (s.buildControl destination kind sequence body).length + 4 = max 64 (14 + 6 + body.length + 4) := by
  rw [buildControl_eq, List.length_append, List.length_append, builtFront_length, List.length_replicate]
  omega

theorem buildControl_body : ((s.buildControl destination kind sequence body).drop 20).take body.length = body := by
  rw [buildControl_eq, List.append_assoc, List.drop_left' (builtFront_length _ _ _ _ _), List.take_left]

theorem buildControl_padding {k : Nat} (h : 20 + body.length ≤ k) :
    octetAt (s.buildControl destination kind sequence body) k = 0 := by
  rw [buildControl_eq]
  exact octetAt_zeros _ _ _ (by rwa [List.length_append, builtFront_length])

end

theorem pauseOctets_rest (s : State) (quanta : Nat) {k : Nat} (h : 18 ≤ k) : octetAt (s.pauseOctets quanta) k = 0 :=
  octetAt_zeros _ _ _ h

/-! ### Chapter 11 (O60) -/

/-- Settles O60: each kind of frame is read back by its body's class, and each built frame octet by octet. -/
theorem composedFramesAreReadBack : Obligations.ComposedFramesAreReadBack := by
  refine ⟨fun i e body s hn h => ?_, fun i e readings s hn h => ?_, fun i e s h => ⟨?_, ?_⟩,
    fun u e code items s h => ?_, fun p f s => frameClass_flow s p f,
    fun o k => ⟨rfl, word16At_toNat o k, stationAt_toNat o k⟩,
    fun n w v a => ⟨rfl, be16n_eq n, be16_eq w, ⟨natOf_be32 v, be32_length v⟩, natOf_be48 a, be48_length a⟩,
    station_toNat, fun s destination kind sequence body o hn ho => ?_, fun s quanta o ho => ?_,
    fun s build hbuild => ?_⟩
  · exact (frameClass_control s (.slot i) e kindAnnounce (announceOctets body) (by rwa [announceOctets_length])).trans
      (bodyClass_announce s i _ _ hn)
  · exact (frameClass_control s (.slot i) e kindTelemetry (telemetryOctets readings)
      (by rwa [telemetryOctets_length])).trans (bodyClass_telemetry s i _ _ hn)
  · exact (frameClass_control s (.slot i) e kindCapAck [] h).trans (bodyClass_capAck s i _ _)
  · exact (frameClass_control s (.slot i) e kindShutdownAck [] h).trans (bodyClass_shutdownAck s i _ _)
  · obtain ⟨harrives, hmanagement⟩ := h
    have hcounted := harrives.counted
    exact (frameClass_control s (.uplink u) e kindCommand (commandOctets code items)
      (by rwa [commandOctets_length])).trans (bodyClass_command s u _ _ code items (by omega) hmanagement)
  · subst ho
    have hlength : word16At (s.buildControl destination kind sequence body) 18 = BitVec.ofNat 16 body.length := join16 _
    refine ⟨buildControl_length s destination kind sequence body, join48 _, join48 _, join16 _, rfl, rfl, join16 _, ?_,
      buildControl_body s destination kind sequence body, fun k hk => buildControl_padding s _ _ _ body hk⟩
    rw [hlength, BitVec.toNat_ofNat, Nat.mod_eq_of_lt hn]
  · subst ho
    exact ⟨rfl, join48 _, join48 _, join16 _, join16 _, join16 _, fun k hk => pauseOctets_rest s quanta hk⟩
  · obtain rfl : build = fun kind sequence body => s.buildControl 0x07E56A000001#48 kind sequence body :=
      funext fun kind => funext fun sequence => funext fun body => hbuild kind sequence body
    exact ⟨fun denied pair => rfl, fun sequence watts => ⟨rfl, rfl⟩, fun form seconds => by cases form <;> rfl⟩

end Sys2Proof.Machine
end

section
/-! SUPPORT. The checks of an arrival: CRC and length, control frames, flow control, and the counters (O28). -/

namespace Sys2Proof.Machine

/-! ### Field items that fill a body (R177 check 6, R180) -/

theorem be16n_octets (hi lo : Byte) : be16n (hi.toNat * 256 + lo.toNat) = [hi, lo] := by
  have hlo := lo.isLt
  rw [be16n_eq, show (hi.toNat * 256 + lo.toNat) / 256 = hi.toNat by omega, octet, BitVec.ofNat_toNat,
    BitVec.setWidth_eq]
  congr
  refine BitVec.eq_of_toNat_eq ?_
  rw [octet, BitVec.toNat_ofNat]
  omega

/-- The items read from octets fill them exactly, each with a length that fits its two octets. -/
theorem itemsIn_sound {n : Nat} {o : Octets} {items : List Item} (h : itemsIn n o = some items) :
    (∀ x ∈ items, x.value.length < 65536) ∧ items.flatMap itemOctets = o := by
  induction n generalizing o items with
  | zero =>
    cases o with
    | nil => obtain rfl : [] = items := Option.some.inj h; simp
    | cons b o => simp [itemsIn] at h
  | succ n ih =>
    match o, h with
    | [], h => obtain rfl : [] = items := Option.some.inj h; simp
    | field :: hi :: lo :: rest, h =>
      simp only [itemsIn, Option.ite_none_left_eq_some, Nat.not_lt, Option.map_eq_some_iff] at h
      obtain ⟨hfits, tail, htail, rfl⟩ := h
      obtain ⟨hwidths, hoctets⟩ := ih htail
      have hhi := hi.isLt
      have hlo := lo.isLt
      have hlen : (rest.take (hi.toNat * 256 + lo.toNat)).length = hi.toNat * 256 + lo.toNat := by
        rw [List.length_take, Nat.min_eq_left hfits]
      refine ⟨List.forall_mem_cons.mpr ⟨by rw [hlen]; omega, hwidths⟩, ?_⟩
      rw [List.flatMap_cons, hoctets, itemOctets, hlen, be16n_octets]
      simp
    | [_], h => simp [itemsIn] at h
    | [_, _], h => simp [itemsIn] at h

/-! ### Bodies that are refused (R133, R177) -/

section
variable {s : State} {i : Slot} {u : Uplink} {kind : Byte} (sequence : Word16) (source : Station) {body : Octets}

theorem bodyClass_slot_kind (h : kind.toNat ∉ [1, 2, 3, 4]) :
    bodyClass s (.slot i) kind sequence source body = .malformed := by
  have hne (k : Byte) (hk : k.toNat ∈ [1, 2, 3, 4]) : kind ≠ k := fun he => h (he ▸ hk)
  rw [bodyClass, if_neg (hne _ (by decide)), if_neg (hne _ (by decide)), if_neg (hne _ (by decide)),
    if_neg (hne _ (by decide))]

theorem bodyClass_announce_length (h : ¬(25 ≤ body.length ∧ body.length = 25 + 6 * (octetAt body 24).toNat)) :
    bodyClass s (.slot i) kindAnnounce sequence source body = .malformed := by
  rw [bodyClass, if_pos rfl, if_neg h]

theorem bodyClass_telemetry_length (h : ¬(1 ≤ body.length ∧ body.length = 1 + 2 * (octetAt body 0).toNat)) :
    bodyClass s (.slot i) kindTelemetry sequence source body = .malformed := by
  rw [bodyClass, if_neg (by decide), if_pos rfl, if_neg h]

theorem bodyClass_ack_body (hkind : kind.toNat ∈ [3, 4]) (h : body.length ≠ 0) :
    bodyClass s (.slot i) kind sequence source body = .malformed := by
  have hack : kind = kindCapAck ∨ kind = kindShutdownAck := by
    simpa [← BitVec.toNat_inj] using hkind
  rcases hack with rfl | rfl
  · rw [bodyClass, if_neg (by decide), if_neg (by decide), if_pos rfl, if_neg h]
  · rw [bodyClass, if_neg (by decide), if_neg (by decide), if_neg (by decide), if_pos rfl, if_neg h]

theorem bodyClass_uplink_refused (h : kind ≠ kindCommand ∨ (s.uplink u).management = false ∨ body.length < 2) :
    bodyClass s (.uplink u) kind sequence source body = .malformed := by
  refine if_neg ?_
  rintro ⟨hkind, hmanagement, hlength⟩
  rcases h with h | h | h
  · exact h hkind
  · exact Bool.false_ne_true (h.symm.trans hmanagement)
  · omega

theorem bodyClass_uplink_items (h : ¬∃ items : List Item, (∀ x ∈ items, x.value.length < 65536) ∧
      items.flatMap itemOctets = body.drop 2) :
    bodyClass s (.uplink u) kind sequence source body = .malformed := by
  have hnone : itemsIn body.length (body.drop 2) = none :=
    Option.eq_none_iff_forall_not_mem.mpr fun items hitems => h ⟨items, itemsIn_sound hitems⟩
  rw [bodyClass, hnone, ite_self]

end

/-! ### Control frames that are refused (R131, R133, R177) -/

/-- The kind, sequence and body that a header at an offset names are read only where the header passes. -/
theorem controlClass_eq (s : State) (p : Port) (o : Octets) (off : Nat) : controlClass s p o off =
    if o.length < off + 6 ∨ octetAt o off ≠ 1 ∨ o.length < off + 6 + (word16At o (off + 4)).toNat then .malformed
    else bodyClass s p (octetAt o (off + 1)) (word16At o (off + 2)) (stationAt o 6)
      ((o.drop (off + 6)).take (word16At o (off + 4)).toNat) := rfl

/-- A frame addressed to the part or its group is a control frame where it has the control type (R131, R133). -/
theorem frameClass_addressed {s : State} {p : Port} {o : Octets} (hflow : word16At o 12 ≠ Config.flowControlType)
    (hto : stationAt o 0 = s.station ∨ stationAt o 0 = Config.groupAddress) : frameClass s p o =
      if (if word16At o 12 = s.fwd.tagType then word16At o 16 else word16At o 12) = s.fwd.controlType then
        controlClass s p o (if word16At o 12 = s.fwd.tagType then 18 else 14)
      else .malformed := by
  simp only [frameClass, if_neg hflow, if_pos hto, decide_eq_true_eq]

/-- The checks of R177 on the body that a control header at an offset names, as the octets of the frame show them. -/
def BadBody (s : State) (p : Port) (o : Octets) (off : Nat) : Prop :=
  match p with
  | .slot _ =>
    (octetAt o (off + 1)).toNat ∉ [1, 2, 3, 4] ∨
    (octetAt o (off + 1) = 0x01#8 ∧ (word16At o (off + 4)).toNat ≠ 25 + 6 * (octetAt o (off + 30)).toNat) ∨
    (octetAt o (off + 1) = 0x02#8 ∧ (word16At o (off + 4)).toNat ≠ 1 + 2 * (octetAt o (off + 6)).toNat) ∨
    ((octetAt o (off + 1)).toNat ∈ [3, 4] ∧ word16At o (off + 4) ≠ 0)
  | .uplink u =>
    octetAt o (off + 1) ≠ 0x21#8 ∨ (s.uplink u).management = false ∨ (word16At o (off + 4)).toNat < 2 ∨
    ¬∃ items : List Item, (∀ x ∈ items, x.value.length < 65536) ∧ items.flatMap itemOctets =
      (o.drop (off + 8)).take ((word16At o (off + 4)).toNat - 2)

theorem octetAt_take {o : Octets} {n k : Nat} (h : k < n) : octetAt (o.take n) k = octetAt o k := by
  simp [octetAt, List.getD, List.getElem?_take_of_lt h]

/-- A control frame whose header passes is refused where its body does not. -/
theorem bodyClass_badBody {s : State} {p : Port} {o : Octets} {off : Nat}
    (hlen : off + 6 + (word16At o (off + 4)).toNat ≤ o.length) (h : BadBody s p o off) (sequence : Word16)
    (source : Station) : bodyClass s p (octetAt o (off + 1)) sequence source
      ((o.drop (off + 6)).take (word16At o (off + 4)).toNat) = .malformed := by
  have hbody : ((o.drop (off + 6)).take (word16At o (off + 4)).toNat).length = (word16At o (off + 4)).toNat := by
    rw [List.length_take, List.length_drop]
    omega
  have hoctet (k : Nat) (hk : k < (word16At o (off + 4)).toNat) :
      octetAt ((o.drop (off + 6)).take (word16At o (off + 4)).toNat) k = octetAt o (off + 6 + k) := by
    rw [octetAt_take hk, octetAt_drop]
  cases p with
  | slot i =>
    rcases h with h | ⟨hkind, h⟩ | ⟨hkind, h⟩ | ⟨hkind, h⟩
    · exact bodyClass_slot_kind sequence source h
    · rw [hkind]
      refine bodyClass_announce_length sequence source ?_
      rw [hbody]
      rintro ⟨hleast, hcount⟩
      exact h (by rwa [hoctet 24 (by omega)] at hcount)
    · rw [hkind]
      refine bodyClass_telemetry_length sequence source ?_
      rw [hbody]
      rintro ⟨hleast, hcount⟩
      exact h (by rwa [hoctet 0 (by omega)] at hcount)
    · refine bodyClass_ack_body sequence source hkind ?_
      rw [hbody]
      exact fun hzero => h (BitVec.eq_of_toNat_eq hzero)
  | uplink u =>
    rcases h with h | h | h | h
    · exact bodyClass_uplink_refused sequence source (.inl h)
    · exact bodyClass_uplink_refused sequence source (.inr (.inl h))
    · exact bodyClass_uplink_refused sequence source (.inr (.inr (by rwa [hbody])))
    · refine bodyClass_uplink_items sequence source ?_
      rwa [List.drop_take, List.drop_drop]

/-- A frame addressed to the part that fails one of the checks of R131 and R177 is malformed. -/
theorem frameClass_malformed {s : State} {p : Port} {o : Octets} {off : Nat} {frameType : Word16}
    (hflow : word16At o 12 ≠ Config.flowControlType)
    (hto : stationAt o 0 = s.station ∨ stationAt o 0 = Config.groupAddress)
    (hoff : off = if word16At o 12 = s.fwd.tagType then 18 else 14)
    (htype : frameType = if word16At o 12 = s.fwd.tagType then word16At o 16 else word16At o 12)
    (hbad : frameType ≠ s.fwd.controlType ∨ o.length < off + 6 ∨ octetAt o off ≠ 1 ∨
      o.length < off + 6 + (word16At o (off + 4)).toNat ∨ BadBody s p o off) : frameClass s p o = .malformed := by
  rw [frameClass_addressed hflow hto, ← hoff, ← htype]
  by_cases hcontrol : frameType = s.fwd.controlType
  · rw [if_pos hcontrol, controlClass_eq]
    by_cases hheader : o.length < off + 6 ∨ octetAt o off ≠ 1 ∨ o.length < off + 6 + (word16At o (off + 4)).toNat
    · rw [if_pos hheader]
    · rw [if_neg hheader]
      have hbody : BadBody s p o off := by tauto
      exact bodyClass_badBody (by omega) hbody _ _
  · rw [if_neg hcontrol]

/-! ### A frame that passed the CRC and length checks (R130) -/

theorem receive_checked {s : State} {p : Port} {rx : Reception} (hcrc : rx.crcMatches = true)
    (hleast : 64 ≤ rx.octets.length + 4) (hmost : rx.octets.length + 4 ≤ s.fwd.maxLength) :
    receive p rx s = handle p rx (frameClass s p rx.octets) (countReceived p s) := by
  have hlength : ¬(rxLength rx < 64 ∨ s.fwd.maxLength < rxLength rx) := by
    rw [rxLength]
    omega
  rw [receive, if_neg (by simp [hcrc]), if_neg hlength]

theorem receive_badCrc {s : State} {p : Port} {rx : Reception} (hcrc : rx.crcMatches = false) : receive p rx s = s :=
  if_pos (by simp [hcrc])

theorem receive_badLength {s : State} {p : Port} {rx : Reception} (hcrc : rx.crcMatches = true)
    (hlength : rx.octets.length + 4 < 64 ∨ s.fwd.maxLength < rx.octets.length + 4) :
    receive p rx s = drop p .tooLong s := by
  rw [receive, if_neg (by simp [hcrc])]
  exact if_pos hlength

/-- The three rows that carry any octets are one reception on their port (log 6). -/
theorem exec_reception {p : Port} {rx : Reception} {c : Instr} (s : State)
    (h : c = .malformedControlFrame p rx ∨ (∃ i, p = .slot i ∧ c = .upstreamFrame i rx) ∨
      (∃ u, p = .uplink u ∧ c = .downstreamFrame u rx)) : exec c s = .next (receive p rx s) := by
  rcases h with rfl | ⟨i, rfl, rfl⟩ | ⟨u, rfl, rfl⟩
  · rfl
  · rfl
  · rfl

/-- A flow-control frame that passes the checks is counted and taken by its port (R131). -/
theorem exec_flowControlFrame_arrives {p : Port} {f : FlowFrame} {s : State} (hcrc : f.crcMatches = true)
    (hleast : 64 ≤ 22 + f.rest.length) (hmost : 22 + f.rest.length ≤ s.fwd.maxLength) :
    exec (.flowControlFrame p f) s =
      .next (close (countReceived p s) (takeFlow p f.opcode f.quanta (countReceived p s)) false) := by
  have hlength := composeFlow_length f
  show Host.Outcome.next (receive p (composeFlow f) s) = _
  rw [receive_checked (rx := composeFlow f) hcrc (by omega) (by omega), frameClass_flow]
  rfl

theorem takeFlow_otherOpcode {opcode : Word16} (h : opcode ≠ 1) (p : Port) (quanta : Word16) (s : State) :
    takeFlow p opcode quanta s = drop p .malformed s := if_neg h

theorem takeFlow_slot (i : Slot) (quanta : Word16) (s : State) : takeFlow (.slot i) 1 quanta s = s := rfl

theorem takeFlow_uplink (u : Uplink) (quanta : Word16) (s : State) : takeFlow (.uplink u) 1 quanta s =
    s.modUplink u fun q => { q with hold := if quanta = 0 then .stopped else .running (quanta.toNat * 512) } := rfl

/-! ### The counters (R129, R130, R171) -/

theorem portIndex_inj {p q : Port} : portIndex p = portIndex q ↔ p = q := by
  refine ⟨fun h => ?_, congrArg portIndex⟩
  have hp := (portCode_eq_some _ p).mpr rfl
  rw [h, (portCode_eq_some _ q).mpr rfl] at hp
  exact (Option.some.inj hp).symm

theorem allDropReasons_index (r : DropReason) : allDropReasons[r.index]? = some r := by cases r <;> rfl

theorem dropIndex_inj {r x : DropReason} : r.index = x.index ↔ r = x := by
  refine ⟨fun h => ?_, congrArg DropReason.index⟩
  have hr := allDropReasons_index r
  rw [h, allDropReasons_index] at hr
  exact (Option.some.inj hr).symm

theorem countReceived_counters (p q : Port) (s : State) : (countReceived p s).counters[portIndex q] =
    if q = p then { s.counters[portIndex q] with received := s.counters[portIndex q].received + 1 }
    else s.counters[portIndex q] := by
  rw [countReceived, State.counters_modCounters, if_congr portIndex_inj rfl rfl]
  split
  next h => rw [h]
  next => rfl

theorem drop_counters (p q : Port) (r : DropReason) (s : State) : (drop p r s).counters[portIndex q] =
    if q = p then { s.counters[portIndex q] with
      drops := s.counters[portIndex q].drops.set r.index (s.counters[portIndex q].drops[r.index] + 1) }
    else s.counters[portIndex q] := by
  rw [drop, State.counters_modCounters, if_congr portIndex_inj rfl rfl]
  split
  next h => rw [h]
  next => rfl

theorem drop_received (p q : Port) (r : DropReason) (s : State) :
    (drop p r s).counters[portIndex q].received = s.counters[portIndex q].received := by
  rw [drop_counters]
  split <;> rfl

theorem drop_drops (p q : Port) (r x : DropReason) (s : State) : (drop p r s).counters[portIndex q].drops[x.index] =
    if q = p ∧ x = r then s.counters[portIndex q].drops[x.index] + 1
    else s.counters[portIndex q].drops[x.index] := by
  rw [drop_counters]
  by_cases hq : q = p
  · rw [if_pos hq]
    by_cases hx : x = r
    · subst hx
      simp [hq]
    · have hne : r.index.val ≠ x.index.val := fun h => hx (dropIndex_inj.mp (Fin.ext h)).symm
      rw [if_neg fun h => hx h.2]
      exact Vector.getElem_set_ne r.index.isLt x.index.isLt hne
  · rw [if_neg hq, if_neg fun h => hq h.1]

/-! ### Every arrival (O28) -/

/-- Settles O28: the checks of any reception, the flow-control frames, and what each counter moves. -/
theorem arrivalsAreChecked : Obligations.ArrivalsAreChecked := by
  refine ⟨fun p rx c s r hrow hr => ?_, fun p f s r hcrc hleast hmost hr => ?_, fun p reason s => ?_⟩
  · rw [exec_reception s hrow, hr]
    refine ⟨fun hcrc => by rw [receive_badCrc hcrc], fun hcrc hlength => by rw [receive_badLength hcrc hlength], ?_⟩
    intro off frameType hcrc hleast hmost hflow hto hoff htype hbad
    rw [receive_checked hcrc hleast hmost, frameClass_malformed hflow hto hoff htype ?_]
    · rfl
    · cases p with
      | slot i => exact hbad
      | uplink u => exact hbad
  · rw [exec_flowControlFrame_arrives hcrc hleast hmost, ← hr]
    refine ⟨fun hopcode => by rw [takeFlow_otherOpcode hopcode], fun hopcode i hi => ?_, fun hopcode u hu => ?_⟩
    · rw [hopcode, hi, takeFlow_slot]
    · rw [hopcode, hu, takeFlow_uplink]
  · exact ⟨fun q => ⟨drop_received p q reason s, fun x => drop_drops p q reason x s⟩,
      fun q => countReceived_counters p q s, rfl, rfl, fun _ => rfl, rfl, rfl⟩

end Sys2Proof.Machine
end

section
/-! SUPPORT. The class queues and the slots' parts read back, their occupancy, and what a pause, a release and a
watermark test make of every slot (R147 to R155). -/

namespace Sys2Proof.Machine

/-! ### Class queues read back -/

theorem queues_set (queues : Vector ClassQueue 4) (c d : Cls) (q : ClassQueue) :
    (queues.set c q)[d] = if d = c then q else queues[d] := by
  simp only [Fin.getElem_fin, Vector.getElem_set, Fin.ext_iff, eq_comm]

theorem uplink_modClass (s : State) (u v : Uplink) (c : Cls) (f : ClassQueue → ClassQueue) :
    (s.modClass u c f).uplink v =
      if v = u then { s.uplink u with queues := (s.uplink u).queues.set c (f (s.uplink u).queues[c]) }
      else s.uplink v := State.uplink_modUplink s u v _

theorem queues_modClass (s : State) (u v : Uplink) (c d : Cls) (f : ClassQueue → ClassQueue) :
    ((s.modClass u c f).uplink v).queues[d] =
      if v = u ∧ d = c then f (s.uplink v).queues[d] else (s.uplink v).queues[d] := by
  rw [uplink_modClass]
  by_cases hv : v = u
  · subst hv
    rw [if_pos rfl]
    dsimp only
    rw [queues_set]
    by_cases hd : d = c
    · subst hd
      simp
    · simp [hd]
  · simp [hv]

theorem flight_modClass (s : State) (u v : Uplink) (c : Cls) (f : ClassQueue → ClassQueue) :
    ((s.modClass u c f).uplink v).flight = (s.uplink v).flight := by
  rw [uplink_modClass]
  split
  next h => rw [h]
  next => rfl

@[simp] theorem slot_modClass (s : State) (u : Uplink) (c : Cls) (f : ClassQueue → ClassQueue) (i : Slot) :
    (s.modClass u c f).slot i = s.slot i := State.modUplink_slot s u _ i

@[simp] theorem freeCells_modClass (s : State) (u : Uplink) (c : Cls) (f : ClassQueue → ClassQueue) :
    (s.modClass u c f).freeCells = s.freeCells := State.modUplink_freeCells s u _

@[simp] theorem trapQueue_modClass (s : State) (u : Uplink) (c : Cls) (f : ClassQueue → ClassQueue) :
    (s.modClass u c f).trapQueue = s.trapQueue := State.modUplink_trapQueue s u _

@[simp] theorem uplink_withSlots (s : State) (ss : Vector SlotRecord 16) (u : Uplink) :
    ({ s with slots := ss } : State).uplink u = s.uplink u := by cases u <;> rfl

@[simp] theorem uplink_withCells (s : State) (n : Nat) (u : Uplink) :
    ({ s with freeCells := n } : State).uplink u = s.uplink u := by cases u <;> rfl

/-! ### Occupancy (R147, R148) -/

/-- The cells of the frame in flight from a class queue. -/
def classFlightCells (flight : Option UplinkFlight) (c : Cls) : Nat :=
  match flight with
  | some f => if f.cls = c then f.entry.frame.cells else 0
  | none => 0

theorem held_flight {r : UplinkRecord} {f : UplinkFlight} {c : Cls} (hf : r.flight = some f) (hc : f.cls = c) :
    r.held c = f.entry :: r.queues[c].entries := by simp [UplinkRecord.held, hf, hc]

theorem held_noFlight {r : UplinkRecord} {c : Cls} (h : ∀ f, r.flight = some f → f.cls ≠ c) :
    r.held c = r.queues[c].entries := by
  unfold UplinkRecord.held
  split
  next f hf => rw [if_neg (h f hf), List.nil_append]
  next => rfl

theorem occupancy_eq (r : UplinkRecord) (c : Cls) :
    r.occupancy c = classFlightCells r.flight c + entryCells r.queues[c].entries := by
  cases hf : r.flight with
  | none => simp [UplinkRecord.occupancy, UplinkRecord.held, classFlightCells, hf]
  | some f => by_cases hc : f.cls = c <;> simp [UplinkRecord.occupancy, UplinkRecord.held, classFlightCells, hf, hc, entryCells]

/-- The cells of the frame in flight from an egress queue. -/
def slotFlightCells (flight : Option SlotFlight) : Nat :=
  match flight with
  | some f => if f.fromEgress = true then f.frame.cells else 0
  | none => 0

theorem slotFlightCells_egress {f : SlotFlight} (h : f.fromEgress = true) : slotFlightCells (some f) = f.frame.cells :=
  if_pos h

theorem slotFlightCells_other {flight : Option SlotFlight} (h : ∀ f, flight = some f → f.fromEgress = false) :
    slotFlightCells flight = 0 := by
  cases flight with
  | none => rfl
  | some f => exact if_neg (ne_true_of_eq_false (h f rfl))

theorem egressOccupancy_eq (q : QueuePart) : q.occupancy = slotFlightCells q.flight + frameCells q.egress := by
  cases hf : q.flight with
  | none => simp [QueuePart.occupancy, QueuePart.egressHeld, slotFlightCells, hf]
  | some f => cases he : f.fromEgress <;> simp [QueuePart.occupancy, QueuePart.egressHeld, slotFlightCells, hf, he, frameCells]

theorem entryCells_append (a b : List QueueEntry) : entryCells (a ++ b) = entryCells a + entryCells b := by
  simp [entryCells]

theorem entryCells_cons (e : QueueEntry) (l : List QueueEntry) :
    entryCells (e :: l) = e.frame.cells + entryCells l := by simp [entryCells]

theorem frameCells_append (a b : List Frame) : frameCells (a ++ b) = frameCells a + frameCells b := by
  simp [frameCells]

theorem frameCells_cons (f : Frame) (l : List Frame) : frameCells (f :: l) = f.cells + frameCells l := by
  simp [frameCells]

theorem trapCells_append (a b : List TrapEntry) : trapCells (a ++ b) = trapCells a + trapCells b := by
  simp [trapCells]

theorem trapCells_cons (e : TrapEntry) (l : List TrapEntry) : trapCells (e :: l) = e.frame.cells + trapCells l := by
  simp [trapCells]

@[simp] theorem sealFrame_cells (f : Frame) : (sealFrame f).cells = f.cells := rfl

/-! ### Sets of slots and held sets (R153) -/

theorem inSlotSet_insert (h : SlotSet) (i j : Slot) :
    inSlotSet (slotSetInsert h i) j = true ↔ j = i ∨ inSlotSet h j = true := by
  simp only [inSlotSet, slotSetInsert, BitVec.getLsbD_or, BitVec.getLsbD_twoPow, Bool.or_eq_true, Bool.and_eq_true,
    decide_eq_true_eq, Fin.ext_iff]
  have hi := i.isLt
  constructor
  · rintro (h | h)
    · exact .inr h
    · exact .inl h.2.symm
  · rintro (h | h)
    · exact .inr ⟨hi, h.symm⟩
    · exact .inl h

theorem inSlotSet_empty (i : Slot) : inSlotSet 0 i = false := BitVec.getLsbD_zero

/-- A set with the source slot of an entry added. -/
def withSource (h : SlotSet) (e : QueueEntry) : SlotSet :=
  match e.source with
  | some i => slotSetInsert h i
  | none => h

theorem inSlotSet_withSource (h : SlotSet) (e : QueueEntry) (i : Slot) :
    inSlotSet (withSource h e) i = true ↔ e.source = some i ∨ inSlotSet h i = true := by
  cases hsource : e.source with
  | none => simp [withSource, hsource]
  | some j =>
    simp only [withSource, hsource, inSlotSet_insert, Option.some.injEq]
    rw [eq_comm]

theorem inSlotSet_foldl_withSource (l : List QueueEntry) (h : SlotSet) (i : Slot) :
    inSlotSet (l.foldl withSource h) i = true ↔ inSlotSet h i = true ∨ ∃ x ∈ l, x.source = some i := by
  induction l generalizing h with
  | nil => simp
  | cons e l ih =>
    rw [List.foldl_cons, ih, inSlotSet_withSource, List.exists_mem_cons_iff]
    tauto

theorem inSlotSet_sourcesOf (l : List QueueEntry) (i : Slot) :
    inSlotSet (sourcesOf l) i = true ↔ ∃ x ∈ l, x.source = some i := by
  refine (inSlotSet_foldl_withSource l 0 i).trans ?_
  rw [inSlotSet_empty]
  simp

theorem mem_allClasses (c : Cls) : c ∈ allClasses := by revert c; decide

theorem heldAnywhere_iff (s : State) (i : Slot) : heldAnywhere s i = true ↔
    ∃ (u : Uplink) (c : Cls), inSlotSet (s.uplink u).queues[c].held i = true := by
  have huplink (u : Uplink) : u ∈ allUplinks := by cases u <;> decide
  simp only [heldAnywhere, List.any_eq_true, huplink, mem_allClasses, true_and]

theorem heldAnywhere_congr {s t : State} (h : ∀ u, t.uplink u = s.uplink u) (i : Slot) :
    heldAnywhere t i = heldAnywhere s i := by simp only [heldAnywhere, h]

/-! ### A rule for every slot -/

/-- A fold over the slots whose step rewrites its slot's record by a rule, whatever the other records are. -/
theorem foldl_slotRule {s : State} {step : State → Slot → State} {rule : Slot → SlotRecord → SlotRecord}
    (h : ∀ ss i, step { s with slots := ss } i = ({ s with slots := ss } : State).modSlot i (rule i)) :
    allSlots.foldl step s = { s with slots := Vector.ofFn fun i => rule i (s.slot i) } := by
  have hfold (l : List Slot) (hl : l.Nodup) (ss : Vector SlotRecord 16) : l.foldl step { s with slots := ss } =
      { s with slots := Vector.ofFn fun i => if i ∈ l then rule i ss[i] else ss[i] } := by
    induction l generalizing ss with
    | nil => simp
    | cons k l ih =>
      obtain ⟨hk, hl⟩ := List.nodup_cons.mp hl
      have hget (j : Slot) : (ss.set k (rule k ss[k]))[j] = if j = k then rule k ss[k] else ss[j] := by
        simp only [Fin.getElem_fin, Vector.getElem_set, Fin.ext_iff, eq_comm]
      rw [List.foldl_cons, h]
      refine (ih hl _).trans (congrArg (fun v => ({ s with slots := v } : State)) ?_)
      refine congrArg Vector.ofFn (funext fun j => ?_)
      rw [hget]
      by_cases hj : j = k
      · subst hj
        simp [hk]
      · simp [hj]
  have hall := hfold allSlots (by decide) s.slots
  simp only [mem_allSlots, if_true] at hall
  exact hall

theorem slot_ofRule (s : State) (f : Slot → SlotRecord) (i : Slot) :
    ({ s with slots := Vector.ofFn f } : State).slot i = f i := by simp [State.slot]

/-! ### Pause and release (R153, R154) -/

/-- The record of a slot after a pause. -/
def pausedRecord (r : SlotRecord) : SlotRecord :=
  if r.que.backpressure = true then r
  else { r with que := { r.que with
    backpressure := true, pendingPause := some r.adm.quanta, refresh := .running (refreshLength r.adm.quanta) } }

/-- The record of a slot after a release. -/
def freedRecord (r : SlotRecord) : SlotRecord :=
  { r with que := { r.que with backpressure := false, refresh := .stopped, pendingPause := some 0 } }

theorem pausedRecord_flagged {r : SlotRecord} (h : r.que.backpressure = true) : pausedRecord r = r := if_pos h

theorem pausedRecord_unflagged {r : SlotRecord} (h : r.que.backpressure = false) : pausedRecord r =
    { r with que := { r.que with
      backpressure := true, pendingPause := some r.adm.quanta, refresh := .running (refreshLength r.adm.quanta) } } :=
  if_neg (ne_true_of_eq_false h)

theorem pauseSlot_eq (i : Slot) (s : State) : pauseSlot i s = s.modSlot i pausedRecord := by
  unfold pauseSlot
  split
  next h => exact (modSlot_unchanged (pausedRecord_flagged h)).symm
  next h => exact State.modSlot_congr (pausedRecord_unflagged (by simpa using h)).symm

theorem releaseSlot_eq (i : Slot) (s : State) : releaseSlot i s = s.modSlot i freedRecord := rfl

theorem pausedRecord_eq (r : SlotRecord) : ∃ q, pausedRecord r = { r with que := q } ∧ q.egress = r.que.egress ∧
    q.flight = r.que.flight ∧ q.control = r.que.control := by
  unfold pausedRecord
  split <;> exact ⟨_, rfl, rfl, rfl, rfl⟩

/-! ### The watermark tests (R153) -/

/-- An upward crossing: the queue congested with its held set, every slot of the set paused. -/
theorem upwardTest_crossed {u : Uplink} {c : Cls} (source : Option Slot) {s : State}
    (hcalm : (s.uplink u).queues[c].congested = false)
    (habove : (s.uplink u).queues[c].marks.high < (s.uplink u).occupancy c) :
    upwardTest u c source s =
      { s.modClass u c fun q => { q with congested := true, held := sourcesOf ((s.uplink u).held c) } with
        slots := Vector.ofFn fun i =>
          if inSlotSet (sourcesOf ((s.uplink u).held c)) i = true then pausedRecord (s.slot i) else s.slot i } := by
  unfold upwardTest
  dsimp only
  rw [if_neg (ne_true_of_eq_false hcalm), if_pos habove]
  refine (foldl_slotRule
    (rule := fun i r => if inSlotSet (sourcesOf ((s.uplink u).held c)) i = true then pausedRecord r else r) ?_).trans ?_
  · intro ss i
    split
    next hin => rw [pauseSlot_eq]
    next hin => exact (modSlot_unchanged rfl).symm
  · simp only [slot_modClass]

theorem upwardTest_below {u : Uplink} {c : Cls} (source : Option Slot) {s : State}
    (hcalm : (s.uplink u).queues[c].congested = false)
    (hbelow : (s.uplink u).occupancy c ≤ (s.uplink u).queues[c].marks.high) : upwardTest u c source s = s := by
  unfold upwardTest
  dsimp only
  rw [if_neg (ne_true_of_eq_false hcalm), if_neg (by omega)]

theorem upwardTest_congested_none {u : Uplink} {c : Cls} {s : State}
    (h : (s.uplink u).queues[c].congested = true) : upwardTest u c none s = s := if_pos h

theorem upwardTest_congested_some {u : Uplink} {c : Cls} {s : State} (i : Slot)
    (h : (s.uplink u).queues[c].congested = true) : upwardTest u c (some i) s =
      pauseSlot i (s.modClass u c fun q => { q with held := slotSetInsert q.held i }) := if_pos h

/-- The end of a congestion: every flagged slot of the held set that no queue holds any more is released. -/
theorem endCongestion_eq (u : Uplink) (c : Cls) (s : State) : endCongestion u c s =
    { s.modClass u c clearCongestion with
      slots := Vector.ofFn fun i =>
        if inSlotSet (s.uplink u).queues[c].held i = true ∧ (s.slot i).que.backpressure = true ∧
          heldAnywhere (s.modClass u c clearCongestion) i = false then freedRecord (s.slot i) else s.slot i } := by
  unfold endCongestion
  refine (foldl_slotRule (rule := fun i r =>
    if inSlotSet (s.uplink u).queues[c].held i = true ∧ r.que.backpressure = true ∧
      heldAnywhere (s.modClass u c clearCongestion) i = false then freedRecord r else r) ?_).trans ?_
  · intro ss i
    have hheld : heldAnywhere { s.modClass u c clearCongestion with slots := ss } i =
        heldAnywhere (s.modClass u c clearCongestion) i := heldAnywhere_congr (uplink_withSlots _ ss) i
    rw [hheld]
    simp only [Bool.and_eq_true, Bool.not_eq_true', and_assoc]
    split
    next h =>
      rw [releaseSlot_eq]
      exact State.modSlot_congr (if_pos h).symm
    next h => exact (modSlot_unchanged (if_neg h)).symm
  · simp only [slot_modClass]

/-- A slot that was held is freed by the end of a congestion exactly where it is flagged and held no more. -/
theorem heldAnywhere_endCongestion (u : Uplink) (c : Cls) (s : State) (i : Slot) :
    heldAnywhere (endCongestion u c s) i = heldAnywhere (s.modClass u c clearCongestion) i := by
  rw [endCongestion_eq]
  exact heldAnywhere_congr (uplink_withSlots _ _) i

end Sys2Proof.Machine
end

section
/-! SUPPORT. Admission to the queues, the watermark crossings, and the control lists (O50, O51, O52). -/

namespace Sys2Proof.Machine

/-! ### Admission (R147, R148, R149) -/

theorem classAdmits_iff (s : State) (u : Uplink) (c : Cls) (free cells : Nat) : classAdmits s u c free cells = true ↔
    (s.uplink u).linkUp = true ∧ cells ≤ free ∧
      (s.uplink u).occupancy c + cells ≤ (s.uplink u).queues[c].limit := by
  simp only [classAdmits, Bool.and_eq_true, decide_eq_true_eq, and_assoc]

/-- A frame takes the least number of cells that hold it: ceil(n / 128) (R148). -/
theorem cells_le_iff (f : Frame) (k : Nat) : f.cells ≤ k ↔ f.octets.length + 4 ≤ 128 * k := by
  simp only [Frame.cells, Frame.length, Config.cellOctets]
  omega

/-- Settles O50: each offer by its queue's conditions. -/
theorem queuesAdmitByTheirConditions : Obligations.QueuesAdmitByTheirConditions := by
  refine ⟨fun r c => ⟨fun f => held_flight, held_noFlight, rfl⟩, fun q => ⟨fun f hf he => ?_, fun hno => ?_⟩,
    fun u c x s => ⟨fun hup hfree hroom => ?_, fun hnot => ?_⟩,
    fun i f s => ⟨fun hfree hroom => if_pos ⟨hfree, hroom⟩, fun hnot => if_neg hnot⟩,
    fun x s => ⟨fun hlen hlong hfree => if_pos ⟨hlen, hlong, hfree⟩, fun hnot => if_neg hnot⟩, cells_le_iff⟩
  · rw [egressOccupancy_eq, hf, slotFlightCells_egress he, frameCells]
  · rw [egressOccupancy_eq, slotFlightCells_other hno, Nat.zero_add, frameCells]
  · exact if_pos ((classAdmits_iff _ _ _ _ _).mpr ⟨hup, hfree, hroom⟩)
  · exact if_neg fun h => hnot ((classAdmits_iff _ _ _ _ _).mp h)

/-! ### The watermarks (R153, R154) -/

/-- Settles O51: the two crossings as rules for every slot. -/
theorem watermarksPauseAndRelease : Obligations.WatermarksPauseAndRelease := by
  refine ⟨fun i s => ⟨fun hflag => if_pos hflag, fun hflag => if_neg (ne_true_of_eq_false hflag), heldAnywhere_iff s i⟩,
    fun u c source s hcalm => ⟨upwardTest_below source hcalm, fun habove => ?_⟩,
    fun u c s hcong => ⟨upwardTest_congested_none hcong, fun i => upwardTest_congested_some i hcong⟩,
    inSlotSet_insert, fun u c s => ⟨fun hnot => if_neg hnot, fun hcong hbelow => ?_⟩⟩
  · rw [upwardTest_crossed source hcalm habove]
    refine ⟨sourcesOf ((s.uplink u).held c), inSlotSet_sourcesOf _, fun i => ?_, rfl⟩
    rw [slot_ofRule]
    refine ⟨fun hin hflag => ?_, fun hor => ?_⟩
    · rw [if_pos hin, pausedRecord_unflagged hflag]
    · obtain hout | hflag := hor
      · exact if_neg (ne_true_of_eq_false hout)
      · rw [pausedRecord_flagged hflag, ite_self]
  · refine ⟨endCongestion u c s, if_pos ⟨hcong, hbelow⟩, fun i => ?_, by rw [endCongestion_eq]; rfl⟩
    rw [heldAnywhere_endCongestion, endCongestion_eq, slot_ofRule]
    exact ⟨fun hin hflag hfree => if_pos ⟨hin, hflag, hfree⟩, fun hnot => if_neg hnot⟩

/-! ### The control lists (R158) -/

theorem waiting_iff (k : ControlKind) (l : List ControlFrame) : waiting k l = true ↔ ∃ g ∈ l, g.kind = k := by
  simp only [waiting, List.any_eq_true, beq_iff_eq]

theorem waiting_eq_false (k : ControlKind) (l : List ControlFrame) : waiting k l = false ↔ ∀ g ∈ l, g.kind ≠ k := by
  simp only [waiting, List.any_eq_false, beq_iff_eq, ne_eq]

theorem without_eq (k : ControlKind) (l : List ControlFrame) :
    without k l = l.filter fun g => decide (g.kind ≠ k) := by
  refine List.filter_congr fun g _ => ?_
  by_cases h : g.kind = k <;> simp [h]

theorem replaceOrAppend_absent {f : ControlFrame} {l : List ControlFrame} (h : ∀ g ∈ l, g.kind ≠ f.kind) :
    replaceOrAppend f l = l ++ [f] := if_neg (ne_true_of_eq_false ((waiting_eq_false _ _).mpr h))

theorem replaceOrAppend_waiting {f : ControlFrame} {l : List ControlFrame} (h : waiting f.kind l = true) :
    replaceOrAppend f l = l.map fun g => if g.kind = f.kind then f else g := if_pos h

/-- A replacement in a list without the kind changes nothing. -/
theorem replaced_eq_self {f : ControlFrame} {l : List ControlFrame} (h : ∀ g ∈ l, g.kind ≠ f.kind) :
    (l.map fun g => if g.kind = f.kind then f else g) = l :=
  (List.map_congr_left fun g hg => if_neg (h g hg)).trans (List.map_id l)

theorem replaceOrAppend_only {f g : ControlFrame} {before after : List ControlFrame} (hg : g.kind = f.kind)
    (hbefore : ∀ x ∈ before, x.kind ≠ f.kind) (hafter : ∀ x ∈ after, x.kind ≠ f.kind) :
    replaceOrAppend f (before ++ g :: after) = before ++ f :: after := by
  rw [replaceOrAppend_waiting ((waiting_iff _ _).mpr ⟨g, by simp, hg⟩), List.map_append, List.map_cons,
    replaced_eq_self hbefore, replaced_eq_self hafter, if_pos hg]

/-- Where a frame of the kind waits, the frame takes its place, whatever the kind. -/
theorem offerControlPart_waiting {f : ControlFrame} {q : QueuePart} (h : waiting f.kind q.control = true) :
    offerControlPart f q = { q with control := replaceOrAppend f q.control } := by
  unfold offerControlPart
  split
  next => rfl
  next => rfl
  next hk => rw [← hk, if_pos h]
  next hk => rw [← hk, if_pos h]

theorem offerControlPart_tail {f : ControlFrame} (q : QueuePart) (hk : f.kind = .admitResult ∨ f.kind = .shutdownReq) :
    offerControlPart f q = { q with control := replaceOrAppend f q.control } := by
  unfold offerControlPart
  obtain hk | hk := hk <;> rw [hk]

theorem offerControlPart_cap {f : ControlFrame} {q : QueuePart} (hk : f.kind = .cap)
    (h : waiting .cap q.control = false) :
    offerControlPart f q = { q with control := without .uncap q.control ++ [f] } := by
  rw [offerControlPart, hk]
  exact if_neg (ne_true_of_eq_false h)

theorem offerControlPart_uncap {f : ControlFrame} {q : QueuePart} (hk : f.kind = .uncap)
    (h : waiting .uncap q.control = false) : offerControlPart f q =
      { q with
        control :=
          if waiting .cap q.control = true then without .cap q.control ++ (if q.marker = some .cap then [f] else [])
          else q.control ++ [f] } := by
  rw [offerControlPart, hk]
  refine (if_neg (ne_true_of_eq_false h)).trans ?_
  split
  next => split <;> simp
  next => rfl

/-- A kind that no two frames of a list share stands neither before nor after its frame. -/
theorem kind_unique {before after : List ControlFrame} {g : ControlFrame}
    (h : ((before ++ g :: after).map (·.kind)).Nodup) :
    (∀ x ∈ before, x.kind ≠ g.kind) ∧ ∀ x ∈ after, x.kind ≠ g.kind := by
  rw [List.map_append, List.map_cons, List.nodup_append] at h
  obtain ⟨-, hafter, hdisjoint⟩ := h
  refine ⟨fun x hx => hdisjoint _ (List.mem_map_of_mem hx) _ List.mem_cons_self, fun x hx heq => ?_⟩
  exact (List.nodup_cons.mp hafter).1 (heq ▸ List.mem_map_of_mem hx)

/-- Settles O52: a frame of a waiting kind takes its place, any other enters by its kind's rule. -/
theorem controlListsTakeTheirFrames : Obligations.ControlListsTakeTheirFrames := by
  refine ⟨fun f l => ⟨replaceOrAppend_absent, ?_⟩, fun f q hnodup => ⟨?_, fun hnone => ?_⟩⟩
  · rintro before g after rfl hg hbefore hafter
    exact replaceOrAppend_only hg hbefore hafter
  · intro before g after hq hg
    rw [hq] at hnodup
    obtain ⟨hbefore, hafter⟩ := kind_unique hnodup
    rw [hg] at hbefore hafter
    rw [offerControlPart_waiting ((waiting_iff _ _).mpr ⟨g, by rw [hq]; simp, hg⟩), hq,
      replaceOrAppend_only hg hbefore hafter]
  · have hwait : waiting f.kind q.control = false := (waiting_eq_false _ _).mpr hnone
    refine ⟨fun hk => ?_, fun hk => ?_, fun hk hcap => ?_, fun hk hcap => ?_⟩
    · rw [offerControlPart_tail q hk, replaceOrAppend_absent hnone]
    · rw [offerControlPart_cap hk (hk ▸ hwait), without_eq]
    · rw [offerControlPart_uncap hk (hk ▸ hwait), if_neg (ne_true_of_eq_false ((waiting_eq_false _ _).mpr hcap))]
    · rw [offerControlPart_uncap hk (hk ▸ hwait), if_pos ((waiting_iff _ _).mpr hcap), without_eq]

end Sys2Proof.Machine
end

section
/-! SUPPORT. Completions, transmissions that begin, the refresh of a pause and the link fall (O17, O31, O32, O33). -/

namespace Sys2Proof.Machine

/-! ### The refresh of a pause (R154) -/

theorem modQue_refreshPause {i : Slot} {s : State} (quanta : Nat) (h : (s.slot i).que.backpressure = true) :
    s.modQue i (refreshPause quanta) =
      s.modQue i fun q => { q with pendingPause := some quanta, refresh := .running (refreshLength quanta) } := by
  rw [State.modQue_eq, State.modQue_eq]
  exact State.modSlot_congr (by rw [refreshPause, if_pos h])

/-- Settles O17: the expiry as the flagged case of its rule, and the lengths of R154. -/
theorem refreshExpiryPausesAgain : Obligations.RefreshExpiryPausesAgain := by
  refine ⟨fun i s hrun hflag => ?_, fun _ => rfl, rfl, rfl, fun q hq => ?_⟩
  · refine (congrArg Host.Outcome.next (if_pos hrun)).trans ?_
    rw [modQue_refreshPause _ hflag]
    rfl
  · rw [refreshLength]
    omega

/-! ### Completions (R148, R150 to R153) -/

/-- A frame's cells returned and its uplink freed, before the watermark test. -/
def freedUplink (u : Uplink) (f : UplinkFlight) (s : State) : State :=
  { s with freeCells := s.freeCells + f.entry.frame.cells }.modUplink u fun r => { r with flight := none }

theorem uplinkComplete_eq (u : Uplink) (f : UplinkFlight) (s : State) :
    uplinkComplete u f s = tryAfter u f.cls (downwardTest u f.cls (freedUplink u f s)) := rfl

theorem downwardTest_mgmt (u : Uplink) (c : Cls) (s : State) : (downwardTest u c s).mgmt = s.mgmt := by
  obtain ⟨ss, a, b, h⟩ := downwardTest_frame u c s
  rw [h]

theorem tryAfter_tries {u : Uplink} {c : Cls} {s : State} (hdest : ∃ a, s.mgmt.destination = some (a, u)) (hc : c = 0) :
    tryAfter u c s = carrierTry s := by
  obtain ⟨a, hdest⟩ := hdest
  rw [tryAfter, hdest]
  exact if_pos ⟨hc, rfl⟩

theorem tryAfter_none {u : Uplink} {c : Cls} {s : State}
    (h : ¬((∃ a, s.mgmt.destination = some (a, u)) ∧ c = 0)) : tryAfter u c s = s := by
  unfold tryAfter
  split
  next a v hdest => exact if_neg fun ⟨hc, hv⟩ => h ⟨⟨a, hv ▸ hdest⟩, hc⟩
  next => rfl

theorem exec_uplinkComplete {u : Uplink} {f : UplinkFlight} {s : State} (h : (s.uplink u).flight = some f) :
    exec (.uplinkTransmissionComplete u) s = .next (close s (uplinkComplete u f s) false) := by
  show Host.Outcome.next _ = _
  rw [h]

theorem exec_slotComplete {i : Slot} {f : SlotFlight} {s : State} (h : (s.slot i).que.flight = some f) :
    exec (.slotTransmissionComplete i) s = .next (close s (slotComplete i f s) false) := by
  show Host.Outcome.next _ = _
  rw [h]

theorem slotComplete_eq (i : Slot) (f : SlotFlight) (s : State) : slotComplete i f s =
    { (s.modQue i fun q => { q with flight := none }) with
      freeCells := s.freeCells + (if f.fromEgress = true then f.frame.cells else 0) } := by
  unfold slotComplete
  dsimp only
  split <;> rfl

/-! ### The carrier try (R157) -/

theorem carryOne_none {s : State} (h : s.mgmt.destination = none ∨ s.trapQueue = []) : carryOne s = none := by
  unfold carryOne
  split
  next hdest htrap =>
    obtain h | h := h
    · rw [hdest] at h; cases h
    · rw [htrap] at h; cases h
  next => rfl

theorem carryOne_head {s : State} {a : Station} {u : Uplink} {x : TrapEntry} {rest : List TrapEntry}
    (hdest : s.mgmt.destination = some (a, u)) (htrap : s.trapQueue = x :: rest) : carryOne s =
      offerClass u 0 { frame := carrierFrame s a x rest.length, source := none }
        { s with trapQueue := rest, freeCells := s.freeCells + x.frame.cells } := by
  rw [carryOne, hdest, htrap]

theorem carrierTry_refused {s : State} (h : carryOne s = none) : carrierTry s = s := by
  unfold carrierTry
  cases s.trapQueue.length with
  | zero => rfl
  | succ n => rw [carryAll, h]

/-- A carrier that is built leaves one trapped frame fewer. -/
theorem carryOne_trapQueue {s t : State} (h : carryOne s = some t) : ∃ x, s.trapQueue = x :: t.trapQueue := by
  unfold carryOne at h
  split at h
  next x rest _ htrap =>
    obtain ⟨ss, a, b, n, rfl⟩ := offerClass_frame _ _ _ _ _ h
    exact ⟨x, htrap⟩
  next => cases h

theorem carrierTry_carried {s t : State} (h : carryOne s = some t) : carrierTry s = carrierTry t := by
  obtain ⟨x, htrap⟩ := carryOne_trapQueue h
  rw [carrierTry, htrap, List.length_cons, carryAll, h]
  rfl

theorem portNumber_eq (p : Port) : portNumber p =
    match p with
    | .slot i => i.val + 1
    | .uplink .A => 17
    | .uplink .B => 18 := by
  cases p with
  | slot i => rfl
  | uplink u => cases u <;> rfl

/-- Settles O31: completions by the frame in flight, the carrier try by its next carrier. -/
theorem completionsReturnCells : Obligations.CompletionsReturnCells := by
  refine ⟨fun u f s m hf hm => ?_, fun i f s hf => ?_, fun u s hrun => congrArg Host.Outcome.next (if_pos hrun),
    fun s => ⟨fun h => carrierTry_refused (carryOne_none h), ?_⟩⟩
  · have hdest : m.mgmt.destination = s.mgmt.destination := by
      rw [hm, downwardTest_mgmt, State.modUplink_mgmt]
    have hcomplete : uplinkComplete u f s = tryAfter u f.cls m := by rw [hm, uplinkComplete_eq, freedUplink]
    rw [exec_uplinkComplete hf, hcomplete, ← hdest]
    exact ⟨fun hto hc => by rw [tryAfter_tries hto hc], fun hnot => by rw [tryAfter_none hnot]⟩
  · rw [exec_slotComplete hf, slotComplete_eq]
  · rintro a u x rest carrier left offered hdest htrap rfl rfl rfl
    have hone := carryOne_head hdest htrap
    rw [carrierFrame, portNumber_eq] at hone
    exact ⟨fun hnone => carrierTry_refused (hone.trans hnone), fun t ht => carrierTry_carried (hone.trans ht)⟩

/-! ### Transmissions that begin (R150, R152) -/

theorem firstClass_eq_some {r : UplinkRecord} {c : Cls} (hc : r.queues[c].entries ≠ [])
    (hbefore : ∀ d : Cls, d < c → r.queues[d].entries = []) : firstClass r = some c := by
  have hp (d : Cls) : (!r.queues[d].entries.isEmpty) = true ↔ r.queues[d].entries ≠ [] := by simp
  have hascending : allClasses.Pairwise (· < ·) := by decide
  unfold firstClass
  cases hfind : allClasses.find? fun c => !r.queues[c].entries.isEmpty with
  | none => exact absurd ((hp c).mpr hc) (List.find?_eq_none.mp hfind c (mem_allClasses c))
  | some d =>
    obtain ⟨hd, before, after, hsplit, hnone⟩ := List.find?_eq_some_iff_append.mp hfind
    have hle : ¬c < d := fun hlt => by
      have hmem : c ∈ before ++ d :: after := hsplit ▸ mem_allClasses c
      rw [hsplit, List.pairwise_append, List.pairwise_cons] at hascending
      obtain ⟨-, ⟨hafter, -⟩, -⟩ := hascending
      obtain hb | hb := List.mem_append.mp hmem
      · exact hc (by simpa using hnone c hb)
      · obtain rfl | ha := List.mem_cons.mp hb
        · exact lt_irrefl _ hlt
        · exact lt_asymm hlt (hafter c ha)
    have hge : ¬d < c := fun hlt => (hp d).mp hd (hbefore d hlt)
    rw [le_antisymm (not_lt.mp hle) (not_lt.mp hge)]

theorem firstClass_eq_none {r : UplinkRecord} (h : ∀ c : Cls, r.queues[c].entries = []) : firstClass r = none :=
  List.find?_eq_none.mpr fun c _ => by rw [h c]; decide

/-- An uplink after the head of a class queue began its transmission. -/
def begunUplink (c : Cls) (e : QueueEntry) (rest : List QueueEntry) (r : UplinkRecord) : UplinkRecord :=
  { r with
    flight := some
      { cls := c, entry := { e with frame := sealFrame e.frame }, duration := transmissionTime e.frame }
    queues := r.queues.set c { r.queues[c] with entries := rest } }

/-- A transmission begins with the head of the first class queue that has one, or does not begin. -/
theorem beginUplink_begins {u : Uplink} {c : Cls} {e : QueueEntry} {rest : List QueueEntry} {s : State}
    (hflight : (s.uplink u).flight = none) (hup : (s.uplink u).linkUp = true)
    (hhold : (s.uplink u).hold.isRunning = false) (hfirst : firstClass (s.uplink u) = some c)
    (hentries : (s.uplink u).queues[c].entries = e :: rest) :
    beginUplink u s = s.modUplink u (begunUplink c e rest) := by
  unfold beginUplink
  dsimp only
  rw [if_pos (by simp [hflight, hup, hhold]), hfirst]
  dsimp only
  rw [hentries]
  cases u <;> rfl

theorem beginUplink_idles {u : Uplink} {s : State} (h : (s.uplink u).flight ≠ none ∨ (s.uplink u).linkUp = false ∨
    (s.uplink u).hold.isRunning = true ∨ ∀ c : Cls, (s.uplink u).queues[c].entries = []) : beginUplink u s = s := by
  unfold beginUplink
  dsimp only
  split
  next hidle =>
    simp only [Bool.and_eq_true, Option.isNone_iff_eq_none, Bool.not_eq_true'] at hidle
    obtain ⟨⟨hflight, hup⟩, hhold⟩ := hidle
    obtain h | h | h | h := h
    · exact absurd hflight h
    · rw [hup] at h; cases h
    · rw [hhold] at h; cases h
    · rw [firstClass_eq_none h]
  next => rfl

theorem markerAfter_eq (m : Option Marker) (k : ControlKind) :
    markerAfter m k = if k = .cap then some .cap else if k = .uncap then some .uncap else m := by
  cases k <;> rfl

section
variable {pause : Nat → Octets} {q : QueuePart}

theorem beginSlotPart_busyLink (hflight : q.flight ≠ none) : beginSlotPart pause q = q := by
  obtain ⟨f, hf⟩ := Option.ne_none_iff_exists'.mp hflight
  rw [beginSlotPart, hf]

theorem beginSlotPart_pause {n : Nat} (hflight : q.flight = none) (hpause : q.pendingPause = some n) :
    beginSlotPart pause q =
      { q with pendingPause := none, flight := some (flightOf { octets := pause n, fcs := none } false) } := by
  rw [beginSlotPart, hflight, hpause]

theorem beginSlotPart_control {f : ControlFrame} {rest : List ControlFrame} (hflight : q.flight = none)
    (hpause : q.pendingPause = none) (hcontrol : q.control = f :: rest) : beginSlotPart pause q =
      { q with
        control := rest, flight := some (flightOf { octets := f.octets, fcs := none } false)
        marker := if f.kind = .cap then some .cap else if f.kind = .uncap then some .uncap else q.marker } := by
  rw [← markerAfter_eq, beginSlotPart, hflight, hpause, hcontrol]

theorem beginSlotPart_egress {f : Frame} {rest : List Frame} (hflight : q.flight = none)
    (hpause : q.pendingPause = none) (hcontrol : q.control = []) (hegress : q.egress = f :: rest) :
    beginSlotPart pause q = { q with egress := rest, flight := some (flightOf f true) } := by
  rw [beginSlotPart, hflight, hpause, hcontrol, hegress]

theorem beginSlotPart_nothing (hpause : q.pendingPause = none) (hcontrol : q.control = []) (hegress : q.egress = []) :
    beginSlotPart pause q = q := by
  cases hflight : q.flight with
  | none => rw [beginSlotPart, hflight, hpause, hcontrol, hegress]
  | some f => exact beginSlotPart_busyLink (by rw [hflight]; simp)

end

theorem beginSlot_congr {i : Slot} {s : State} {f : QueuePart → QueuePart}
    (h : beginSlotPart s.pauseOctets (s.slot i).que = f (s.slot i).que) : beginSlot i s = s.modQue i f := by
  rw [beginSlot, State.modQue_eq, State.modQue_eq]
  exact State.modSlot_congr (by rw [h])

theorem beginSlot_unchanged {i : Slot} {s : State} (h : beginSlotPart s.pauseOctets (s.slot i).que = (s.slot i).que) :
    beginSlot i s = s := by
  rw [beginSlot, State.modQue_eq]
  exact modSlot_unchanged (by rw [h])

/-- The uplinks begin without a change of any slot, and then every slot link begins. -/
theorem beginAll_slot (s : State) (i : Slot) :
    (beginAll s).slot i = { s.slot i with que := beginSlotPart s.pauseOctets (s.slot i).que } := by
  obtain ⟨a, b, hA⟩ := beginUplink_frame .A s
  obtain ⟨a', b', hB⟩ := beginUplink_frame .B { s with uplinkA := a, uplinkB := b }
  have hrule := foldl_slotRule (s := { s with uplinkA := a', uplinkB := b' }) (step := fun t j => beginSlot j t)
    (rule := fun _ r => { r with que := beginSlotPart s.pauseOctets r.que }) fun _ _ => rfl
  rw [beginAll, hA, hB, hrule, slot_ofRule]
  rfl

theorem beginUplink_congr {u : Uplink} {s t : State} (h : t.uplink u = s.uplink u) :
    (beginUplink u t).uplink u = (beginUplink u s).uplink u := by
  unfold beginUplink
  dsimp only
  rw [h]
  split
  next =>
    split
    next => exact h
    next =>
      split
      next => exact h
      next => simp only [State.uplink_modUplink, State.modClass, if_pos, h]
  next => exact h

theorem beginAll_uplink (s : State) (u : Uplink) : (beginAll s).uplink u = (beginUplink u s).uplink u := by
  rw [beginAll, foldl_beginSlot_uplink]
  cases u with
  | A => exact beginUplink_other .B .A _ (by decide)
  | B => exact beginUplink_congr (beginUplink_other .A .B s (by decide))

/-- Settles O32: each link by the first of its queues that has a frame, and all links as each of them. -/
theorem linksServeTheirQueuesInOrder : Obligations.LinksServeTheirQueuesInOrder := by
  refine ⟨fun _ _ => rfl, fun _ => rfl, fun u c e rest s hflight hup hhold hentries hbefore => ?_,
    fun u s h => beginUplink_idles h, fun i s => ⟨fun hflight => ?_, fun n hflight hpause => ?_,
      fun f rest hflight hpause hcontrol => ?_, fun f rest hflight hpause hcontrol hegress => ?_,
      fun hpause hcontrol hegress => ?_, ?_, beginAll_uplink s, ?_⟩⟩
  · exact beginUplink_begins hflight hup (by rw [hhold]; rfl)
      (firstClass_eq_some (by rw [hentries]; simp) hbefore) hentries
  · exact beginSlot_unchanged (beginSlotPart_busyLink hflight)
  · exact beginSlot_congr (beginSlotPart_pause hflight hpause)
  · exact beginSlot_congr (beginSlotPart_control hflight hpause hcontrol)
  · exact beginSlot_congr (beginSlotPart_egress hflight hpause hcontrol hegress)
  · exact beginSlot_unchanged (beginSlotPart_nothing hpause hcontrol hegress)
  · rw [beginAll_slot, beginSlot, State.modQue_eq, State.slot_modSlot_same]
  · obtain ⟨ss, a, b, h⟩ := beginAll_frame s
    rw [h]

end Sys2Proof.Machine
end

section
/-! SUPPORT. The link fall, class by class (O33). -/

namespace Sys2Proof.Machine

/-! ### What a fallen class leaves (R155) -/

/-- The port against which a flushed entry is counted: its source slot's, or else the uplink's (R155). -/
def flushedPort (u : Uplink) (e : QueueEntry) : Port := e.source.elim (.uplink u) .slot

theorem countLinkDown_eq (u : Uplink) (e : QueueEntry) (s : State) :
    countLinkDown u e s = drop (flushedPort u e) .linkDown s := by
  unfold countLinkDown flushedPort
  split
  next h => rw [h]; rfl
  next h => rw [h]; rfl

/-- The counters of `m` are those of `s` with `n p` more drops under LINK_DOWN against each port (R155, R171). -/
structure LinkDownCounted (n : Port → Nat) (s m : State) : Prop where
  drops : ∀ (p : Port) (x : DropReason), m.counters[portIndex p].drops[x.index] =
    s.counters[portIndex p].drops[x.index] + (if x = .linkDown then BitVec.ofNat 32 (n p) else 0)
  received : ∀ p : Port, m.counters[portIndex p].received = s.counters[portIndex p].received

theorem LinkDownCounted.trans {n k : Port → Nat} {s t m : State} (h : LinkDownCounted n s t)
    (h' : LinkDownCounted k t m) : LinkDownCounted (fun p => n p + k p) s m where
  drops p x := by
    rw [h'.drops, h.drops]
    split
    next => rw [BitVec.ofNat_add, BitVec.add_assoc]
    next => simp
  received p := (h'.received p).trans (h.received p)

theorem linkDownCounted_drop (p : Port) (s : State) :
    LinkDownCounted (fun q => if p = q then 1 else 0) s (drop p .linkDown s) where
  drops q x := by
    rw [drop_drops]
    by_cases hq : q = p
    · by_cases hx : x = .linkDown <;> simp [hx, hq]
    · simp [hq, Ne.symm hq]
  received q := drop_received p q .linkDown s

/-- The entries of a flush counted, one after another. -/
theorem foldl_countLinkDown (u : Uplink) (l : List QueueEntry) (s : State) :
    (∃ k, l.foldl (fun t e => countLinkDown u e t) s = { s with counters := k }) ∧
      LinkDownCounted (fun p => l.countP fun e => decide (flushedPort u e = p)) s
        (l.foldl (fun t e => countLinkDown u e t) s) := by
  induction l generalizing s with
  | nil => exact ⟨⟨s.counters, rfl⟩, ⟨fun p x => by simp, fun p => rfl⟩⟩
  | cons e l ih =>
    obtain ⟨⟨k, hk⟩, hcounted⟩ := ih (countLinkDown u e s)
    rw [countLinkDown_eq] at hk hcounted
    refine ⟨⟨k, by rw [List.foldl_cons, countLinkDown_eq, hk]; rfl⟩, ?_⟩
    have hall := (linkDownCounted_drop (flushedPort u e) s).trans hcounted
    rw [List.foldl_cons, countLinkDown_eq]
    refine ⟨fun p x => ?_, hall.received⟩
    rw [hall.drops, List.countP_cons, Nat.add_comm]
    simp only [decide_eq_true_eq]

/-- The slots of `m` are those of `s` with the flagged slots released that no queue of `m` holds any more (R153). -/
structure SlotsFreed (s m : State) : Prop where
  held : ∀ i, heldAnywhere m i = true → heldAnywhere s i = true
  freed : ∀ i, (s.slot i).que.backpressure = true ∧ heldAnywhere s i = true ∧ heldAnywhere m i = false →
    m.slot i = freedRecord (s.slot i)
  kept : ∀ i, ¬((s.slot i).que.backpressure = true ∧ heldAnywhere s i = true ∧ heldAnywhere m i = false) →
    m.slot i = s.slot i

theorem SlotsFreed.refl {s m : State} (hslot : ∀ i, m.slot i = s.slot i)
    (hheld : ∀ i, heldAnywhere m i = heldAnywhere s i) : SlotsFreed s m where
  held i h := by rwa [← hheld]
  freed i h := by
    obtain ⟨-, h1, h2⟩ := h
    rw [hheld, h1] at h2
    cases h2
  kept i _ := hslot i

theorem SlotsFreed.trans {s t m : State} (h : SlotsFreed s t) (h' : SlotsFreed t m) : SlotsFreed s m where
  held i hm := h.held i (h'.held i hm)
  freed i := by
    rintro ⟨hflag, hs, hm⟩
    cases ht : heldAnywhere t i with
    | true =>
      have hkept := h.kept i fun hn => by rw [ht] at hn; cases hn.2.2
      rw [← hkept]
      exact h'.freed i ⟨by rwa [hkept], ht, hm⟩
    | false =>
      rw [h'.kept i fun hn => by rw [ht] at hn; cases hn.2.1]
      exact h.freed i ⟨hflag, hs, ht⟩
  kept i hnot := by
    cases ht : heldAnywhere t i with
    | true =>
      have hkept := h.kept i fun hn => by rw [ht] at hn; cases hn.2.2
      rw [← hkept]
      refine h'.kept i fun ⟨hflag, _, hm⟩ => hnot ⟨by rwa [hkept] at hflag, h.held i ht, hm⟩
    | false =>
      have hm : heldAnywhere m i = false := by
        cases hm : heldAnywhere m i with
        | true => rw [h'.held i hm] at ht; cases ht
        | false => rfl
      rw [h'.kept i fun hn => by rw [ht] at hn; cases hn.2.1]
      exact h.kept i fun ⟨hflag, hs, _⟩ => hnot ⟨hflag, hs, hm⟩

theorem heldAnywhere_modClass (s : State) (u : Uplink) (c : Cls) (f : ClassQueue → ClassQueue)
    (hf : ∀ q, (f q).held = 0) (i : Slot) : heldAnywhere (s.modClass u c f) i = true ↔
      ∃ (v : Uplink) (d : Cls), ¬(v = u ∧ d = c) ∧ inSlotSet (s.uplink v).queues[d].held i = true := by
  rw [heldAnywhere_iff]
  refine exists_congr fun v => exists_congr fun d => ?_
  rw [queues_modClass]
  split
  next h => rw [hf, inSlotSet_empty]; simp [h]
  next h => simp [h]

/-- The end of a congestion frees slots by its own held set: a slot that another queue holds stays as it is. -/
theorem endCongestion_slotsFreed (u : Uplink) (c : Cls) (s : State) : SlotsFreed s (endCongestion u c s) := by
  have hheld (i : Slot) : heldAnywhere (endCongestion u c s) i = true ↔
      ∃ (v : Uplink) (d : Cls), ¬(v = u ∧ d = c) ∧ inSlotSet (s.uplink v).queues[d].held i = true := by
    rw [heldAnywhere_endCongestion]
    exact heldAnywhere_modClass s u c clearCongestion (fun _ => rfl) i
  have hown (i : Slot) (hs : heldAnywhere s i = true) (hm : heldAnywhere (endCongestion u c s) i = false) :
      inSlotSet (s.uplink u).queues[c].held i = true := by
    obtain ⟨v, d, hin⟩ := (heldAnywhere_iff s i).mp hs
    by_cases hvd : v = u ∧ d = c
    · obtain ⟨rfl, rfl⟩ := hvd
      exact hin
    · rw [(hheld i).mpr ⟨v, d, hvd, hin⟩] at hm
      cases hm
  refine ⟨fun i hm => ?_, fun i ⟨hflag, hs, hm⟩ => ?_, fun i hnot => ?_⟩
  · obtain ⟨v, d, -, hin⟩ := (hheld i).mp hm
    exact (heldAnywhere_iff s i).mpr ⟨v, d, hin⟩
  · have hin := hown i hs hm
    rw [heldAnywhere_endCongestion] at hm
    rw [endCongestion_eq, slot_ofRule]
    exact if_pos ⟨hin, hflag, hm⟩
  · rw [heldAnywhere_endCongestion] at hnot
    rw [endCongestion_eq, slot_ofRule]
    exact if_neg fun ⟨hin, hflag, hm⟩ => hnot ⟨hflag, (heldAnywhere_iff s i).mpr ⟨u, c, hin⟩, hm⟩

/-! ### The classes of an uplink, one after another -/

/-- What a link fall leaves of the classes of a list: each emptied with its congestion ended, the cells returned, the
entries counted, the slots freed that no queue holds any more. -/
structure ClassesFallen (u : Uplink) (l : List Cls) (s m : State) : Prop where
  record : m.uplink u = { s.uplink u with queues := (m.uplink u).queues }
  fallen : ∀ c : Cls, c ∈ l → (m.uplink u).queues[c] = restartedQueue (s.uplink u).queues[c]
  waiting : ∀ c : Cls, c ∉ l → (m.uplink u).queues[c] = (s.uplink u).queues[c]
  other : m.uplink (otherUplink u) = s.uplink (otherUplink u)
  cells : m.freeCells = s.freeCells + (l.map fun c => entryCells (s.uplink u).queues[c].entries).sum
  counted : LinkDownCounted
    (fun p => (l.map fun c => (s.uplink u).queues[c].entries.countP fun e => decide (flushedPort u e = p)).sum) s m
  slots : SlotsFreed s m
  frame : m = { s with
    slots := m.slots, uplinkA := m.uplinkA, uplinkB := m.uplinkB, freeCells := m.freeCells, counters := m.counters }

theorem modClass_modClass (s : State) (u : Uplink) (c : Cls) (f g : ClassQueue → ClassQueue) :
    (s.modClass u c f).modClass u c g = s.modClass u c fun q => g (f q) := by
  cases u <;> simp [State.modClass, State.modUplink]

theorem otherUplink_ne (u : Uplink) : otherUplink u ≠ u := by cases u <;> decide

/-- The flush of one class queue with its congestion ended (R155). -/
theorem endCongestion_flushClass_eq (u : Uplink) (c : Cls) (s : State) : ∃ ss,
    endCongestion u c (flushClass u c s) =
      { ({ s with freeCells := s.freeCells + entryCells (s.uplink u).queues[c].entries } : State).modClass u c
          restartedQueue with slots := ss } := by
  rw [endCongestion_eq, flushClass, modClass_modClass]
  exact ⟨_, rfl⟩

@[simp] theorem uplink_withCounters (s : State) (k : Vector PortCounters 18) (v : Uplink) :
    ({ s with counters := k } : State).uplink v = s.uplink v := by cases v <;> rfl

/-- A flush with its entries counted frees no slot by itself. -/
theorem flushClass_slotsFreed (u : Uplink) (c : Cls) (k : Vector PortCounters 18) (s : State) :
    SlotsFreed s (flushClass u c { s with counters := k }) := by
  refine .refl (fun i => slot_modClass _ _ _ _ i) fun i => ?_
  rw [flushClass, Bool.eq_iff_iff, heldAnywhere_iff, heldAnywhere_iff]
  refine exists_congr fun v => exists_congr fun d => ?_
  rw [queues_modClass, uplink_withCells, uplink_withCounters]
  split <;> rfl

theorem linkDownClass_fallen (u : Uplink) (c : Cls) (s : State) : ClassesFallen u [c] s (linkDownClass u c s) := by
  obtain ⟨⟨k, hk⟩, hcounted⟩ := foldl_countLinkDown u (s.uplink u).queues[c].entries s
  rw [hk] at hcounted
  obtain ⟨ss, hflush⟩ := endCongestion_flushClass_eq u c { s with counters := k }
  have hdown : linkDownClass u c s = endCongestion u c (flushClass u c { s with counters := k }) := by
    rw [linkDownClass, hk]
  have hfreed := endCongestion_slotsFreed u c (flushClass u c { s with counters := k })
  rw [← hdown] at hflush hfreed
  have huplink (v : Uplink) : (linkDownClass u c s).uplink v =
      (({ s with freeCells := s.freeCells + entryCells (s.uplink u).queues[c].entries, counters := k } : State).modClass
        u c restartedQueue).uplink v := by
    rw [hflush, uplink_withSlots, uplink_withCounters s k]
  have hup (n : Nat) (v : Uplink) : ({ s with freeCells := n, counters := k } : State).uplink v = s.uplink v := by
    cases v <;> rfl
  have hqueue (v : Uplink) (d : Cls) : ((linkDownClass u c s).uplink v).queues[d] =
      if v = u ∧ d = c then restartedQueue (s.uplink v).queues[d] else (s.uplink v).queues[d] := by
    rw [huplink, queues_modClass, hup]
  obtain ⟨a, b, hmod⟩ := modClass_frame u c restartedQueue
    { s with freeCells := s.freeCells + entryCells (s.uplink u).queues[c].entries, counters := k }
  refine ⟨?_, fun d hd => ?_, fun d hd => ?_, ?_, ?_, ?_, (flushClass_slotsFreed u c k s).trans hfreed, ?_⟩
  · rw [huplink, uplink_modClass, if_pos rfl, hup]
  · rw [hqueue, if_pos ⟨rfl, List.mem_singleton.mp hd⟩]
  · rw [hqueue, if_neg fun h => hd (List.mem_singleton.mpr h.2)]
  · rw [huplink, uplink_modClass, if_neg (otherUplink_ne u), hup]
  · rw [hflush, uplink_withCounters s k]
    simp
  · rw [hflush, uplink_withCounters s k, hmod]
    refine ⟨fun p x => (hcounted.drops p x).trans ?_, hcounted.received⟩
    simp
  · rw [hflush, uplink_withCounters s k, hmod]

theorem ClassesFallen.cons {u : Uplink} {c : Cls} {l : List Cls} {s t m : State} (hc : c ∉ l)
    (h : ClassesFallen u [c] s t) (h' : ClassesFallen u l t m) : ClassesFallen u (c :: l) s m := by
  have hwait (d : Cls) (hd : d ∈ l) : (t.uplink u).queues[d] = (s.uplink u).queues[d] :=
    h.waiting d fun hdc => hc (List.mem_singleton.mp hdc ▸ hd)
  refine ⟨?_, fun d hd => ?_, fun d hd => ?_, h'.other.trans h.other, ?_, ?_, h.slots.trans h'.slots, ?_⟩
  · rw [h'.record, h.record]
  · obtain rfl | hd := List.mem_cons.mp hd
    · rw [h'.waiting d hc, h.fallen d List.mem_cons_self]
    · rw [h'.fallen d hd, hwait d hd]
  · obtain ⟨hdc, hdl⟩ := not_or.mp (mt List.mem_cons.mpr hd)
    rw [h'.waiting d hdl, h.waiting d (mt List.mem_singleton.mp hdc)]
  · have hrest : (l.map fun d => entryCells (t.uplink u).queues[d].entries) =
        l.map fun d => entryCells (s.uplink u).queues[d].entries :=
      List.map_congr_left fun d hd => by rw [hwait d hd]
    rw [h'.cells, h.cells, hrest, List.map_cons, List.map_cons, List.sum_cons, List.sum_cons, List.map_nil,
      List.sum_nil, Nat.add_zero, Nat.add_assoc]
  · have hall := h.counted.trans h'.counted
    refine ⟨fun p x => (hall.drops p x).trans ?_, hall.received⟩
    rw [List.map_congr_left (l := l) fun d hd => by rw [hwait d hd]]
    simp
  · rw [h'.frame, h.frame]

theorem foldl_linkDownClass (u : Uplink) {l : List Cls} (hl : l.Nodup) (s : State) :
    ClassesFallen u l s (l.foldl (fun t c => linkDownClass u c t) s) := by
  induction l generalizing s with
  | nil =>
    exact ⟨rfl, fun _ h => absurd h List.not_mem_nil, fun _ _ => rfl, rfl, rfl, ⟨fun p x => by simp, fun _ => rfl⟩,
      .refl (fun _ => rfl) fun _ => rfl, rfl⟩
  | cons c l ih =>
    obtain ⟨hc, hl⟩ := List.nodup_cons.mp hl
    exact (linkDownClass_fallen u c s).cons hc (ih hl _)

/-! ### The link fall (O33) -/

/-- Settles O33: the link taken down, then its four classes fallen. -/
theorem linkFallFlushesTheUplink : Obligations.LinkFallFlushesTheUplink := by
  refine ⟨fun u s hup => ?_, fun u s hdown => congrArg Host.Outcome.next (if_neg (ne_true_of_eq_false hdown))⟩
  have hfall := foldl_linkDownClass u (l := allClasses) (by decide)
    (s.modUplink u fun r => { r with linkUp := false, hold := .stopped })
  have huplink : (s.modUplink u fun r => { r with linkUp := false, hold := .stopped }).uplink u =
      { s.uplink u with linkUp := false, hold := .stopped } := by rw [State.uplink_modUplink, if_pos rfl]
  have hother : (s.modUplink u fun r => { r with linkUp := false, hold := .stopped }).uplink (otherUplink u) =
      s.uplink (otherUplink u) := by rw [State.uplink_modUplink, if_neg (otherUplink_ne u)]
  have hheld (i : Slot) : heldAnywhere (s.modUplink u fun r => { r with linkUp := false, hold := .stopped }) i =
      heldAnywhere s i := by
    simp only [heldAnywhere, State.uplink_modUplink]
    cases u <;> rfl
  rw [← linkFall] at hfall
  have hrecord := hfall.record
  rw [huplink] at hrecord
  refine ⟨linkFall u s, congrArg Host.Outcome.next (if_pos hup), by rw [hrecord], by rw [hrecord], by rw [hrecord],
    by rw [hrecord], by rw [hrecord], fun c => ?_, by rw [hfall.other, hother], ?_, fun p x => ?_, fun p => ?_,
    fun i => ?_, ?_⟩
  · rw [hfall.fallen c (mem_allClasses c), huplink]
    rfl
  · rw [hfall.cells, huplink, State.modUplink_freeCells]
  · rw [hfall.counted.drops, huplink, State.modUplink_counters]
    rfl
  · rw [hfall.counted.received, State.modUplink_counters]
  · have hfreed := hfall.slots.freed i
    have hkept := hfall.slots.kept i
    rw [hheld, State.modUplink_slot] at hfreed hkept
    exact ⟨hfreed, hkept⟩
  · obtain ⟨a, b, hmod⟩ := modUplink_frame u (fun r => { r with linkUp := false, hold := .stopped }) s
    have hframe := hfall.frame
    rw [hmod] at hframe
    exact hframe

end Sys2Proof.Machine
end

section
/-! SUPPORT. Every event as a chain of queue moves: what an event can change of the Queue Manager's part of the state
(R147 to R160). -/

namespace Sys2Proof.Machine

/-- Two states with the same uplinks, free cells, trap queue and Queue Manager part of every slot. -/
structure SameQueues (s t : State) : Prop where
  parts : ∀ i, (t.slot i).que = (s.slot i).que
  uplinkA : t.uplinkA = s.uplinkA
  uplinkB : t.uplinkB = s.uplinkB
  cells : t.freeCells = s.freeCells
  trap : t.trapQueue = s.trapQueue

namespace SameQueues

theorem uplink {s t : State} (h : SameQueues s t) (u : Uplink) : t.uplink u = s.uplink u := by
  cases u with
  | A => exact h.uplinkA
  | B => exact h.uplinkB

theorem refl (s : State) : SameQueues s s := ⟨fun _ => rfl, rfl, rfl, rfl, rfl⟩

theorem trans {s t u : State} (h : SameQueues s t) (h' : SameQueues t u) : SameQueues s u :=
  ⟨fun i => (h'.parts i).trans (h.parts i), h'.uplinkA.trans h.uplinkA, h'.uplinkB.trans h.uplinkB,
    h'.cells.trans h.cells, h'.trap.trans h.trap⟩

/-- States with the same slots. -/
theorem of_eq {s t : State} (hs : t.slots = s.slots) (ha : t.uplinkA = s.uplinkA) (hb : t.uplinkB = s.uplinkB)
    (hc : t.freeCells = s.freeCells) (ht : t.trapQueue = s.trapQueue) : SameQueues s t :=
  ⟨fun i => by rw [State.slot, State.slot, hs], ha, hb, hc, ht⟩

/-- A change of one slot's record in each of two states. -/
theorem modSlots {s t : State} (h : SameQueues s t) (i : Slot) {f g : SlotRecord → SlotRecord}
    (hq : (g (t.slot i)).que = (f (s.slot i)).que) : SameQueues (s.modSlot i f) (t.modSlot i g) where
  parts j := by
    rw [State.slot_modSlot, State.slot_modSlot]
    split
    next => exact hq
    next => exact h.parts j
  uplinkA := h.uplinkA
  uplinkB := h.uplinkB
  cells := h.cells
  trap := h.trap

/-- A change of a slot record that leaves its Queue Manager part. -/
theorem modSlot (s : State) (i : Slot) (f : SlotRecord → SlotRecord)
    (hf : ∀ r, (f r).que = r.que := by exact fun _ => rfl) : SameQueues s (s.modSlot i f) where
  parts j := by
    rw [State.slot_modSlot]
    split
    next h => rw [hf, h]
    next => rfl
  uplinkA := rfl
  uplinkB := rfl
  cells := rfl
  trap := rfl

theorem raise (a : Alert) (s : State) : SameQueues s (Machine.raise a s) := by
  obtain ⟨al, h⟩ := raise_frame a s
  exact h ▸ .of_eq rfl rfl rfl rfl rfl

theorem moveTo (i : Slot) (st : SlotState) (s : State) : SameQueues s (moveTo i st s) := by
  obtain ⟨q, h⟩ := moveTo_frame i st s
  rw [h]
  refine (SameQueues.modSlot s i (fun r => { r with adm := { r.adm with state := st } })).trans ?_
  exact .of_eq rfl rfl rfl rfl rfl

theorem freeLane (i : Slot) (s : State) : SameQueues s (freeLane i s) := by
  obtain ⟨n, h⟩ := freeLane_frame i s
  exact h ▸ .of_eq rfl rfl rfl rfl rfl

theorem propagate (before after : State) : SameQueues after (propagate before after) := by
  obtain ⟨_, _, _, _, h⟩ := propagate_frame before after
  exact h ▸ .of_eq rfl rfl rfl rfl rfl

theorem rezone (zs : List Zone) (s : State) : SameQueues s (rezone zs s) := by
  obtain ⟨_, _, _, _, _, h⟩ := rezone_frame zs s
  exact h ▸ .of_eq rfl rfl rfl rfl rfl

theorem changeTrigger (s : State) : SameQueues s (changeTrigger s) := by
  unfold Machine.changeTrigger
  split <;> exact .of_eq rfl rfl rfl rfl rfl

theorem setPriority (i : Slot) (p : Fin 4) (s : State) : SameQueues s (setPriority i p s) := by
  have hstored : SameQueues s (s.modAdm i fun a => { a with priority := p }) := .modSlot s i _
  unfold Machine.setPriority
  split
  next => exact .refl s
  next =>
    dsimp only
    split
    next => exact hstored
    next => exact hstored.trans (.of_eq rfl rfl rfl rfl rfl)

theorem refreshStations (i : Slot) (l : List Station) (s : State) : SameQueues s (refreshStations i l s) := by
  have hlisted (stations : List StationEntry) (f : InventoryRecord → InventoryRecord) :
      SameQueues s ({ s with stations := stations }.modInv i f) := by
    refine SameQueues.trans (t := { s with stations := stations }) ?_ (.modSlot _ i _)
    exact .of_eq rfl rfl rfl rfl rfl
  unfold Machine.refreshStations
  dsimp only
  split
  next => exact (hlisted _ _).trans (.raise _ _)
  next => exact hlisted _ _

theorem drop (p : Port) (r : DropReason) (s : State) : SameQueues s (drop p r s) := .of_eq rfl rfl rfl rfl rfl

end SameQueues

/-- The elementary moves of the queues of which every event's own changes, every evaluation and every end of an event
are made, each under the conditions in which it is taken. -/
inductive QueueMove (s : State) : State → Prop
  | same (t : State) : SameQueues s t → QueueMove s t
  | link (u : Uplink) (f : UplinkRecord → UplinkRecord) : (∀ r, (f r).queues = r.queues ∧ (f r).flight = r.flight) →
      QueueMove s (s.modUplink u f)
  | enqueue (u : Uplink) (c : Cls) (e : QueueEntry) (t : State) : offerClass u c e s = some t → QueueMove s t
  | deliver (i : Slot) (f : Frame) (t : State) : offerEgress i f s = some t → QueueMove s t
  | trap (e : TrapEntry) (t : State) : offerTrap e s = some t → QueueMove s t
  | untrap (e : TrapEntry) (rest : List TrapEntry) : s.trapQueue = e :: rest →
      QueueMove s { s with trapQueue := rest, freeCells := s.freeCells + e.frame.cells }
  | control (i : Slot) (f : ControlFrame) : QueueMove s (offerControl i f s)
  | discard (i : Slot) : QueueMove s (s.modQue i discardPowerFrames)
  | flushSlot (i : Slot) : QueueMove s (flushSlot i s)
  | complete (u : Uplink) (f : UplinkFlight) : (s.uplink u).flight = some f →
      QueueMove s (downwardTest u f.cls (freedUplink u f s))
  | slotComplete (i : Slot) (f : SlotFlight) : (s.slot i).que.flight = some f → QueueMove s (slotComplete i f s)
  | refresh (i : Slot) (quanta : Nat) : QueueMove s (s.modQue i (refreshPause quanta))
  | fall (u : Uplink) (c : Cls) : QueueMove s (endCongestion u c (flushClass u c s))
  | limits (a : QueueArgs) : QueueMove s (setQueueLimits a s).state
  | restart : QueueMove s (restartQueues s)
  | beginUplink (u : Uplink) : QueueMove s (beginUplink u s)
  | beginSlot (i : Slot) : QueueMove s (beginSlot i s)

/-- A chain of queue moves. -/
abbrev QueueMoves : State → State → Prop := Relation.ReflTransGen QueueMove

theorem QueueMoves.same {s t : State} (h : SameQueues s t) : QueueMoves s t := .single (.same t h)

theorem QueueMoves.thenSame {s t u : State} (h : QueueMoves s t) (h' : SameQueues t u) : QueueMoves s u :=
  .tail h (.same u h')

theorem SameQueues.then {s t u : State} (h : SameQueues s t) (h' : QueueMove t u) : QueueMoves s u :=
  .tail (.single (.same t h)) h'

theorem foldl_queueMoves {α : Type} (step : State → α → State) (h : ∀ s a, QueueMoves s (step s a)) (l : List α)
    (s : State) : QueueMoves s (l.foldl step s) := by
  induction l generalizing s with
  | nil => exact .refl
  | cons a l ih => exact (h s a).trans (ih _)

/-! ### Slots that lose power (R16, R62, R76, R156) -/

theorem mainOff_queueMoves (i : Slot) (st : SlotState) (s : State) : QueueMoves s (mainOff i st s) := by
  have hoff : SameQueues (s.modQue i discardPowerFrames) ((Machine.freeLane i s).modSlot i fun r =>
      { r with rail := railsOff r.rail, bud := releaseMain r.bud, que := discardPowerFrames r.que }) :=
    (SameQueues.freeLane i s).modSlots i (congrArg discardPowerFrames ((SameQueues.freeLane i s).parts i))
  exact .tail (.single (.discard i)) (.same _ ((hoff.trans (.moveTo i st _)).trans (.rezone _ _)))

theorem purgeStations_sameQueues (i : Slot) (s : State) : SameQueues s (purgeStations i s) := by
  unfold purgeStations
  refine SameQueues.trans (t := { s with stations := s.stations.filter fun e => decide (e.owner ≠ i) }) ?_
    (.modSlot _ i _)
  exact .of_eq rfl rfl rfl rfl rfl

theorem removal_queueMoves (i : Slot) (s : State) : QueueMoves s (removal i s) := by
  refine ((SameQueues.then ?_ (.flushSlot i)).thenSame (.moveTo i .empty _)).thenSame
    ((SameQueues.rezone _ _).trans (.raise _ _))
  exact ((SameQueues.freeLane i s).trans (.modSlot _ i _)).trans (purgeStations_sameQueues i _)

theorem standbyCut_queueMoves (i : Slot) (s : State) : QueueMoves s (standbyCut i s) := by
  refine (SameQueues.then ?_ (.flushSlot i)).thenSame ((SameQueues.moveTo i .standbyWait _).trans (.raise _ _))
  exact (SameQueues.modSlot _ i _).trans (purgeStations_sameQueues i _)

theorem insertion_sameQueues (i : Slot) (s : State) : SameQueues s (insertion i s) :=
  ((SameQueues.moveTo i .standbyWait s).trans (.modSlot _ i _)).trans (.raise _ _)

theorem presenceExpiry_queueMoves (i : Slot) (s : State) : QueueMoves s (presenceExpiry i s).state := by
  have htaken : SameQueues s (s.modAdm i fun a => { a with window := .stopped, filtered := a.presenceLine }) :=
    .modSlot s i _
  unfold presenceExpiry
  dsimp only
  split
  next => exact .same htaken
  next =>
    split
    next =>
      split
      next => exact .same ((htaken.trans (insertion_sameQueues i _)).trans (.changeTrigger _))
      next => exact .same (htaken.trans (.changeTrigger _))
    next =>
      split
      next => exact .same (htaken.trans (.changeTrigger _))
      next => exact QueueMoves.thenSame ((QueueMoves.same htaken).trans (removal_queueMoves i _)) (.changeTrigger _)

/-! ### Transmissions, falls and the carrier (R148 to R157) -/

theorem carryAll_queueMoves (n : Nat) (s : State) : QueueMoves s (carryAll n s) := by
  induction n generalizing s with
  | zero => exact .refl
  | succ n ih =>
    unfold carryAll
    split
    next => exact .refl
    next t ht =>
      refine Relation.ReflTransGen.trans ?_ (ih t)
      unfold carryOne at ht
      split at ht
      next e rest _ htrap => exact .tail (.single (.untrap e rest htrap)) (.enqueue _ _ _ t ht)
      next => cases ht

theorem carrierTry_queueMoves (s : State) : QueueMoves s (carrierTry s) := carryAll_queueMoves _ s

theorem uplinkComplete_queueMoves {u : Uplink} {f : UplinkFlight} {s : State} (h : (s.uplink u).flight = some f) :
    QueueMoves s (uplinkComplete u f s) := by
  rw [uplinkComplete_eq]
  refine (Relation.ReflTransGen.single (.complete u f h)).trans ?_
  unfold tryAfter
  split
  next =>
    split
    next => exact carrierTry_queueMoves _
    next => exact .refl
  next => exact .refl

theorem linkFall_queueMoves (u : Uplink) (s : State) : QueueMoves s (linkFall u s) := by
  refine (Relation.ReflTransGen.single (.link u _ fun _ => ⟨rfl, rfl⟩)).trans
    (foldl_queueMoves _ (fun t c => ?_) allClasses _)
  obtain ⟨⟨k, hk⟩, -⟩ := foldl_countLinkDown u (t.uplink u).queues[c].entries t
  rw [linkDownClass, hk]
  refine SameQueues.then ?_ (.fall u c)
  exact .of_eq rfl rfl rfl rfl rfl

/-! ### Frames of blades and traffic (R7 to R13, R66, R86, R92, R131 to R141) -/

theorem applyPriority_sameQueues (g : AdmissionRule) (i : Slot) (s : State) : SameQueues s (applyPriority g i s) := by
  unfold applyPriority
  split
  next p _ => exact .setPriority i p s
  next => exact .refl s

theorem applyAction_sameQueues (g : AdmissionRule) (i : Slot) (s : State) : SameQueues s (applyAction g i s) := by
  unfold applyAction
  split
  next => exact (SameQueues.moveTo i .denied s).trans (.raise _ _)
  next =>
    split
    next => exact .refl s
    next => exact .moveTo i _ s

theorem takeAnnounce_queueMoves (i : Slot) (b : AnnounceBody) (s : State) : QueueMoves s (takeAnnounce i b s).state := by
  unfold takeAnnounce
  split
  next => exact .same (.drop _ _ s)
  next =>
    split
    next => exact .same (.drop _ _ s)
    next =>
      split
      next =>
        refine SameQueues.then (SameQueues.trans ?_ (.refreshStations i (b.addresses.take 4) _)) (.control i _)
        refine SameQueues.trans ?_ (.modSlot _ i _)
        refine SameQueues.trans ?_ (applyAction_sameQueues _ i _)
        refine SameQueues.trans ?_ (applyPriority_sameQueues _ i _)
        exact .modSlot s i _
      next => exact .same ((SameQueues.modSlot s i _).trans (.refreshStations i _ _))

theorem trapFrame_queueMoves (p : Port) (rx : Reception) (s : State) : QueueMoves s (trapFrame p rx s) := by
  unfold trapFrame
  split
  next t ht => exact (Relation.ReflTransGen.single (.trap _ t ht)).trans (carrierTry_queueMoves t)
  next => exact .same (.drop _ _ s)

theorem upstream_queueMoves (i : Slot) (h : TrafficHeader) (rx : Reception) (s : State) :
    QueueMoves s (upstream i h rx s) := by
  have hforward (g : Segment) : QueueMoves s (forwardUpstream i g h rx s) := by
    unfold forwardUpstream
    split
    next => exact .same (.drop _ _ s)
    next =>
      split
      next t ht => exact .single (.enqueue _ _ _ t ht)
      next => exact .same (.drop _ _ s)
  unfold upstream
  split
  next => exact .same (.drop _ _ s)
  next =>
    split
    next => exact .same (.drop _ _ s)
    next g _ =>
      split
      next => exact .same (.drop _ _ s)
      next =>
        split
        next => exact .same (.drop _ _ s)
        next =>
          split
          next => exact .same (.drop _ _ s)
          next => exact trapFrame_queueMoves _ rx s
          next => exact hforward g

theorem deliverCopy_queueMoves (rx : Reception) (i : Slot) (s : State) : QueueMoves s (deliverCopy rx i s) := by
  unfold deliverCopy
  split
  next t ht => exact .single (.deliver i _ t ht)
  next => exact .same (.drop _ _ s)

theorem deliver_queueMoves (u : Uplink) (g : Segment) (h : TrafficHeader) (rx : Reception) (s : State) :
    QueueMoves s (deliver u g h rx s) := by
  unfold deliver
  split
  next =>
    unfold flood
    split
    next => exact .same (.drop _ _ s)
    next => exact foldl_queueMoves _ (fun t i => deliverCopy_queueMoves rx i t) _ s
  next i _ =>
    split
    next => exact .same (.drop _ _ s)
    next =>
      split
      next => exact .same (.drop _ _ s)
      next => exact deliverCopy_queueMoves rx i s

theorem downstream_queueMoves (u : Uplink) (h : TrafficHeader) (rx : Reception) (s : State) :
    QueueMoves s (downstream u h rx s) := by
  unfold downstream
  split
  next => exact .same (.drop _ _ s)
  next g _ =>
    split
    next => exact .same (.drop _ _ s)
    next =>
      split
      next => exact .same (.drop _ _ s)
      next => exact trapFrame_queueMoves _ rx s
      next => exact deliver_queueMoves u g h rx s

theorem takeFlow_queueMoves (p : Port) (opcode quanta : Word16) (s : State) : QueueMoves s (takeFlow p opcode quanta s) := by
  unfold takeFlow
  split
  next =>
    split
    next => exact .refl
    next u => exact .single (.link u _ fun _ => ⟨rfl, rfl⟩)
  next => exact .same (.drop _ _ s)

/-! ### Sensors, fans and supply -/

theorem completeConversion_sameQueues (c : Channel) (code : Byte) (s : State) :
    SameQueues s (completeConversion c code s).state := by
  have hlimits (v : Int) (t : State) : SameQueues t (checkLimits c v t) := by
    unfold checkLimits
    split
    next => exact .raise _ t
    next => exact .refl t
  have hbrown (v : Int) (t : State) : SameQueues t (handBrownout c v t) := by
    unfold handBrownout applyBrownout
    dsimp only
    split
    next =>
      split
      next =>
        refine SameQueues.trans ?_ (.raise _ _)
        exact .of_eq rfl rfl rfl rfl rfl
      next => exact .of_eq rfl rfl rfl rfl rfl
    next => exact .refl t
  have hzone (t : State) : SameQueues t (rezoneChannel c t) := by
    unfold rezoneChannel
    split
    next => exact .refl t
    next => exact .rezone _ t
  have hstored : SameQueues s (match conversionResult c code with
      | none => s
      | some v => handBrownout c v (checkLimits c v (s.modChannel c fun r => { r with result := some v }))) := by
    split
    next => exact .refl s
    next v _ =>
      have hresult : SameQueues s (s.modChannel c fun r => { r with result := some v }) := .of_eq rfl rfl rfl rfl rfl
      exact (hresult.trans (hlimits v _)).trans (hbrown v _)
  exact (hstored.trans (hzone _)).trans (.of_eq rfl rfl rfl rfl rfl)

theorem gateExpiry_sameQueues (s : State) : SameQueues s (gateExpiry s) := by
  rw [gateExpiry_frame]
  exact .of_eq rfl rfl rfl rfl rfl

theorem recomputeCapacity_sameQueues (s : State) : SameQueues s (recomputeCapacity s) := by
  rw [recomputeCapacity_eq]
  exact .of_eq rfl rfl rfl rfl rfl

theorem bayExpiry_sameQueues (b : Bay) (line : BayLine) (s : State) : SameQueues s (bayExpiry b line s) := by
  have htaken : SameQueues s (s.modBay b (takeBayLine line)) := .of_eq rfl rfl rfl rfl rfl
  unfold bayExpiry
  dsimp only
  split
  next => exact htaken
  next => exact (htaken.trans (recomputeCapacity_sameQueues _)).trans (.changeTrigger _)

/-! ### The own changes of the events -/

theorem powerGoodExpiry_queueMoves (i : Slot) (s : State) : QueueMoves s (powerGoodExpiry i s).state := by
  have htaken : SameQueues s (s.modRail i takePowerGood) := .modSlot s i _
  unfold powerGoodExpiry
  dsimp only
  split
  next => exact .same htaken
  next =>
    split
    next =>
      dsimp only
      split
      next => exact .same (htaken.trans (.modSlot _ i _))
      next => exact .same htaken
    next =>
      split
      next => exact QueueMoves.thenSame ((QueueMoves.same htaken).trans (mainOff_queueMoves i .fault _)) (.raise _ _)
      next => exact .same htaken

/-- The own changes of every event are a chain of queue moves. -/
theorem OwnChange.queueMoves {s m : State} {cause : Bool} (h : OwnChange s m cause) : QueueMoves s m := by
  have hoff (i : Slot) (st : SlotState) (k : AlertKind) : QueueMoves s (raiseSlot k i (mainOff i st s)) :=
    (mainOff_queueMoves i st s).thenSame (.raise _ _)
  cases h with
  | presence i _ => exact presenceExpiry_queueMoves i s
  | announceWindow i _ =>
    have hstopped : SameQueues s (s.modAdm i fun a => { a with announceWindow := .stopped }) :=
      .modSlot s i _
    unfold announceExpiry
    dsimp only
    split
    next => exact .same ((hstopped.trans (.moveTo i .unidentified _)).trans (.raise _ _))
    next => exact .same hstopped
  | uplinkComplete u f hf => exact uplinkComplete_queueMoves hf
  | slotComplete i f hf => exact .single (.slotComplete i f hf)
  | holdEnd u => exact .single (.link u _ fun _ => ⟨rfl, rfl⟩)
  | pauseRefresh i => exact .single (.refresh i _)
  | linkFall u => exact linkFall_queueMoves u s
  | linkRise u => exact .single (.link u _ fun _ => ⟨rfl, rfl⟩)
  | bay b line => exact .same (bayExpiry_sameQueues b line s)
  | capAck i =>
    unfold capAckExpiry
    split
    next => exact hoff i .powerWait .capTimeout
    next =>
      dsimp only
      exact .same (.modSlot s i _)
  | powerGood i _ => exact powerGoodExpiry_queueMoves i s
  | powerGoodTimer i =>
    unfold powerGoodTimeout
    split
    next => exact hoff i .fault .fault
    next =>
      dsimp only
      exact .same (.modSlot s i _)
  | resetHold i =>
    unfold resetHoldEnd
    split
    next =>
      dsimp only
      exact .same (((SameQueues.freeLane i s).trans (.moveTo i .online _)).trans (.modSlot _ i _))
    next =>
      dsimp only
      exact .same (.modSlot s i _)
  | shutdown i =>
    unfold shutdownExpiry
    split
    next => exact hoff i .standby .shutdownTimeout
    next =>
      dsimp only
      exact .same (.modSlot s i _)
  | stale i => exact .same ((SameQueues.modSlot s i _).trans (.rezone _ _))
  | conversion c code _ => exact .same (completeConversion_sameQueues c code s)
  | ramp f _ => exact .same (.of_eq rfl rfl rfl rfl rfl)
  | spinUp f _ => exact .same (.of_eq rfl rfl rfl rfl rfl)
  | tachGate => exact .same (gateExpiry_sameQueues s)
  | flow p opcode quanta => exact takeFlow_queueMoves p opcode quanta s
  | malformed p => exact .same (.drop p .malformed s)
  | announce i b => exact takeAnnounce_queueMoves i b s
  | telemetry i l =>
    unfold takeTelemetry
    split
    next => exact .same (.drop _ _ s)
    next => exact .same ((SameQueues.modSlot s i _).trans (.rezone _ _))
  | ackCap i sequence =>
    unfold takeCapAck
    split
    next =>
      dsimp only
      exact .same (.modSlot s i _)
    next => exact .refl
  | ackShutdown i =>
    unfold takeShutdownAck
    split
    next => exact mainOff_queueMoves i .standby s
    next => exact .refl
  | upstream i h rx => exact upstream_queueMoves i h rx s
  | downstream u h rx => exact downstream_queueMoves u h rx s

theorem PlainMove.sameQueues {s t : State} (h : PlainMove s t) : SameQueues s t := by
  cases h with
  | none => exact .refl s
  | presenceLine i level _ => exact .modSlot s i _
  | powerGoodLine i level _ => exact .modSlot s i _
  | _ => exact .of_eq rfl rfl rfl rfl rfl

end Sys2Proof.Machine
end

section
/-! SUPPORT. The commands, the evaluation and the ends of events as chains of queue moves, and what an invariant of the
queue moves has to be shown for. -/

namespace Sys2Proof.Machine

/-! ### The commands -/

theorem setSlot_sameQueues (i : Slot) (x : SlotSettings) (s : State) : SameQueues s (setSlot i x s).state := by
  have hstored : SameQueues s (storePriority i x.priority (s.modAdm i (storeSlot x))) := by
    have hadm : SameQueues s (s.modAdm i (storeSlot x)) := .modSlot s i _
    unfold storePriority
    split
    next p _ => exact hadm.trans (.setPriority i p _)
    next => exact hadm
  unfold setSlot answerOk
  dsimp only
  split
  next => exact hstored
  next => exact hstored.trans (.rezone _ _)

theorem setSupply_sameQueues (x : SupplySettings) (s : State) : SameQueues s (setSupply x s).state := by
  have hstored : SameQueues s (storeSupply x s) := by
    rw [storeSupply_eq]
    exact .of_eq rfl rfl rfl rfl rfl
  unfold setSupply answerOk
  split
  next => exact .refl s
  next =>
    dsimp only
    split
    next => exact hstored.trans (recomputeCapacity_sameQueues _)
    next => exact hstored

theorem setZone_sameQueues (x : ZoneSettings) (s : State) : SameQueues s (setZone x s).state := by
  obtain ⟨zones, hzones⟩ := storeZoneForm_frame x s
  unfold setZone answerOk
  refine SameQueues.trans ?_ (.propagate s _)
  rw [hzones]
  exact .of_eq rfl rfl rfl rfl rfl

theorem setFanDuty_sameQueues (f : Fan) (d : Nat) (s : State) : SameQueues s (setFanDuty f d s).state := by
  rw [setFanDuty_eq, answerOk]
  dsimp only
  rw [dutySet_frame]
  exact .of_eq rfl rfl rfl rfl rfl

theorem setChannel_sameQueues (c : Channel) (x : ChannelSettings) (s : State) :
    SameQueues s (setChannel c x s).state := by
  have hstored : SameQueues s (s.modChannel c (storeChannel x)) := .of_eq rfl rfl rfl rfl rfl
  unfold setChannel answerOk
  dsimp only
  split
  next => exact hstored
  next => exact hstored.trans (.rezone _ _)

theorem setUplink_queueMoves (a : UplinkArgs) (s : State) : QueueMoves s (setUplink a s).state := by
  unfold setUplink
  split
  next u management segment =>
    unfold setUplinkForm answerOk
    split
    next => exact .refl
    next =>
      dsimp only
      exact .single (.link u _ fun _ => ⟨rfl, rfl⟩)
  next =>
    unfold setChassisForm
    dsimp only
    split
    next => exact .refl
    next => exact .same (.of_eq rfl rfl rfl rfl rfl)

/-- A command of the segment table or of the admission table, whether it stores or refuses, leaves the queues. -/
theorem tableCommand_sameQueues (s : State) :
    (∀ g, SameQueues s (loadSegment g s).state) ∧ (∀ id, SameQueues s (deleteSegment id s).state) ∧
      (∀ k g, SameQueues s (loadAdmission k g s).state) ∧ ∀ k, SameQueues s (deleteAdmission k s).state := by
  refine ⟨fun g => ?_, fun id => ?_, fun k g => ?_, fun k => ?_⟩
  · unfold loadSegment
    split <;> exact .of_eq rfl rfl rfl rfl rfl
  · unfold deleteSegment
    split <;> exact .of_eq rfl rfl rfl rfl rfl
  · unfold loadAdmission
    split
    next => exact .of_eq rfl rfl rfl rfl rfl
    next =>
      dsimp only
      split <;> exact .of_eq rfl rfl rfl rfl rfl
  · unfold deleteAdmission
    split
    next => exact .of_eq rfl rfl rfl rfl rfl
    next => split <;> exact .of_eq rfl rfl rfl rfl rfl

theorem beginShutdown_queueMoves (i : Slot) (form : ShutdownForm) (s : State) : QueueMoves s (beginShutdown i form s) := by
  unfold beginShutdown
  exact (SameQueues.then (.modSlot s i _) (.control i _)).thenSame (.moveTo i .shuttingDown _)

theorem slotPowerOn_sameQueues (i : Slot) (s : State) : SameQueues s (slotPowerOn i s).state := by
  unfold slotPowerOn
  split
  next => exact .moveTo i .powerWait s
  all_goals exact .refl s

theorem slotPowerOff_queueMoves (i : Slot) (form : ShutdownForm) (s : State) :
    QueueMoves s (slotPowerOff i form s).state := by
  unfold slotPowerOff
  split
  case h_1 => exact beginShutdown_queueMoves i form s
  case h_2 => exact beginShutdown_queueMoves i form s
  case h_5 => exact mainOff_queueMoves i .standby s
  case h_6 => exact .same (.moveTo i .standby s)
  all_goals exact .refl

theorem slotKill_queueMoves (i : Slot) (s : State) : QueueMoves s (slotKill i s).state := by
  unfold slotKill
  split
  case h_1 => exact mainOff_queueMoves i .standby s
  case h_2 => exact mainOff_queueMoves i .standby s
  case h_3 => exact mainOff_queueMoves i .standby s
  case h_4 => exact mainOff_queueMoves i .standby s
  all_goals exact .refl

theorem slotAdmit_queueMoves (i : Slot) (pair : PowerPair) (s : State) : QueueMoves s (slotAdmit i pair s).state := by
  unfold slotAdmit admitSlot answerOk
  split
  next =>
    dsimp only
    exact SameQueues.then ((SameQueues.modSlot s i _).trans (.moveTo i _ _)) (.control i _)
  next => exact .refl

theorem slotRelease_sameQueues (i : Slot) (s : State) : SameQueues s (slotRelease i s).state := by
  unfold slotRelease answerOk
  split
  next => exact .moveTo i _ s
  next =>
    dsimp only
    exact (SameQueues.moveTo i .announceWait s).trans (.modSlot _ i _)
  all_goals exact .refl s

theorem injectFrame_queueMoves (i : Slot) (o : Octets) (s : State) : QueueMoves s (injectFrame i o s).state := by
  unfold injectFrame
  split
  next =>
    split
    next t ht => exact .single (.deliver i _ t ht)
    next => exact .refl
  next => exact .refl

theorem restart_queueMoves (s : State) : QueueMoves s (restart s).state := by
  have hqueues : QueueMoves s (restartQueues s) := .single .restart
  unfold restart answerOk
  generalize restartQueues s = t at hqueues ⊢
  exact hqueues.thenSame (.of_eq rfl rfl rfl rfl rfl)

/-- The own changes of every COMMAND are a chain of queue moves. -/
theorem CommandChange.queueMoves {s m : State} {items : List Item} (h : CommandChange s items m) : QueueMoves s m := by
  obtain ⟨hload, hdelete, hadmission, hunlist⟩ := tableCommand_sameQueues s
  cases h with
  | none => exact .refl
  | setSlot i x _ => exact .same (setSlot_sameQueues i x s)
  | setSupply x _ => exact .same (setSupply_sameQueues x s)
  | setTiming x _ =>
    unfold Machine.setTiming
    split <;> exact .same (.of_eq rfl rfl rfl rfl rfl)
  | setZone x _ => exact .same (setZone_sameQueues x s)
  | setFan f x _ =>
    unfold Machine.setFan answerOk
    dsimp only
    split <;> exact .same (.of_eq rfl rfl rfl rfl rfl)
  | setFanDuty f d _ => exact .same (setFanDuty_sameQueues f d s)
  | setChannel c x _ => exact .same (setChannel_sameQueues c x s)
  | setUplink a _ => exact setUplink_queueMoves a s
  | setQueue a _ => exact .single (.limits a)
  | loadSegment g _ => exact .same (hload g)
  | deleteSegment id _ => exact .same (hdelete id)
  | loadAdmission k g _ => exact .same (hadmission k g)
  | deleteAdmission k _ => exact .same (hunlist k)
  | slotPowerOn i _ => exact .same (slotPowerOn_sameQueues i s)
  | slotPowerOff i form _ => exact slotPowerOff_queueMoves i form s
  | slotKill i _ => exact slotKill_queueMoves i s
  | slotAdmit i pair _ => exact slotAdmit_queueMoves i pair s
  | slotRelease i _ => exact .same (slotRelease_sameQueues i s)
  | inject i o _ => exact injectFrame_queueMoves i o s
  | restart => exact restart_queueMoves s
  | _ => exact .same (.of_eq rfl rfl rfl rfl rfl)

/-! ### The actions of an evaluation (R53 to R65) -/

theorem capSlot_queueMoves (i : Slot) (s : State) : QueueMoves s (capSlot i s) := by
  have hcapped (t : State) : QueueMoves t (raiseChassis .shed (if (s.slot i).adm.state = .online then moveTo i .capped t
      else t)) := by
    split
    next => exact .same ((SameQueues.moveTo i .capped t).trans (.raise _ _))
    next => exact .same (.raise _ t)
  unfold capSlot
  exact (SameQueues.then (.modSlot s i _) (.control i _)).trans (hcapped _)

theorem uncapSlot_queueMoves (i : Slot) (s : State) : QueueMoves s (uncapSlot i s) := by
  have huncapped (t : State) : QueueMoves t (if (s.slot i).adm.state = .capped then moveTo i .online t else t) := by
    split
    next => exact .same (.moveTo i .online t)
    next => exact .refl
  unfold uncapSlot
  exact (SameQueues.then (.modSlot s i _) (.control i _)).trans (huncapped _)

theorem grantStandby_sameQueues (i : Slot) (s : State) : SameQueues s (grantStandby i s) := by
  unfold grantStandby
  exact (SameQueues.moveTo i .announceWait s).trans (.modSlot _ i _)

theorem grantMain_sameQueues (i : Slot) (s : State) : SameQueues s (grantMain i s) := by
  unfold grantMain
  dsimp only
  refine SameQueues.trans ?_ (.rezone _ _)
  refine ((SameQueues.moveTo i .powering s).trans (.modSlot _ i fun r =>
    { r with
      bud := { r.bud with mainW := effectiveRequested (s.slot i), grantW := effectiveRequested (s.slot i) }
      rail := startSequence s.timing.powerGoodTimeout s.timing.resetHold r.rail })).trans ?_
  exact .of_eq rfl rfl rfl rfl rfl

theorem markShort_sameQueues (s : State) : SameQueues s (markShort s) := by
  unfold markShort
  split
  next => exact .refl s
  next e rest _ =>
    split
    next =>
      refine SameQueues.trans (t := setQueue ({ e with short := true } :: rest) s) ?_ (.raise _ _)
      exact .of_eq rfl rfl rfl rfl rfl
    next => exact .refl s

/-! ### The end of an event (R150, R152, R165, R168) -/

theorem sendNotice_queueMoves (before after : State) : QueueMoves after (sendNotice before after) := by
  unfold sendNotice
  split
  next =>
    split
    next => exact .refl
    next =>
      split
      next => exact .refl
      next t ht => exact QueueMoves.thenSame (.single (.enqueue _ _ _ t ht)) (.of_eq rfl rfl rfl rfl rfl)
  next => exact .refl

theorem respond_queueMoves (o : Origin) (status : Status) (results : List (List Octets)) (s : State) :
    QueueMoves s (respond o status results s) := by
  refine foldl_queueMoves _ (fun t body => ?_) _ s
  unfold offerResponse
  split
  next t' ht => exact .single (.enqueue _ _ _ t' ht)
  next => exact .same (.drop _ _ t)

theorem beginAll_queueMoves (s : State) : QueueMoves s (beginAll s) :=
  ((Relation.ReflTransGen.single (.beginUplink .A)).tail (.beginUplink .B)).trans
    (foldl_queueMoves _ (fun _ i => .single (.beginSlot i)) allSlots _)

/-! ### Invariants of the queue moves -/

/-- What an invariant of the queues has to be shown for. -/
structure KeptByQueueMoves (P : State → Prop) : Prop where
  move : ∀ {s t : State}, P s → QueueMove s t → P t
  reset : ∀ straps s, P (afterReset straps s)

namespace KeptByQueueMoves

variable {P : State → Prop} (K : KeptByQueueMoves P)
include K

theorem moves {s t : State} (hs : P s) (h : QueueMoves s t) : P t := by
  induction h with
  | refl => exact hs
  | tail _ h ih => exact K.move ih h

theorem same {s t : State} (hs : P s) (h : SameQueues s t) : P t := K.move hs (.same t h)

theorem evaluation : KeptByEvaluation P where
  cap i s hs _ := K.moves hs (capSlot_queueMoves i s)
  powerOff i s hs _ := K.moves hs ((mainOff_queueMoves i .powerWait s).thenSame (.raise _ _))
  standbyCut i s hs _ := K.moves hs (standbyCut_queueMoves i s)
  uncap i s hs _ := K.moves hs (uncapSlot_queueMoves i s)
  grantStandby e _ s hs _ _ _ := K.same hs (grantStandby_sameQueues e.slot s)
  grantMain e _ s hs _ _ _ := K.same hs (grantMain_sameQueues e.slot s)
  short s hs := K.same hs (markShort_sameQueues s)

theorem noticed (before : State) {m : State} (cause : Bool) (hm : P m) :
    P (sendNotice before (evaluateIfDue before m cause)) :=
  K.moves (K.evaluation.evaluateIfDue before cause hm) (sendNotice_queueMoves _ _)

theorem keptAtEnds : KeptAtEnds P where
  pending _ _ hs := K.same hs (.of_eq rfl rfl rfl rfl rfl)
  received _ _ hs := K.same hs (.of_eq rfl rfl rfl rfl rfl)
  reset := K.reset
  plain _ _ hs h := K.same hs h.sameQueues
  closed s _ cause hs h := K.moves (K.noticed s cause (K.moves hs h.queueMoves)) (beginAll_queueMoves _)
  command o items s hs := by
    have hset : P (setDestination o.source o.uplink s) := K.same hs (.of_eq rfl rfl rfl rfl rfl)
    rw [runCommand, finish]
    refine K.moves (K.moves (K.noticed _ _ (K.moves hset ?_)) (respond_queueMoves o _ _ _)) (beginAll_queueMoves _)
    exact (runCode_change o.code items _).queueMoves

/-- An invariant that every queue move keeps is kept by every step. -/
theorem step {s t : State} (hs : P s) (h : step s = .next t) : P t := K.keptAtEnds.step hs h

end KeptByQueueMoves

end Sys2Proof.Machine
end

section
/-! SUPPORT. The cell pool through every queue move (O53). -/

namespace Sys2Proof.Machine

/-! ### What moves no frame -/

/-- Two states that hold the same frames in the same places, with the same free cells. -/
structure SameFrames (s t : State) : Prop where
  flight : ∀ u, (t.uplink u).flight = (s.uplink u).flight
  entries : ∀ (u : Uplink) (c : Cls), (t.uplink u).queues[c].entries = (s.uplink u).queues[c].entries
  slotFlight : ∀ i, (t.slot i).que.flight = (s.slot i).que.flight
  egress : ∀ i, (t.slot i).que.egress = (s.slot i).que.egress
  cells : t.freeCells = s.freeCells
  trap : t.trapQueue = s.trapQueue

namespace SameFrames

theorem refl (s : State) : SameFrames s s := ⟨fun _ => rfl, fun _ _ => rfl, fun _ => rfl, fun _ => rfl, rfl, rfl⟩

theorem trans {s t u : State} (h : SameFrames s t) (h' : SameFrames t u) : SameFrames s u :=
  ⟨fun v => (h'.flight v).trans (h.flight v), fun v c => (h'.entries v c).trans (h.entries v c),
    fun i => (h'.slotFlight i).trans (h.slotFlight i), fun i => (h'.egress i).trans (h.egress i),
    h'.cells.trans h.cells, h'.trap.trans h.trap⟩

theorem of_sameQueues {s t : State} (h : SameQueues s t) : SameFrames s t :=
  ⟨fun u => by rw [h.uplink], fun u c => by rw [h.uplink], fun i => by rw [h.parts], fun i => by rw [h.parts], h.cells,
    h.trap⟩

theorem modUplink (s : State) (u : Uplink) {f : UplinkRecord → UplinkRecord}
    (hf : ∀ r, (f r).queues = r.queues ∧ (f r).flight = r.flight) : SameFrames s (s.modUplink u f) := by
  obtain ⟨hqueues, hflight⟩ := hf (s.uplink u)
  refine ⟨fun v => ?_, fun v c => ?_, fun i => by simp, fun i => by simp, by simp, by simp⟩
  all_goals
    rw [State.uplink_modUplink]
    split
    next hv => simp only [hv, hqueues, hflight]
    next => rfl

theorem modClass (s : State) (u : Uplink) (c : Cls) {f : ClassQueue → ClassQueue}
    (hf : ∀ q, (f q).entries = q.entries) : SameFrames s (s.modClass u c f) := by
  refine ⟨fun v => flight_modClass s u v c f, fun v d => ?_, fun i => by simp, fun i => by simp, by simp, by simp⟩
  rw [queues_modClass]
  split
  next => exact hf _
  next => rfl

/-- A change of the slots that leaves the egress queue of each and its frame in flight. -/
theorem withSlots (s : State) (ss : Vector SlotRecord 16)
    (h : ∀ i : Slot, ss[i].que.egress = (s.slot i).que.egress ∧ ss[i].que.flight = (s.slot i).que.flight) :
    SameFrames s { s with slots := ss } :=
  ⟨fun u => by rw [uplink_withSlots], fun u c => by rw [uplink_withSlots], fun i => (h i).2, fun i => (h i).1, rfl, rfl⟩

theorem modQue (s : State) (i : Slot) {f : QueuePart → QueuePart}
    (hf : ∀ q, (f q).egress = q.egress ∧ (f q).flight = q.flight) : SameFrames s (s.modQue i f) := by
  refine .withSlots s _ fun j => ?_
  have hslot := State.slot_modSlot s i j fun r => { r with que := f r.que }
  rw [State.slot_eq] at hslot
  refine hslot ▸ ?_
  split
  next hj => rw [hj]; exact hf _
  next => exact ⟨rfl, rfl⟩

/-- A rule for every slot that leaves the egress queue and the frame in flight. -/
theorem ofRule (s : State) (rule : Slot → SlotRecord → SlotRecord)
    (h : ∀ i r, (rule i r).que.egress = r.que.egress ∧ (rule i r).que.flight = r.que.flight) :
    SameFrames s { s with slots := Vector.ofFn fun i => rule i (s.slot i) } :=
  .withSlots s _ fun i => by simpa using h i (s.slot i)

end SameFrames

theorem pausedRecord_frames (r : SlotRecord) :
    (pausedRecord r).que.egress = r.que.egress ∧ (pausedRecord r).que.flight = r.que.flight := by
  unfold pausedRecord
  split <;> exact ⟨rfl, rfl⟩

/-- A watermark test after an admission moves no frame (R153). -/
theorem upwardTest_sameFrames (u : Uplink) (c : Cls) (source : Option Slot) (s : State) :
    SameFrames s (upwardTest u c source s) := by
  cases hcong : (s.uplink u).queues[c].congested with
  | false =>
    by_cases habove : (s.uplink u).queues[c].marks.high < (s.uplink u).occupancy c
    · rw [upwardTest_crossed source hcong habove]
      have hmod := SameFrames.modClass s u c
        (f := fun q => { q with congested := true, held := sourcesOf ((s.uplink u).held c) }) fun _ => rfl
      have hrule := SameFrames.ofRule (s.modClass u c fun q =>
        { q with congested := true, held := sourcesOf ((s.uplink u).held c) })
        (fun i r => if inSlotSet (sourcesOf ((s.uplink u).held c)) i = true then pausedRecord r else r) fun i r => by
          split
          next => exact pausedRecord_frames r
          next => exact ⟨rfl, rfl⟩
      simp only [slot_modClass] at hrule
      exact hmod.trans hrule
    · rw [upwardTest_below source hcong (by omega)]
      exact .refl s
  | true =>
    cases source with
    | none => rw [upwardTest_congested_none hcong]; exact .refl s
    | some i =>
      rw [upwardTest_congested_some i hcong, pauseSlot]
      have hmod := SameFrames.modClass s u c (f := fun q => { q with held := slotSetInsert q.held i }) fun _ => rfl
      split
      next => exact hmod
      next => exact hmod.trans (.modQue _ i fun _ => ⟨rfl, rfl⟩)

/-- The end of a congestion moves no frame (R153). -/
theorem endCongestion_sameFrames (u : Uplink) (c : Cls) (s : State) : SameFrames s (endCongestion u c s) := by
  rw [endCongestion_eq]
  have hrule := SameFrames.ofRule (s.modClass u c clearCongestion)
    (fun i r => if inSlotSet (s.uplink u).queues[c].held i = true ∧ r.que.backpressure = true ∧
      heldAnywhere (s.modClass u c clearCongestion) i = false then freedRecord r else r) fun i r => by
        split <;> exact ⟨rfl, rfl⟩
  simp only [slot_modClass] at hrule
  exact (SameFrames.modClass s u c (f := clearCongestion) fun _ => rfl).trans hrule

theorem downwardTest_sameFrames (u : Uplink) (c : Cls) (s : State) : SameFrames s (downwardTest u c s) := by
  unfold downwardTest
  split
  next => exact endCongestion_sameFrames u c s
  next => exact .refl s

theorem refreshPause_frames (quanta : Nat) (q : QueuePart) :
    (refreshPause quanta q).egress = q.egress ∧ (refreshPause quanta q).flight = q.flight := by
  unfold refreshPause
  split <;> exact ⟨rfl, rfl⟩

/-- An offer to a control list changes the list alone (R158). -/
theorem offerControlPart_eq (f : ControlFrame) (q : QueuePart) : ∃ l, offerControlPart f q = { q with control := l } := by
  cases hk : f.kind with
  | admitResult => exact ⟨_, offerControlPart_tail q (.inl hk)⟩
  | shutdownReq => exact ⟨_, offerControlPart_tail q (.inr hk)⟩
  | cap =>
    cases hwait : waiting .cap q.control with
    | true => exact ⟨_, offerControlPart_waiting (hk ▸ hwait)⟩
    | false => exact ⟨_, offerControlPart_cap hk hwait⟩
  | uncap =>
    cases hwait : waiting .uncap q.control with
    | true => exact ⟨_, offerControlPart_waiting (hk ▸ hwait)⟩
    | false => exact ⟨_, offerControlPart_uncap hk hwait⟩

theorem storeMarks_entries (w : Watermarks) (q : ClassQueue) : (storeMarks w q).entries = q.entries := by
  unfold storeMarks
  split <;> rfl

theorem limitedQueue_entries (limit high low : Option Nat) (w : Watermarks) (q : ClassQueue) :
    (limitedQueue limit high low w q).entries = q.entries := by
  unfold limitedQueue
  split
  next => exact storeMarks_entries w _
  next => rfl

/-- SET_QUEUE refuses, or rewrites one class queue's limit and watermarks, or one egress limit (R160). -/
theorem setQueueLimits_cases (a : QueueArgs) (s : State) : (setQueueLimits a s).state = s ∨
    (∃ u c limit high low w, w.low < w.high ∧
      (setQueueLimits a s).state = s.modClass u c (limitedQueue limit high low w)) ∨
    ∃ (i : Slot) (n : Nat → Nat), (setQueueLimits a s).state = s.modQue i fun q => { q with egressLimit := n q.egressLimit } := by
  cases a with
  | classQueue u c limit high low =>
    let w := resultingMarks high low (s.uplink u).queues[c]
    by_cases h : 1 ≤ w.low ∧ w.low < w.high ∧ w.high ≤ limit.getD (s.uplink u).queues[c].limit
    · exact .inr (.inl ⟨u, c, limit, high, low, w, h.2.1, congrArg Answer.state (setClassQueue_stored rfl h)⟩)
    · exact .inl (congrArg Answer.state (setClassQueue_refused rfl h))
  | egress i limit => exact .inr (.inr ⟨i, fun n => limit.getD n, rfl⟩)

theorem setQueueLimits_sameFrames (a : QueueArgs) (s : State) : SameFrames s (setQueueLimits a s).state := by
  obtain h | ⟨u, c, limit, high, low, w, -, h⟩ | ⟨i, n, h⟩ := setQueueLimits_cases a s
  · rw [h]; exact .refl s
  · rw [h]; exact .modClass s u c (limitedQueue_entries limit high low w)
  · rw [h]; exact .modQue s i fun _ => ⟨rfl, rfl⟩

/-! ### Cells held, part by part (R147, R148) -/

theorem occupancy_congr {r t : UplinkRecord} {c : Cls} (hflight : t.flight = r.flight)
    (hentries : t.queues[c].entries = r.queues[c].entries) : t.occupancy c = r.occupancy c := by
  rw [occupancy_eq, occupancy_eq, hflight, hentries]

theorem SameFrames.occupancy {s t : State} (h : SameFrames s t) (u : Uplink) (c : Cls) :
    (t.uplink u).occupancy c = (s.uplink u).occupancy c := occupancy_congr (h.flight u) (h.entries u c)

theorem SameFrames.slotOccupancy {s t : State} (h : SameFrames s t) (i : Slot) :
    (t.slot i).que.occupancy = (s.slot i).que.occupancy := by
  rw [egressOccupancy_eq, egressOccupancy_eq, h.slotFlight, h.egress]

/-- The free cells with the cells held. -/
def poolTotal (s : State) : Nat := s.freeCells + heldCells s

theorem heldCells_eq (s : State) : heldCells s =
    uplinkCells (s.uplink .A) + uplinkCells (s.uplink .B) + slotCells s + trapCells s.trapQueue := rfl

theorem SameFrames.heldCells {s t : State} (h : SameFrames s t) : heldCells t = heldCells s := by
  simp only [heldCells_eq, uplinkCells, slotCells, h.occupancy, h.slotOccupancy, h.trap]

theorem SameFrames.poolTotal {s t : State} (h : SameFrames s t) : poolTotal t = poolTotal s := by
  rw [Machine.poolTotal, Machine.poolTotal, h.heldCells, h.cells]

/-- A change of one class queue's occupancy in an uplink. -/
theorem uplinkCells_change {r t : UplinkRecord} (c : Cls) (h : ∀ d, d ≠ c → t.occupancy d = r.occupancy d) :
    uplinkCells t + r.occupancy c = uplinkCells r + t.occupancy c :=
  sum_update allClasses (by decide) c (mem_allClasses c) r.occupancy t.occupancy h

/-- A change of one uplink. -/
theorem heldCells_uplink {s t : State} (u : Uplink) (hother : t.uplink (otherUplink u) = s.uplink (otherUplink u))
    (hslots : ∀ i, t.slot i = s.slot i) (htrap : t.trapQueue = s.trapQueue) :
    heldCells t + uplinkCells (s.uplink u) = heldCells s + uplinkCells (t.uplink u) := by
  simp only [heldCells_eq, slotCells, hslots, htrap]
  cases u with
  | A => rw [show t.uplink .B = s.uplink .B from hother]; omega
  | B => rw [show t.uplink .A = s.uplink .A from hother]; omega

/-- A change of one slot. -/
theorem heldCells_slot {s t : State} {i : Slot} {r : SlotRecord} (huplink : ∀ u, t.uplink u = s.uplink u)
    (hslots : ∀ j, t.slot j = if j = i then r else s.slot j) (htrap : t.trapQueue = s.trapQueue) :
    heldCells t + (s.slot i).que.occupancy = heldCells s + r.que.occupancy := by
  have hsum : slotCells t + (s.slot i).que.occupancy = slotCells s + r.que.occupancy :=
    slotSum_change (fun x => x.que.occupancy) hslots
  simp only [heldCells_eq, huplink, htrap]
  omega

/-- A change of a class queue that leaves the frame in flight. -/
theorem heldCells_modClass (s : State) (u : Uplink) (c : Cls) (f : ClassQueue → ClassQueue) :
    heldCells (s.modClass u c f) + entryCells (s.uplink u).queues[c].entries =
      heldCells s + entryCells (f (s.uplink u).queues[c]).entries := by
  have hup := heldCells_uplink (s := s) (t := s.modClass u c f) u
    (by rw [uplink_modClass, if_neg (otherUplink_ne u)]) (slot_modClass s u c f) (trapQueue_modClass s u c f)
  have hclass := uplinkCells_change (r := s.uplink u) (t := (s.modClass u c f).uplink u) c fun d hd =>
    occupancy_congr (flight_modClass s u u c f) (by rw [queues_modClass, if_neg fun h => hd h.2])
  rw [occupancy_eq, occupancy_eq, flight_modClass, queues_modClass, if_pos ⟨rfl, rfl⟩] at hclass
  omega

theorem heldCells_modQue (s : State) (i : Slot) (f : QueuePart → QueuePart) :
    heldCells (s.modQue i f) + (s.slot i).que.occupancy = heldCells s + (f (s.slot i).que).occupancy :=
  heldCells_slot (fun u => State.modSlot_uplink s i _ u) (fun j => State.slot_modSlot s i j _) rfl

theorem heldCells_withCells (s : State) (n : Nat) : heldCells { s with freeCells := n } = heldCells s := rfl

/-- The same with cells taken or returned. -/
theorem heldCells_modClass_cells (s : State) (n : Nat) (u : Uplink) (c : Cls) (f : ClassQueue → ClassQueue) :
    heldCells ({ s with freeCells := n }.modClass u c f) + entryCells (s.uplink u).queues[c].entries =
      heldCells s + entryCells (f (s.uplink u).queues[c]).entries := by
  have hmod := heldCells_modClass { s with freeCells := n } u c f
  rwa [uplink_withCells s, heldCells_withCells s] at hmod

theorem heldCells_modQue_cells (s : State) (n : Nat) (i : Slot) (f : QueuePart → QueuePart) :
    heldCells ({ s with freeCells := n }.modQue i f) + (s.slot i).que.occupancy =
      heldCells s + (f (s.slot i).que).occupancy := heldCells_modQue { s with freeCells := n } i f

theorem heldCells_withTrap (s : State) (q : List TrapEntry) (n : Nat) :
    heldCells { s with trapQueue := q, freeCells := n } + trapCells s.trapQueue = heldCells s + trapCells q := by
  show uplinkCells s.uplinkA + uplinkCells s.uplinkB + slotCells s + trapCells q + _ = _
  rw [heldCells]
  omega

/-! ### Moves that take cells (R149) -/

theorem offerClass_poolTotal {u : Uplink} {c : Cls} {e : QueueEntry} {s t : State} (h : offerClass u c e s = some t) :
    poolTotal t = poolTotal s := by
  obtain ⟨-, hnone⟩ | ⟨hadmits, hsome⟩ := offerClass_cases u c e s
  · rw [hnone] at h; cases h
  · obtain ⟨-, hfree, -⟩ := (classAdmits_iff _ _ _ _ _).mp hadmits
    rw [hsome] at h
    cases h
    have hmod := heldCells_modClass_cells s (s.freeCells - e.frame.cells) u c fun q =>
      { q with entries := q.entries ++ [e] }
    rw [entryCells_append, entryCells_cons] at hmod
    rw [(upwardTest_sameFrames u c e.source _).poolTotal, poolTotal, poolTotal, freeCells_modClass]
    have hnil : entryCells [] = 0 := rfl
    show s.freeCells - e.frame.cells + _ = _
    omega

theorem offerEgress_poolTotal {i : Slot} {f : Frame} {s t : State} (h : offerEgress i f s = some t) :
    poolTotal t = poolTotal s := by
  unfold offerEgress at h
  dsimp only at h
  split at h
  next hfree =>
    cases h
    have hmod := heldCells_modQue_cells s (s.freeCells - f.cells) i fun q => { q with egress := q.egress ++ [f] }
    rw [egressOccupancy_eq, egressOccupancy_eq, frameCells_append, frameCells_cons] at hmod
    dsimp only at hmod
    have hnil : frameCells [] = 0 := rfl
    obtain ⟨hfree, -⟩ := hfree
    rw [poolTotal, poolTotal]
    show s.freeCells - f.cells + _ = _
    omega
  next => cases h

theorem offerTrap_poolTotal {e : TrapEntry} {s t : State} (h : offerTrap e s = some t) : poolTotal t = poolTotal s := by
  unfold offerTrap at h
  split at h
  next hfree =>
    cases h
    obtain ⟨-, -, hfree⟩ := hfree
    have hmod := heldCells_withTrap s (s.trapQueue ++ [e]) (s.freeCells - e.frame.cells)
    rw [trapCells_append, trapCells_cons] at hmod
    have hnil : trapCells [] = 0 := rfl
    rw [poolTotal, poolTotal]
    show s.freeCells - e.frame.cells + heldCells { s with trapQueue := _, freeCells := _ } = _
    omega
  next => cases h

/-! ### Moves that return cells (R148, R155, R156, R159) -/

theorem untrap_poolTotal {s : State} {e : TrapEntry} {rest : List TrapEntry} (h : s.trapQueue = e :: rest) :
    poolTotal { s with trapQueue := rest, freeCells := s.freeCells + e.frame.cells } = poolTotal s := by
  have hmod := heldCells_withTrap s rest (s.freeCells + e.frame.cells)
  rw [h, trapCells_cons] at hmod
  rw [poolTotal, poolTotal]
  show s.freeCells + e.frame.cells + _ = _
  omega

theorem flushEgress_poolTotal (i : Slot) (s : State) : poolTotal (flushEgress i s) = poolTotal s := by
  have hmod := heldCells_modQue_cells s (s.freeCells + frameCells (s.slot i).que.egress) i fun q =>
    { q with egress := [] }
  rw [egressOccupancy_eq, egressOccupancy_eq] at hmod
  dsimp only at hmod
  have hnil : frameCells [] = 0 := rfl
  rw [poolTotal, poolTotal, flushEgress]
  show s.freeCells + frameCells (s.slot i).que.egress + _ = _
  omega

theorem flushSlot_poolTotal (i : Slot) (s : State) : poolTotal (flushSlot i s) = poolTotal s := by
  rw [← flushEgress_poolTotal i s, flushSlot]
  exact SameFrames.poolTotal (.modQue _ i fun _ => ⟨rfl, rfl⟩)

theorem flushClass_poolTotal (u : Uplink) (c : Cls) (s : State) : poolTotal (flushClass u c s) = poolTotal s := by
  have hmod := heldCells_modClass_cells s (s.freeCells + entryCells (s.uplink u).queues[c].entries) u c fun q =>
    { q with entries := [] }
  have hnil : entryCells [] = 0 := rfl
  dsimp only at hmod
  rw [poolTotal, poolTotal, flushClass, freeCells_modClass]
  show s.freeCells + entryCells (s.uplink u).queues[c].entries + _ = _
  omega

/-- An uplink without its frame in flight. -/
def idleUplink (r : UplinkRecord) : UplinkRecord := { r with flight := none }

/-- A completion gives up the cells of the frame in flight, in its class (R150). -/
theorem idleUplink_occupancy {r : UplinkRecord} {f : UplinkFlight} (h : r.flight = some f) (d : Cls) :
    r.occupancy d = (idleUplink r).occupancy d + if d = f.cls then f.entry.frame.cells else 0 := by
  rw [occupancy_eq, occupancy_eq, h, idleUplink, classFlightCells, classFlightCells]
  simp only [eq_comm (a := f.cls)]
  omega

theorem freedUplink_uplink (u v : Uplink) (f : UplinkFlight) (s : State) : (freedUplink u f s).uplink v =
    if v = u then idleUplink (s.uplink u) else s.uplink v := by
  rw [freedUplink, State.uplink_modUplink, uplink_withCells s _ u, uplink_withCells s _ v]
  rfl

theorem freedUplink_poolTotal {u : Uplink} {f : UplinkFlight} {s : State} (h : (s.uplink u).flight = some f) :
    poolTotal (freedUplink u f s) = poolTotal s := by
  have hup := heldCells_uplink (s := s) (t := freedUplink u f s) u
    (by rw [freedUplink_uplink, if_neg (otherUplink_ne u)]) (fun i => State.modUplink_slot _ u _ i)
    (State.modUplink_trapQueue _ u _)
  rw [freedUplink_uplink, if_pos rfl] at hup
  have hclass := uplinkCells_change (r := s.uplink u) (t := idleUplink (s.uplink u)) f.cls fun d hd => by
    rw [idleUplink_occupancy h, if_neg hd, Nat.add_zero]
  have hcells := idleUplink_occupancy h f.cls
  rw [if_pos rfl] at hcells
  have hfree : (freedUplink u f s).freeCells = s.freeCells + f.entry.frame.cells := State.modUplink_freeCells _ u _
  rw [poolTotal, poolTotal, hfree]
  omega

theorem slotComplete_poolTotal {i : Slot} {f : SlotFlight} {s : State} (h : (s.slot i).que.flight = some f) :
    poolTotal (slotComplete i f s) = poolTotal s := by
  have hmod := heldCells_modQue s i fun q => { q with flight := none }
  rw [egressOccupancy_eq, egressOccupancy_eq, h] at hmod
  have hcells : slotFlightCells (some f) = if f.fromEgress = true then f.frame.cells else 0 := rfl
  have hnone : slotFlightCells none = 0 := rfl
  rw [slotComplete_eq, poolTotal, poolTotal, heldCells_withCells]
  show s.freeCells + _ + _ = _
  dsimp only at hmod
  omega

theorem restartedQueue_occupancy (r : UplinkRecord) (c : Cls) :
    r.occupancy c = (mapQueues restartedQueue r).occupancy c + entryCells r.queues[c].entries := by
  have hempty : (mapQueues restartedQueue r).queues[c].entries = [] := by simp [mapQueues, restartedQueue]
  rw [occupancy_eq, occupancy_eq, hempty]
  rfl

theorem restartedRecord_occupancy (r : SlotRecord) :
    r.que.occupancy = (restartedRecord r).que.occupancy + frameCells r.que.egress := by
  rw [egressOccupancy_eq, egressOccupancy_eq]
  rfl

theorem restartQueues_poolTotal (s : State) : poolTotal (restartQueues s) = poolTotal s := by
  have huplink (r : UplinkRecord) : uplinkCells r = uplinkCells (mapQueues restartedQueue r) +
      (allClasses.map fun c => entryCells r.queues[c].entries).sum := by
    rw [uplinkCells, uplinkCells, ← List.sum_map_add]
    exact congrArg List.sum (List.map_congr_left fun c _ => restartedQueue_occupancy r c)
  have hslots : slotCells s = (allSlots.map fun i => (restartedRecord (s.slot i)).que.occupancy).sum +
      (allSlots.map fun i => frameCells (s.slot i).que.egress).sum := by
    rw [slotCells, ← List.sum_map_add]
    exact congrArg List.sum (List.map_congr_left fun i _ => restartedRecord_occupancy (s.slot i))
  have hrestarted (i : Slot) : (restartQueues s).slot i = restartedRecord (s.slot i) := by
    rw [restartQueues_eq]
    simp [State.slot]
  have hslotCells : slotCells (restartQueues s) =
      (allSlots.map fun i => (restartedRecord (s.slot i)).que.occupancy).sum := by simp only [slotCells, hrestarted]
  have hA := huplink s.uplinkA
  have hB := huplink s.uplinkB
  rw [poolTotal, poolTotal, heldCells, heldCells, hslotCells, restartQueues_eq]
  have hnil : trapCells [] = 0 := rfl
  simp only [allUplinks, List.map_cons, List.map_nil, List.sum_cons, List.sum_nil, State.uplink]
  omega

/-! ### Transmissions that begin (R150, R152) -/

/-- The head of a class queue in flight holds its cells as it did waiting (R147). -/
theorem begunUplink_occupancy {r : UplinkRecord} {c : Cls} {e : QueueEntry} {rest : List QueueEntry}
    (hflight : r.flight = none) (hentries : r.queues[c].entries = e :: rest) (d : Cls) :
    (begunUplink c e rest r).occupancy d = r.occupancy d := by
  rw [occupancy_eq, occupancy_eq, hflight, begunUplink, queues_set]
  by_cases hd : d = c
  · subst hd
    rw [if_pos rfl, hentries, entryCells_cons]
    simp [classFlightCells]
  · rw [if_neg hd]
    simp [classFlightCells, Ne.symm hd]

/-- What a link that may begin does: nothing, or its head's transmission. -/
theorem beginUplink_cases (u : Uplink) (s : State) : beginUplink u s = s ∨
    ∃ c e rest, (s.uplink u).flight = none ∧ (s.uplink u).queues[c].entries = e :: rest ∧
      beginUplink u s = s.modUplink u (begunUplink c e rest) := by
  by_cases hidle : (s.uplink u).flight = none ∧ (s.uplink u).linkUp = true ∧ (s.uplink u).hold.isRunning = false
  · obtain ⟨hflight, hup, hhold⟩ := hidle
    cases hfirst : firstClass (s.uplink u) with
    | none =>
      refine .inl (beginUplink_idles (.inr (.inr (.inr fun c => ?_))))
      simpa using List.find?_eq_none.mp hfirst c (mem_allClasses c)
    | some c =>
      obtain ⟨e, rest, hentries⟩ : ∃ e rest, (s.uplink u).queues[c].entries = e :: rest := by
        refine List.exists_cons_of_ne_nil fun hnil => ?_
        have hwaits := List.find?_some hfirst
        rw [hnil] at hwaits
        cases hwaits
      exact .inr ⟨c, e, rest, hflight, hentries, beginUplink_begins hflight hup hhold hfirst hentries⟩
  · refine .inl (beginUplink_idles ?_)
    by_contra hnot
    simp only [not_or, ne_eq, not_not, Bool.not_eq_true, Bool.not_eq_false] at hnot
    obtain ⟨hflight, hup, hhold, -⟩ := hnot
    exact hidle ⟨hflight, hup, hhold⟩

theorem beginUplink_occupancy (u v : Uplink) (c : Cls) (s : State) :
    ((beginUplink u s).uplink v).occupancy c = (s.uplink v).occupancy c := by
  obtain h | ⟨d, e, rest, hflight, hentries, h⟩ := beginUplink_cases u s
  · rw [h]
  · rw [h, State.uplink_modUplink]
    split
    next hv => rw [hv, begunUplink_occupancy hflight hentries]
    next => rfl

theorem beginUplink_poolTotal (u : Uplink) (s : State) : poolTotal (beginUplink u s) = poolTotal s := by
  obtain ⟨a, b, h⟩ := beginUplink_frame u s
  have hslots : slotCells (beginUplink u s) = slotCells s := by rw [h]; rfl
  have htrap : (beginUplink u s).trapQueue = s.trapQueue := by rw [h]
  have hfree : (beginUplink u s).freeCells = s.freeCells := by rw [h]
  rw [poolTotal, poolTotal, heldCells_eq, heldCells_eq, hslots, htrap, hfree]
  simp only [uplinkCells, beginUplink_occupancy]

theorem beginSlotPart_occupancy (pause : Nat → Octets) (q : QueuePart) :
    (beginSlotPart pause q).occupancy = q.occupancy := by
  cases hflight : q.flight with
  | some f => rw [beginSlotPart_busyLink (by rw [hflight]; simp)]
  | none =>
    cases hpause : q.pendingPause with
    | some n =>
      rw [beginSlotPart_pause hflight hpause, egressOccupancy_eq, egressOccupancy_eq, hflight]
      rfl
    | none =>
      cases hcontrol : q.control with
      | cons f rest =>
        rw [beginSlotPart_control hflight hpause hcontrol, egressOccupancy_eq, egressOccupancy_eq, hflight]
        rfl
      | nil =>
        cases hegress : q.egress with
        | nil => rw [beginSlotPart_nothing hpause hcontrol hegress]
        | cons f rest =>
          rw [beginSlotPart_egress hflight hpause hcontrol hegress, egressOccupancy_eq, egressOccupancy_eq, hflight,
            hegress, frameCells_cons]
          have hsent : slotFlightCells (some (flightOf f true)) = f.cells := rfl
          have hidle : slotFlightCells none = 0 := rfl
          rw [hsent, hidle, Nat.zero_add]

theorem beginSlot_poolTotal (i : Slot) (s : State) : poolTotal (beginSlot i s) = poolTotal s := by
  have hmod := heldCells_modQue s i (beginSlotPart s.pauseOctets)
  rw [beginSlotPart_occupancy] at hmod
  rw [poolTotal, poolTotal, beginSlot]
  show s.freeCells + _ = _
  omega

/-! ### The pool (O53) -/

/-- No queue move gains or loses a cell. -/
theorem QueueMove.poolTotal {s t : State} (h : QueueMove s t) : poolTotal t = poolTotal s := by
  cases h with
  | same _ h => exact (SameFrames.of_sameQueues h).poolTotal
  | link u f hf => exact (SameFrames.modUplink s u hf).poolTotal
  | enqueue u c e _ h => exact offerClass_poolTotal h
  | deliver i f _ h => exact offerEgress_poolTotal h
  | trap e _ h => exact offerTrap_poolTotal h
  | untrap e rest h => exact untrap_poolTotal h
  | control i f =>
    refine (SameFrames.modQue s i (f := offerControlPart f) fun q => ?_).poolTotal
    obtain ⟨l, h⟩ := offerControlPart_eq f q
    rw [h]
    exact ⟨rfl, rfl⟩
  | discard i => exact (SameFrames.modQue s i (f := discardPowerFrames) fun _ => ⟨rfl, rfl⟩).poolTotal
  | flushSlot i => exact flushSlot_poolTotal i s
  | complete u f h => rw [(downwardTest_sameFrames u f.cls _).poolTotal, freedUplink_poolTotal h]
  | slotComplete i f h => exact slotComplete_poolTotal h
  | refresh i quanta => exact (SameFrames.modQue s i (refreshPause_frames quanta)).poolTotal
  | fall u c => rw [(endCongestion_sameFrames u c _).poolTotal, flushClass_poolTotal]
  | limits a => exact (setQueueLimits_sameFrames a s).poolTotal
  | restart => exact restartQueues_poolTotal s
  | beginUplink u => exact beginUplink_poolTotal u s
  | beginSlot i => exact beginSlot_poolTotal i s

/-- What CHASSIS_RESET leaves of the queues: those of the reset state, whatever the links' states (R129, R147). -/
theorem afterReset_queues (straps : Byte) (s : State) :
    (∀ u, ∃ up, (afterReset straps s).uplink u = { State.reset.uplink u with linkUp := up }) ∧
      ∀ i, ((afterReset straps s).slot i).que = (SlotRecord.reset 0).que := by
  refine ⟨fun u => ?_, fun i => ?_⟩
  · cases u
    · exact ⟨s.uplinkA.linkUp, rfl⟩
    · exact ⟨s.uplinkB.linkUp, rfl⟩
  · simp [afterReset, State.slot, resetSlot, State.reset, SlotRecord.reset]

theorem afterReset_occupancy (straps : Byte) (s : State) (u : Uplink) (c : Cls) :
    ((afterReset straps s).uplink u).occupancy c = 0 := by
  obtain ⟨up, h⟩ := (afterReset_queues straps s).1 u
  rw [h, occupancy_eq]
  cases u <;> simp [State.uplink, State.reset, UplinkRecord.reset, ClassQueue.reset, classFlightCells, entryCells]

theorem afterReset_poolBalance (straps : Byte) (s : State) : PoolBalance (afterReset straps s) := by
  have hslot (i : Slot) : ((afterReset straps s).slot i).que.occupancy = 0 := by
    rw [(afterReset_queues straps s).2 i]
    rfl
  rw [PoolBalance, heldCells_eq]
  simp only [uplinkCells, slotCells, afterReset_occupancy, hslot]
  rfl

theorem PoolBalance.queueMove {s t : State} (hs : PoolBalance s) (h : QueueMove s t) : PoolBalance t := by
  have htotal := h.poolTotal
  rw [poolTotal, poolTotal] at htotal
  rw [PoolBalance] at hs ⊢
  rw [htotal, hs]

theorem poolBalance_kept : KeptByQueueMoves PoolBalance where
  move := PoolBalance.queueMove
  reset := afterReset_poolBalance

/-- Settles O53: no queue move gains or loses a cell, and every step is a chain of queue moves. -/
theorem everyStepKeepsThePoolBalance : Obligations.EveryStepKeepsThePoolBalance := by
  exact fun s t hs h => poolBalance_kept.step hs h

end Sys2Proof.Machine
end

section
/-! SUPPORT. Congestion, held sets, flags and control lists through every queue move (O57). -/

namespace Sys2Proof.Machine

/-! ### The invariant and what it looks at -/

/-- Congestion, backpressure flags and control lists in agreement (R153, R154, R158). -/
structure QueuesAgree (s : State) : Prop where
  congestion : CongestionConsistent s
  backpressure : BackpressureConsistent s
  control : ControlLists s

/-- What `QueueCongestion` says of a class queue whatever its occupancy is. -/
def QueueOrderly (q : ClassQueue) : Prop :=
  q.marks.low < q.marks.high ∧ (∀ w, q.staged = some w → q.congested = true ∧ w.low < w.high) ∧
    (q.congested = false → q.held = 0)

theorem queueCongestion_iff (r : UplinkRecord) (c : Cls) : QueueCongestion r c ↔
    QueueOrderly r.queues[c] ∧ (r.queues[c].congested = true → r.queues[c].marks.low < r.occupancy c) := by
  simp only [QueueCongestion, QueueOrderly, and_assoc]

/-- A class queue without its entries and its limit: its watermarks, its congestion and its held set. -/
def watched (q : ClassQueue) : ClassQueue := { q with entries := [], limit := 0 }

theorem queueOrderly_watched (q : ClassQueue) : QueueOrderly (watched q) ↔ QueueOrderly q := Iff.rfl

theorem queueOrderly_congr {q p : ClassQueue} (h : watched p = watched q) (hq : QueueOrderly q) : QueueOrderly p := by
  rwa [← queueOrderly_watched, h]

/-- A queue that is watched as before and holds no less. -/
theorem queueCongestion_grown {r t : UplinkRecord} {c : Cls} (hr : QueueCongestion r c)
    (hwatched : watched t.queues[c] = watched r.queues[c]) (hoccupancy : r.occupancy c ≤ t.occupancy c) :
    QueueCongestion t c := by
  obtain ⟨horderly, habove⟩ := (queueCongestion_iff r c).mp hr
  refine (queueCongestion_iff t c).mpr ⟨queueOrderly_congr hwatched horderly, fun hcong => ?_⟩
  have hmarks : t.queues[c].marks = r.queues[c].marks := congrArg (fun q => q.marks) hwatched
  have hcong' : t.queues[c].congested = r.queues[c].congested := congrArg (fun q => q.congested) hwatched
  rw [hmarks]
  exact (habove (hcong' ▸ hcong)).trans_le hoccupancy

theorem heldAnywhere_watched {s t : State}
    (h : ∀ u, ∀ c : Cls, watched (t.uplink u).queues[c] = watched (s.uplink u).queues[c]) (i : Slot) :
    heldAnywhere t i = heldAnywhere s i := by
  have hheld (u : Uplink) (c : Cls) : (t.uplink u).queues[c].held = (s.uplink u).queues[c].held :=
    congrArg (fun q => q.held) (h u c)
  simp only [heldAnywhere, hheld]

namespace QueuesAgree

/-- The invariant looks at the uplinks and at the slots' Queue Manager parts alone. -/
theorem congr {s t : State} (hs : QueuesAgree s) (huplink : ∀ u, t.uplink u = s.uplink u)
    (hparts : ∀ i, (t.slot i).que = (s.slot i).que) : QueuesAgree t where
  congestion u c := huplink u ▸ hs.congestion u c
  backpressure i := by
    rw [hparts, heldAnywhere_congr huplink]
    exact hs.backpressure i
  control i := hparts i ▸ hs.control i

/-- A change of the uplinks that watches each queue as before and lets none hold less. -/
theorem grown {s t : State} (hs : QueuesAgree s) (hparts : ∀ i, (t.slot i).que = (s.slot i).que)
    (hwatched : ∀ u, ∀ c : Cls, watched (t.uplink u).queues[c] = watched (s.uplink u).queues[c])
    (hoccupancy : ∀ u c, (s.uplink u).occupancy c ≤ (t.uplink u).occupancy c) : QueuesAgree t where
  congestion u c := queueCongestion_grown (hs.congestion u c) (hwatched u c) (hoccupancy u c)
  backpressure i := by
    rw [hparts, heldAnywhere_watched hwatched]
    exact hs.backpressure i
  control i := hparts i ▸ hs.control i

/-- A change of one slot's Queue Manager part. -/
theorem modQue {s : State} (hs : QueuesAgree s) (i : Slot) {f : QueuePart → QueuePart}
    (hflag : (f (s.slot i).que).backpressure = true → heldAnywhere s i = true)
    (hrefresh : (f (s.slot i).que).refresh.isRunning = (f (s.slot i).que).backpressure)
    (hcontrol : ((f (s.slot i).que).control.map (·.kind)).Nodup) : QueuesAgree (s.modQue i f) where
  congestion u c := by
    rw [State.modQue_eq, State.modSlot_uplink]
    exact hs.congestion u c
  backpressure j := by
    rw [State.modQue_eq, heldAnywhere_congr (State.modSlot_uplink s i _), State.slot_modSlot]
    split
    next hj => subst hj; exact ⟨hflag, hrefresh⟩
    next => exact hs.backpressure j
  control j := by
    rw [State.modQue_eq, State.slot_modSlot]
    split
    next => exact hcontrol
    next => exact hs.control j

/-- A change of one slot's part that leaves its flag and its refresh timer and adds nothing to its control list. -/
theorem modQue_flagKept {s : State} (hs : QueuesAgree s) (i : Slot) {f : QueuePart → QueuePart}
    (hflag : (f (s.slot i).que).backpressure = (s.slot i).que.backpressure)
    (hrefresh : (f (s.slot i).que).refresh = (s.slot i).que.refresh)
    (hcontrol : (f (s.slot i).que).control.Sublist (s.slot i).que.control) : QueuesAgree (s.modQue i f) := by
  obtain ⟨hheld, hruns⟩ := hs.backpressure i
  exact hs.modQue i (by rwa [hflag]) (by rw [hflag, hrefresh, hruns]) ((hcontrol.map _).nodup (hs.control i))

end QueuesAgree

/-! ### The upward crossing (R153) -/

/-- A change of one class queue, judged by the queue itself and by the others. -/
theorem congestionConsistent_modClass {s : State} {u : Uplink} {c : Cls} {f : ClassQueue → ClassQueue}
    (hothers : ∀ v d, ¬(v = u ∧ d = c) → QueueCongestion (s.uplink v) d)
    (hqueue : QueueCongestion ((s.modClass u c f).uplink u) c) : CongestionConsistent (s.modClass u c f) := by
  intro v d
  by_cases h : v = u ∧ d = c
  · obtain ⟨rfl, rfl⟩ := h
    exact hqueue
  · have hsame : ((s.modClass u c f).uplink v).queues[d] = (s.uplink v).queues[d] := by rw [queues_modClass, if_neg h]
    exact queueCongestion_grown (hothers v d h) (by rw [hsame])
      (occupancy_congr (flight_modClass s u v c f) (by rw [hsame])).ge

/-- A held set grown, or formed where there was none, loses no slot. -/
theorem heldAnywhere_grown {s : State} {u : Uplink} {c : Cls} {f : ClassQueue → ClassQueue}
    (hf : ∀ i, inSlotSet (s.uplink u).queues[c].held i = true → inSlotSet (f (s.uplink u).queues[c]).held i = true)
    (i : Slot) (h : heldAnywhere s i = true) : heldAnywhere (s.modClass u c f) i = true := by
  obtain ⟨v, d, hin⟩ := (heldAnywhere_iff s i).mp h
  refine (heldAnywhere_iff _ i).mpr ⟨v, d, ?_⟩
  rw [queues_modClass]
  split
  next hvd => obtain ⟨rfl, rfl⟩ := hvd; exact hf i hin
  next => exact hin

theorem heldAnywhere_member {s : State} {u : Uplink} {c : Cls} {f : ClassQueue → ClassQueue} {i : Slot}
    (h : inSlotSet (f (s.uplink u).queues[c]).held i = true) : heldAnywhere (s.modClass u c f) i = true :=
  (heldAnywhere_iff _ i).mpr ⟨u, c, by rwa [queues_modClass, if_pos ⟨rfl, rfl⟩]⟩

/-- A paused slot is flagged with its refresh timer running, if it agreed before. -/
theorem pausedRecord_flagged_running {r : SlotRecord} (h : r.que.refresh.isRunning = r.que.backpressure) :
    (pausedRecord r).que.backpressure = true ∧ (pausedRecord r).que.refresh.isRunning = true := by
  cases hflag : r.que.backpressure with
  | true =>
    rw [pausedRecord_flagged hflag]
    exact ⟨hflag, h.trans hflag⟩
  | false =>
    rw [pausedRecord_unflagged hflag]
    exact ⟨rfl, rfl⟩

/-- One class queue changed and a set of slots paused, each of which some queue then holds. -/
theorem QueuesAgree.paused {s : State} (hs : QueuesAgree s) {u : Uplink} {c : Cls} {f : ClassQueue → ClassQueue}
    (hqueue : QueueCongestion ((s.modClass u c f).uplink u) c)
    (hheld : ∀ i, heldAnywhere s i = true → heldAnywhere (s.modClass u c f) i = true) {pausing : Slot → Prop}
    (hin : ∀ i, pausing i → heldAnywhere (s.modClass u c f) i = true) {t : State}
    (huplink : ∀ v, t.uplink v = (s.modClass u c f).uplink v)
    (hpaused : ∀ i, pausing i → t.slot i = pausedRecord (s.slot i))
    (hkept : ∀ i, ¬pausing i → t.slot i = s.slot i) : QueuesAgree t where
  congestion v d := by
    rw [huplink]
    exact congestionConsistent_modClass (fun v d _ => hs.congestion v d) hqueue v d
  backpressure i := by
    obtain ⟨hflagged, hruns⟩ := hs.backpressure i
    rw [heldAnywhere_congr huplink]
    by_cases h : pausing i
    · obtain ⟨hflag, hrunning⟩ := pausedRecord_flagged_running hruns
      rw [hpaused i h]
      exact ⟨fun _ => hin i h, hrunning.trans hflag.symm⟩
    · rw [hkept i h]
      exact ⟨fun hflag => hheld i (hflagged hflag), hruns⟩
  control i := by
    by_cases h : pausing i
    · obtain ⟨q, hq, -, -, hcontrol⟩ := pausedRecord_eq (s.slot i)
      rw [hpaused i h, hq, hcontrol]
      exact hs.control i
    · rw [hkept i h]
      exact hs.control i

theorem upwardTest_agrees (u : Uplink) (c : Cls) (source : Option Slot) {s : State} (hs : QueuesAgree s) :
    QueuesAgree (upwardTest u c source s) := by
  obtain ⟨⟨hmarks, hstaged, hempty⟩, habove⟩ := (queueCongestion_iff _ c).mp (hs.congestion u c)
  cases hcong : (s.uplink u).queues[c].congested with
  | false =>
    by_cases hcross : (s.uplink u).queues[c].marks.high < (s.uplink u).occupancy c
    · rw [upwardTest_crossed source hcong hcross]
      refine hs.paused (u := u) (c := c) ?_ (heldAnywhere_grown fun i hin => ?_)
        (pausing := fun i => inSlotSet (sourcesOf ((s.uplink u).held c)) i = true)
        (fun i hin => heldAnywhere_member (s := s) (u := u) (c := c) hin) (uplink_withSlots _ _)
        (fun i hin => (slot_ofRule _ _ i).trans (if_pos hin)) fun i hout => (slot_ofRule _ _ i).trans (if_neg hout)
      · have hflight := flight_modClass s u u c fun q =>
          { q with congested := true, held := sourcesOf ((s.uplink u).held c) }
        rw [queueCongestion_iff, queues_modClass, if_pos ⟨rfl, rfl⟩]
        refine ⟨⟨hmarks, fun w hw => ⟨rfl, (hstaged w hw).2⟩, fun h => by cases h⟩, fun _ => ?_⟩
        rw [occupancy_congr hflight (by rw [queues_modClass, if_pos ⟨rfl, rfl⟩])]
        exact hmarks.trans hcross
      · rw [hempty hcong, inSlotSet_empty] at hin
        cases hin
    · rw [upwardTest_below source hcong (by omega)]
      exact hs
  | true =>
    cases source with
    | none =>
      rw [upwardTest_congested_none hcong]
      exact hs
    | some i =>
      rw [upwardTest_congested_some i hcong, pauseSlot_eq]
      refine hs.paused (u := u) (c := c) (f := fun q => { q with held := slotSetInsert q.held i }) ?_
        (heldAnywhere_grown fun j hin => (inSlotSet_insert _ i j).mpr (.inr hin)) (pausing := fun j => j = i)
        (fun j hj => heldAnywhere_member ((inSlotSet_insert _ i j).mpr (.inl hj))) (State.modSlot_uplink _ i _)
        (fun j hj => ?_) fun j hj => ?_
      · have hflight := flight_modClass s u u c fun q => { q with held := slotSetInsert q.held i }
        rw [queueCongestion_iff, queues_modClass, if_pos ⟨rfl, rfl⟩]
        refine ⟨⟨hmarks, hstaged, fun h => ?_⟩, fun _ => ?_⟩
        · rw [hcong] at h
          cases h
        · rw [occupancy_congr hflight (by rw [queues_modClass, if_pos ⟨rfl, rfl⟩])]
          exact habove hcong
      · rw [hj, State.slot_modSlot_same, slot_modClass]
      · rw [State.slot_modSlot_ne _ _ hj, slot_modClass]

theorem offerClass_agrees {u : Uplink} {c : Cls} {e : QueueEntry} {s t : State} (hs : QueuesAgree s)
    (h : offerClass u c e s = some t) : QueuesAgree t := by
  obtain ⟨-, hnone⟩ | ⟨-, hsome⟩ := offerClass_cases u c e s
  · rw [hnone] at h; cases h
  · rw [hsome] at h
    cases h
    refine upwardTest_agrees u c e.source (hs.grown (fun i => by rw [slot_modClass]; rfl) (fun v d => ?_) fun v d => ?_)
    · rw [queues_modClass, uplink_withCells]
      split <;> rfl
    · rw [occupancy_eq, occupancy_eq, flight_modClass, queues_modClass]
      simp only [uplink_withCells]
      split
      next => rw [entryCells_append]; omega
      next => exact le_rfl

/-! ### The end of a congestion (R153, R155) -/

/-- A queue no longer congested keeps its order, with the staged watermarks in force. -/
theorem clearCongestion_orderly {q : ClassQueue} (h : QueueOrderly q) : QueueOrderly (clearCongestion q) := by
  obtain ⟨hmarks, hstaged, -⟩ := h
  refine ⟨?_, fun w hw => (by cases hw), fun _ => rfl⟩
  show (q.staged.getD q.marks).low < (q.staged.getD q.marks).high
  cases hw : q.staged with
  | none => exact hmarks
  | some w => exact (hstaged w hw).2

theorem SlotsFreed.backpressureConsistent {s m : State} (h : SlotsFreed s m) (hs : BackpressureConsistent s) :
    BackpressureConsistent m := by
  intro i
  obtain ⟨hflagged, hruns⟩ := hs i
  by_cases hfree : (s.slot i).que.backpressure = true ∧ heldAnywhere s i = true ∧ heldAnywhere m i = false
  · rw [h.freed i hfree]
    exact ⟨fun hflag => (by cases hflag), rfl⟩
  · rw [h.kept i hfree]
    refine ⟨fun hflag => ?_, hruns⟩
    by_contra hm
    exact hfree ⟨hflag, hflagged hflag, by simpa using hm⟩

theorem endCongestion_agrees {u : Uplink} {c : Cls} {s : State}
    (hothers : ∀ v d, ¬(v = u ∧ d = c) → QueueCongestion (s.uplink v) d) (hqueue : QueueOrderly (s.uplink u).queues[c])
    (hback : BackpressureConsistent s) (hcontrol : ControlLists s) : QueuesAgree (endCongestion u c s) where
  congestion v d := by
    rw [endCongestion_eq, uplink_withSlots]
    refine congestionConsistent_modClass hothers ?_ v d
    rw [queueCongestion_iff, queues_modClass, if_pos ⟨rfl, rfl⟩]
    exact ⟨clearCongestion_orderly hqueue, fun h => by cases h⟩
  backpressure := (endCongestion_slotsFreed u c s).backpressureConsistent hback
  control i := by
    rw [endCongestion_eq, slot_ofRule]
    split <;> exact hcontrol i

/-- A test that finds the queue above its low watermark, or not congested, leaves it in order; any other ends the
congestion. -/
theorem downwardTest_agrees {u : Uplink} {c : Cls} {s : State}
    (hothers : ∀ v d, ¬(v = u ∧ d = c) → QueueCongestion (s.uplink v) d) (hqueue : QueueOrderly (s.uplink u).queues[c])
    (hback : BackpressureConsistent s) (hcontrol : ControlLists s) : QueuesAgree (downwardTest u c s) := by
  unfold downwardTest
  split
  next => exact endCongestion_agrees hothers hqueue hback hcontrol
  next hnot =>
    refine ⟨fun v d => ?_, hback, hcontrol⟩
    by_cases h : v = u ∧ d = c
    · obtain ⟨rfl, rfl⟩ := h
      exact (queueCongestion_iff _ _).mpr ⟨hqueue, fun hcong => by by_contra hle; exact hnot ⟨hcong, by omega⟩⟩
    · exact hothers v d h

theorem freedUplink_queues (u v : Uplink) (f : UplinkFlight) (s : State) :
    ((freedUplink u f s).uplink v).queues = (s.uplink v).queues := by
  rw [freedUplink_uplink]
  split
  next h => rw [h]; rfl
  next => rfl

theorem complete_agrees {u : Uplink} {f : UplinkFlight} {s : State} (hs : QueuesAgree s)
    (h : (s.uplink u).flight = some f) : QueuesAgree (downwardTest u f.cls (freedUplink u f s)) := by
  have hslot (i : Slot) : (freedUplink u f s).slot i = s.slot i := State.modUplink_slot _ u _ i
  refine downwardTest_agrees (fun v d hvd => queueCongestion_grown (hs.congestion v d) ?_ ?_) ?_ (fun i => ?_) fun i => ?_
  · rw [freedUplink_queues]
  · rw [freedUplink_uplink]
    split
    next hv =>
      subst hv
      rw [idleUplink_occupancy h, if_neg fun hd => hvd ⟨rfl, hd⟩, Nat.add_zero]
    next => exact le_rfl
  · rw [freedUplink_queues]
    exact ((queueCongestion_iff _ _).mp (hs.congestion u f.cls)).1
  · rw [hslot, heldAnywhere_watched (s := s) fun v d => by rw [freedUplink_queues]]
    exact hs.backpressure i
  · rw [hslot]
    exact hs.control i

theorem fall_agrees (u : Uplink) (c : Cls) {s : State} (hs : QueuesAgree s) :
    QueuesAgree (endCongestion u c (flushClass u c s)) := by
  have hslot (i : Slot) : (flushClass u c s).slot i = s.slot i := slot_modClass _ u c _ i
  have hqueue (v : Uplink) (d : Cls) : ((flushClass u c s).uplink v).queues[d] =
      if v = u ∧ d = c then { (s.uplink v).queues[d] with entries := [] } else (s.uplink v).queues[d] := by
    rw [flushClass, queues_modClass, uplink_withCells]
  have hwatched (v : Uplink) (d : Cls) :
      watched ((flushClass u c s).uplink v).queues[d] = watched (s.uplink v).queues[d] := by
    rw [hqueue]
    split <;> rfl
  refine endCongestion_agrees (fun v d hvd => queueCongestion_grown (hs.congestion v d) (hwatched v d) ?_)
    (queueOrderly_congr (hwatched u c) ((queueCongestion_iff _ _).mp (hs.congestion u c)).1) (fun i => ?_) fun i => ?_
  · refine (occupancy_congr ?_ (by rw [hqueue, if_neg hvd])).ge
    rw [flushClass, flight_modClass, uplink_withCells]
  · rw [hslot, heldAnywhere_watched hwatched]
    exact hs.backpressure i
  · rw [hslot]
    exact hs.control i

/-! ### Settings, RESTART and the transmissions that begin (R150, R152, R159, R160) -/

theorem limitedQueue_orderly {w : Watermarks} (hw : w.low < w.high) (limit high low : Option Nat) {q : ClassQueue}
    (h : QueueOrderly q) : QueueOrderly (limitedQueue limit high low w q) := by
  obtain ⟨hmarks, hstaged, hempty⟩ := h
  unfold limitedQueue storeMarks
  split
  next =>
    split
    next hcong => exact ⟨hmarks, fun x hx => by cases hx; exact ⟨hcong, hw⟩, hempty⟩
    next => exact ⟨hw, hstaged, hempty⟩
  next => exact ⟨hmarks, hstaged, hempty⟩

/-- New watermarks are in force at once only in a queue that is not congested, and no setting changes a held set. -/
theorem limitedQueue_keeps (limit high low : Option Nat) (w : Watermarks) (q : ClassQueue) :
    (limitedQueue limit high low w q).held = q.held ∧
      ((limitedQueue limit high low w q).congested = true →
        q.congested = true ∧ (limitedQueue limit high low w q).marks = q.marks) := by
  unfold limitedQueue storeMarks
  split
  next =>
    split
    next hcong => exact ⟨rfl, fun _ => ⟨hcong, rfl⟩⟩
    next hcalm => exact ⟨rfl, fun h => absurd h hcalm⟩
  next => exact ⟨rfl, fun h => ⟨h, rfl⟩⟩

theorem setQueueLimits_agrees (a : QueueArgs) {s : State} (hs : QueuesAgree s) :
    QueuesAgree (setQueueLimits a s).state := by
  obtain h | ⟨u, c, limit, high, low, w, hw, h⟩ | ⟨i, n, h⟩ := setQueueLimits_cases a s
  · rw [h]
    exact hs
  · rw [h]
    obtain ⟨horderly, habove⟩ := (queueCongestion_iff _ c).mp (hs.congestion u c)
    obtain ⟨hheld, hcongested⟩ := limitedQueue_keeps limit high low w (s.uplink u).queues[c]
    refine ⟨congestionConsistent_modClass (fun v d _ => hs.congestion v d) ?_, fun i => ?_, fun i => ?_⟩
    · have hflight := flight_modClass s u u c (limitedQueue limit high low w)
      have hqueue := queues_modClass s u u c c (limitedQueue limit high low w)
      rw [if_pos ⟨rfl, rfl⟩] at hqueue
      rw [queueCongestion_iff, occupancy_congr hflight (by rw [hqueue, limitedQueue_entries]), hqueue]
      refine ⟨limitedQueue_orderly hw limit high low horderly, fun hcong => ?_⟩
      obtain ⟨hcong, hmarks⟩ := hcongested hcong
      rw [hmarks]
      exact habove hcong
    · rw [slot_modClass]
      refine ⟨fun hflag => heldAnywhere_grown (fun j hin => ?_) i ((hs.backpressure i).1 hflag), (hs.backpressure i).2⟩
      rwa [hheld]
    · rw [slot_modClass]
      exact hs.control i
  · rw [h]
    exact hs.modQue_flagKept i rfl rfl (List.Sublist.refl _)

theorem restartQueues_agrees {s : State} (hs : QueuesAgree s) : QueuesAgree (restartQueues s) := by
  have huplink (u : Uplink) : (restartQueues s).uplink u = mapQueues restartedQueue (s.uplink u) := by
    rw [restartQueues_eq]
    cases u <;> rfl
  have hslot (i : Slot) : (restartQueues s).slot i = restartedRecord (s.slot i) := by
    rw [restartQueues_eq]
    simp [State.slot]
  refine ⟨fun u c => ?_, fun i => ?_, fun i => ?_⟩
  · have hqueue : (mapQueues restartedQueue (s.uplink u)).queues[c] = restartedQueue (s.uplink u).queues[c] := by
      simp [mapQueues]
    rw [huplink, queueCongestion_iff, hqueue]
    exact ⟨clearCongestion_orderly ((queueCongestion_iff _ c).mp (hs.congestion u c)).1, fun h => by cases h⟩
  · rw [hslot]
    refine ⟨fun hflag => (by cases hflag), ?_⟩
    obtain ⟨-, hruns⟩ := hs.backpressure i
    cases hflag : (s.slot i).que.backpressure with
    | true => simp [restartedRecord, hflag, Timer.isRunning]
    | false => simpa [restartedRecord, hflag] using hruns
  · rw [hslot]
    exact List.nodup_nil

theorem beginUplink_agrees (u : Uplink) {s : State} (hs : QueuesAgree s) : QueuesAgree (beginUplink u s) := by
  obtain ⟨a, b, hframe⟩ := beginUplink_frame u s
  refine hs.grown (fun i => by rw [hframe]; rfl) (fun v d => ?_) fun v d => (beginUplink_occupancy u v d s).ge
  obtain h | ⟨c, e, rest, -, -, h⟩ := beginUplink_cases u s
  · rw [h]
  · rw [h, State.uplink_modUplink]
    split
    next hv =>
      subst hv
      rw [begunUplink, queues_set]
      split
      next hd => rw [hd]; rfl
      next => rfl
    next => rfl

/-- A transmission that begins on a slot link leaves the flag and the refresh timer and takes at most a frame from the
control list (R152). -/
theorem beginSlotPart_keeps (pause : Nat → Octets) (q : QueuePart) :
    (beginSlotPart pause q).backpressure = q.backpressure ∧ (beginSlotPart pause q).refresh = q.refresh ∧
      (beginSlotPart pause q).control.Sublist q.control := by
  unfold beginSlotPart
  split
  next => exact ⟨rfl, rfl, .refl _⟩
  next =>
    split
    next => exact ⟨rfl, rfl, .refl _⟩
    next =>
      split
      next f rest hcontrol => exact ⟨rfl, rfl, hcontrol ▸ List.sublist_cons_self f rest⟩
      next => split <;> exact ⟨rfl, rfl, .refl _⟩

/-! ### The control lists (R158) -/

theorem appended_nodup {f : ControlFrame} {l : List ControlFrame} (h : (l.map (·.kind)).Nodup)
    (habsent : ∀ g ∈ l, g.kind ≠ f.kind) : ((l ++ [f]).map (·.kind)).Nodup := by
  rw [List.map_append, List.nodup_append]
  refine ⟨h, List.nodup_singleton _, fun k hk k' hk' => ?_⟩
  obtain ⟨g, hg, rfl⟩ := List.mem_map.mp hk
  rw [List.mem_singleton.mp hk']
  exact habsent g hg

theorem without_sublist (k : ControlKind) (l : List ControlFrame) : (without k l).Sublist l := List.filter_sublist

theorem replaceOrAppend_nodup {f : ControlFrame} {l : List ControlFrame} (h : (l.map (·.kind)).Nodup) :
    ((replaceOrAppend f l).map (·.kind)).Nodup := by
  cases hwait : waiting f.kind l with
  | true =>
    have hkinds : (l.map fun g => if g.kind = f.kind then f else g).map (·.kind) = l.map (·.kind) := by
      rw [List.map_map]
      refine List.map_congr_left fun g _ => ?_
      show (if g.kind = f.kind then f else g).kind = g.kind
      split
      next hk => exact hk.symm
      next => rfl
    rw [replaceOrAppend_waiting hwait, hkinds]
    exact h
  | false =>
    have habsent := (waiting_eq_false _ _).mp hwait
    rw [replaceOrAppend_absent habsent]
    exact appended_nodup h habsent

/-- An offer keeps a control list without a repeated kind: a frame goes to the tail only where none of its kind
waits. -/
theorem offerControlPart_nodup {f : ControlFrame} {q : QueuePart} (h : (q.control.map (·.kind)).Nodup) :
    ((offerControlPart f q).control.map (·.kind)).Nodup := by
  have hwithout (k : ControlKind) : ((without k q.control).map (·.kind)).Nodup :=
    ((without_sublist k q.control).map _).nodup h
  have happended {k : ControlKind} (habsent : ∀ g ∈ q.control, g.kind ≠ f.kind) :
      ((without k q.control ++ [f]).map (·.kind)).Nodup :=
    appended_nodup (hwithout k) fun g hg => habsent g ((without_sublist k q.control).subset hg)
  cases hwait : waiting f.kind q.control with
  | true =>
    rw [offerControlPart_waiting hwait]
    exact replaceOrAppend_nodup h
  | false =>
    have habsent := (waiting_eq_false _ _).mp hwait
    cases hk : f.kind with
    | admitResult =>
      rw [offerControlPart_tail q (.inl hk)]
      exact replaceOrAppend_nodup h
    | shutdownReq =>
      rw [offerControlPart_tail q (.inr hk)]
      exact replaceOrAppend_nodup h
    | cap =>
      rw [offerControlPart_cap hk (hk ▸ hwait)]
      exact happended habsent
    | uncap =>
      rw [offerControlPart_uncap hk (hk ▸ hwait)]
      dsimp only
      split
      next =>
        split
        next => exact happended habsent
        next => rw [List.append_nil]; exact hwithout .cap
      next => exact appended_nodup h habsent

/-! ### Every queue move (O57) -/

namespace QueuesAgree

/-- The invariant does not look at the free cells. -/
theorem withCells {s : State} (hs : QueuesAgree s) (n : Nat) : QueuesAgree { s with freeCells := n } :=
  hs.congr (uplink_withCells s n) fun _ => rfl

/-- A change of one uplink that leaves its queues and its frame in flight. -/
theorem modUplink {s : State} (hs : QueuesAgree s) (u : Uplink) {f : UplinkRecord → UplinkRecord}
    (hf : ∀ r, (f r).queues = r.queues ∧ (f r).flight = r.flight) : QueuesAgree (s.modUplink u f) := by
  have hsame (v : Uplink) : ((s.modUplink u f).uplink v).queues = (s.uplink v).queues ∧
      ((s.modUplink u f).uplink v).flight = (s.uplink v).flight := by
    rw [State.uplink_modUplink]
    split
    next h => subst h; exact hf _
    next => exact ⟨rfl, rfl⟩
  refine hs.grown (fun i => congrArg (·.que) (State.modUplink_slot s u f i)) (fun v d => ?_) fun v d => ?_
  · rw [(hsame v).1]
  · exact (occupancy_congr (hsame v).2 (by rw [(hsame v).1])).ge

theorem deliver {i : Slot} {f : Frame} {s t : State} (hs : QueuesAgree s) (h : offerEgress i f s = some t) :
    QueuesAgree t := by
  unfold offerEgress at h
  dsimp only at h
  split at h
  next =>
    cases h
    exact (hs.withCells _).modQue_flagKept i rfl rfl (.refl _)
  next => cases h

theorem trap {e : TrapEntry} {s t : State} (hs : QueuesAgree s) (h : offerTrap e s = some t) : QueuesAgree t := by
  unfold offerTrap at h
  split at h
  next =>
    cases h
    exact hs.congr (fun u => by cases u <;> rfl) fun _ => rfl
  next => cases h

theorem flushSlot {s : State} (hs : QueuesAgree s) (i : Slot) : QueuesAgree (flushSlot i s) := by
  have hflushed : QueuesAgree (flushEgress i s) := (hs.withCells _).modQue_flagKept i rfl rfl (.refl _)
  exact hflushed.modQue i (fun hflag => by cases hflag) rfl List.nodup_nil

theorem refresh {s : State} (hs : QueuesAgree s) (i : Slot) (quanta : Nat) :
    QueuesAgree (s.modQue i (refreshPause quanta)) := by
  obtain ⟨hheld, -⟩ := hs.backpressure i
  by_cases hflag : (s.slot i).que.backpressure = true
  · refine hs.modQue i (fun _ => hheld hflag) ?_ ?_
    · rw [refreshPause, if_pos hflag]
      exact hflag.symm
    · rw [refreshPause, if_pos hflag]
      exact hs.control i
  · refine hs.modQue i (fun h => ?_) ?_ ?_
    · rw [refreshPause, if_neg hflag] at h
      exact absurd h hflag
    · rw [refreshPause, if_neg hflag]
      exact ((Bool.not_eq_true _).mp hflag).symm
    · rw [refreshPause, if_neg hflag]
      exact hs.control i

theorem queueMove {s t : State} (hs : QueuesAgree s) (h : QueueMove s t) : QueuesAgree t := by
  cases h with
  | same _ h => exact hs.congr h.uplink h.parts
  | link u f hf => exact hs.modUplink u hf
  | enqueue u c e _ h => exact offerClass_agrees hs h
  | deliver i f _ h => exact hs.deliver h
  | trap e _ h => exact hs.trap h
  | untrap e rest h => exact hs.congr (fun u => by cases u <;> rfl) fun _ => rfl
  | control i f =>
    obtain ⟨l, h⟩ := offerControlPart_eq f (s.slot i).que
    obtain ⟨hheld, hruns⟩ := hs.backpressure i
    exact hs.modQue i (by rwa [h]) (by rwa [h]) (offerControlPart_nodup (hs.control i))
  | discard i => exact hs.modQue_flagKept i rfl rfl List.filter_sublist
  | flushSlot i => exact hs.flushSlot i
  | complete u f h => exact complete_agrees hs h
  | slotComplete i f h =>
    rw [slotComplete_eq]
    exact (hs.modQue_flagKept i rfl rfl (.refl _)).withCells _
  | refresh i quanta => exact hs.refresh i quanta
  | fall u c => exact fall_agrees u c hs
  | limits a => exact setQueueLimits_agrees a hs
  | restart => exact restartQueues_agrees hs
  | beginUplink u => exact beginUplink_agrees u hs
  | beginSlot i =>
    obtain ⟨hflag, hrefresh, hcontrol⟩ := beginSlotPart_keeps s.pauseOctets (s.slot i).que
    exact hs.modQue_flagKept i hflag hrefresh hcontrol

end QueuesAgree

theorem afterReset_queuesAgree (straps : Byte) (s : State) : QueuesAgree (afterReset straps s) := by
  obtain ⟨huplink, hpart⟩ := afterReset_queues straps s
  refine ⟨fun u c => ?_, fun i => ?_, fun i => ?_⟩
  · obtain ⟨up, h⟩ := huplink u
    have hqueue : ((afterReset straps s).uplink u).queues[c] = ClassQueue.reset := by
      rw [h]
      cases u <;> simp [State.uplink, State.reset, UplinkRecord.reset]
    rw [queueCongestion_iff, hqueue]
    exact ⟨⟨by decide, fun w hw => (by cases hw), fun _ => rfl⟩, fun hcong => (by cases hcong)⟩
  · rw [hpart]
    exact ⟨fun hflag => (by cases hflag), rfl⟩
  · rw [hpart]
    exact List.nodup_nil

theorem queuesAgree_kept : KeptByQueueMoves QueuesAgree where
  move := QueuesAgree.queueMove
  reset := afterReset_queuesAgree

/-- Settles O57: every queue move keeps the watermarks, the held sets, the flags and the control lists in agreement, and
every step is a chain of queue moves. -/
theorem everyStepKeepsCongestionAndBackpressure : Obligations.EveryStepKeepsCongestionAndBackpressure := by
  unfold Obligations.EveryStepKeepsCongestionAndBackpressure
  intro s t hcongestion hbackpressure hcontrol h
  obtain ⟨hcongestion, hbackpressure, hcontrol⟩ := queuesAgree_kept.step ⟨hcongestion, hbackpressure, hcontrol⟩ h
  exact ⟨hcongestion, hbackpressure, hcontrol⟩

end Sys2Proof.Machine
end

section
/-! SUPPORT. Refused commands: how items fit and are read, and what a refusal leaves (O34). -/

namespace Sys2Proof.Machine

/-! ### The items of a COMMAND (R180, R181) -/

theorem itemsFit_iff (spec : List FieldSpec) (items : List Item) : itemsFit spec items = true ↔
    (∀ x ∈ items, ∃ f ∈ spec, x.field.toNat = f.number ∧ f.least ≤ x.value.length ∧ x.value.length ≤ f.most) ∧
    ∀ f ∈ spec, (f.repeatable = false → (valuesOf f.number items).length ≤ 1) ∧
      (f.required = true → valuesOf f.number items ≠ []) := by
  have hcount (n : Nat) : (items.countP fun it => it.field.toNat = n) = (valuesOf n items).length := by
    rw [valuesOf, List.length_map, List.countP_eq_length_filter]
  have hflags (f : FieldSpec) (l : List Octets) :
      ((f.repeatable || decide (l.length ≤ 1)) && (!f.required || decide (1 ≤ l.length))) = true ↔
        (f.repeatable = false → l.length ≤ 1) ∧ (f.required = true → l ≠ []) := by
    cases f.repeatable <;> cases f.required <;> simp [Nat.one_le_iff_ne_zero]
  have hitem (x : Item) (f : FieldSpec) : (decide (x.field.toNat = f.number) && decide (f.least ≤ x.value.length) &&
      decide (x.value.length ≤ f.most)) = true ↔
      x.field.toNat = f.number ∧ f.least ≤ x.value.length ∧ x.value.length ≤ f.most := by
    simp [and_assoc]
  rw [itemsFit, Bool.and_eq_true]
  simp only [List.all_eq_true, List.any_eq_true, hcount, hitem, hflags]

/-- The first value of a field is the one that is read. -/
theorem fieldOctets_eq_head? (n : Nat) (items : List Item) : fieldOctets n items = (valuesOf n items).head? := by
  rw [fieldOctets, valuesOf, List.head?_map, List.head?_filter]

theorem natOf_append_octet (o : Octets) (b : Byte) : natOf (o ++ [b]) = natOf o * 256 + b.toNat := by
  simp [natOf]

theorem intOf_two (a b : Byte) : intOf [a, b] = (a ++ b : BitVec 16).toInt := by
  have hword : natOf [a, b] = (a ++ b : BitVec 16).toNat := by
    rw [toNat_append_octet]
    simp [natOf]
  rw [intOf, hword, BitVec.ofNat_toNat, BitVec.setWidth_eq]

/-! ### Refusals (R164, R166, R181) -/

/-- A code outside the table is answered UNKNOWN (R164). -/
theorem runCode_unknown {code : Word16} (hcode : code.toNat ∉ knownCodes) (items : List Item) (s : State) :
    runCode code items s = refuse s .unknown := by
  have hlisted (n : Nat) (h : n ∈ knownCodes) : code.toNat ≠ n := fun hn => hcode (hn ▸ h)
  unfold runCode
  split
  -- one case for each of the 36 listed codes, then any other
  iterate 36 exact absurd ‹code.toNat = _› (hlisted _ (by decide))
  rfl

theorem exec_unknownCommand_arrives {s : State} {u : Uplink} {e : Envelope} {items : List Item}
    (harrives : CommandArrives s u e items) {code : Word16} (hcode : code.toNat ∉ knownCodes) :
    exec (.unknownCommand u e code items) s = .next (commandDone s u e code (refuse (commandState s u e) .unknown)) :=
  command_runs s u e code items harrives (fun _ cs => refuse cs .unknown) (runCode_unknown hcode items)

theorem withArgs_none {α : Type} {args : Option α} (h : args = none) (s : State) (run : α → Answer) :
    withArgs args s run = refuse s .badValue := by
  rw [h]
  rfl

/-- A command that its reader of items turns away ends as a refusal on the state as it found it (R164, R166). -/
theorem exec_refused {s : State} {u : Uplink} {e : Envelope} {code : Word16} {i : Instr} {a : Answer}
    (hexec : exec i s = .next (commandDone s u e code a)) (ha : a = refuse (commandState s u e) .badValue) :
    exec i s = .next (commandDone s u e code (refuse (commandState s u e) .badValue)) := by
  rw [hexec, ha]

/-- Settles O34: the items by their checks, then each command as its reader of items turns it away. -/
theorem refusedCommandsChangeNothing : Obligations.RefusedCommandsChangeNothing := by
  refine ⟨fun _ _ _ => rfl, rfl, itemsFit_iff, fun n items => ⟨fieldOctets_eq_head? n items, rfl, rfl⟩,
    fun _ _ => ⟨rfl, rfl⟩, fun o b => ⟨rfl, natOf_append_octet o b⟩, intOf_two, commandDone_unchanged, ?_⟩
  intro s u e items refused harrives hrefused
  obtain rfl : refused = fun status code => commandDone s u e code (refuse (commandState s u e) status) :=
    funext₂ hrefused
  refine ⟨fun code hcode => exec_unknownCommand_arrives harrives hcode, fun hslot => ⟨?_, ?_, ?_, ?_, ?_⟩,
    fun hitems => ⟨?_, ?_, ?_, ?_, ?_, ?_, ?_, ?_, ?_⟩,
    fun h => exec_refused (exec_readCounters_arrives s u e items harrives) (withArgs_none h _ _),
    fun h => exec_refused (exec_readTable_arrives s u e items harrives) (withArgs_none h _ _),
    fun h => exec_refused (exec_setSlot_arrives s u e items harrives) (withArgs_none h _ _),
    fun h => exec_refused (exec_setSupply_arrives s u e items harrives) (withArgs_none h _ _),
    fun h => exec_refused (exec_setTiming_arrives s u e items harrives) (withArgs_none h _ _),
    fun h => exec_refused (exec_setZone_arrives s u e items harrives) (withArgs_none h _ _),
    fun h => exec_refused (exec_setFan_arrives s u e items harrives) (withArgs_none h _ _),
    fun h => exec_refused (exec_setFanCurve_arrives s u e items harrives) (withArgs_none h _ _),
    fun h => exec_refused (exec_setFanDuty_arrives s u e items harrives) (withArgs_none h _ _),
    fun h => exec_refused (exec_setChannel_arrives s u e items harrives) (withArgs_none h _ _),
    fun h => exec_refused (exec_setSweep_arrives s u e items harrives) (withArgs_none h _ _),
    fun h => exec_refused (exec_setUplink_arrives s u e items harrives) (withArgs_none h _ _),
    fun h => exec_refused (exec_setQueue_arrives s u e items harrives) (withArgs_none h _ _),
    fun h => exec_refused (exec_setClassMap_arrives s u e items harrives) (withArgs_none h _ _),
    fun h => exec_refused (exec_loadSegment_arrives s u e items harrives) (withArgs_none h _ _),
    fun h => exec_refused (exec_deleteSegment_arrives s u e items harrives) (withArgs_none h _ _),
    fun h => exec_refused (exec_loadAdmission_arrives s u e items harrives) (withArgs_none h _ _),
    fun h => exec_refused (exec_deleteAdmission_arrives s u e items harrives) (withArgs_none h _ _),
    fun h => exec_refused (exec_slotPowerOff_arrives s u e items harrives) (withArgs_none h _ _),
    fun h => exec_refused (exec_slotAdmit_arrives s u e items harrives) (withArgs_none h _ _),
    fun h => exec_refused (exec_inject_arrives s u e items harrives) (withArgs_none h _ _),
    fun h => exec_refused (exec_clearAlerts_arrives s u e items harrives) (withArgs_none h _ _)⟩
  · exact exec_refused (exec_readSlot_arrives s u e items harrives) (withArgs_none hslot _ _)
  · exact exec_refused (exec_readInventory_arrives s u e items harrives) (withArgs_none hslot _ _)
  · exact exec_refused (exec_slotPowerOn_arrives s u e items harrives) (withArgs_none hslot _ _)
  · exact exec_refused (exec_slotKill_arrives s u e items harrives) (withArgs_none hslot _ _)
  · exact exec_refused (exec_slotRelease_arrives s u e items harrives) (withArgs_none hslot _ _)
  · exact exec_refused (exec_readPower_arrives s u e items harrives) (readPlain_fields _ _ _ hitems)
  · exact exec_refused (exec_readThermal_arrives s u e items harrives) (readPlain_fields _ _ _ hitems)
  · exact exec_refused (exec_readFans_arrives s u e items harrives) (readPlain_fields _ _ _ hitems)
  · exact exec_refused (exec_readQueues_arrives s u e items harrives) (readPlain_fields _ _ _ hitems)
  · exact exec_refused (exec_readAlerts_arrives s u e items harrives) (readPlain_fields _ _ _ hitems)
  · exact exec_refused (exec_startSweep_arrives s u e items harrives) (plainCommand_fields _ _ _ hitems)
  · exact exec_refused (exec_stopSweep_arrives s u e items harrives) (plainCommand_fields _ _ _ hitems)
  · exact exec_refused (exec_clearCounters_arrives s u e items harrives) (plainCommand_fields _ _ _ hitems)
  · exact exec_refused (exec_restart_arrives s u e items harrives) (plainCommand_fields _ _ _ hitems)

end Sys2Proof.Machine
end

section
/-! SUPPORT. The alert set and the NOTICE (O49). -/

namespace Sys2Proof.Machine

/-! ### Raises (R163, R168) -/

/-- A raise enters its pair and nothing else, and changes nothing where the pair stands (R168). -/
theorem raise_adds (a : Alert) (s : State) :
    (∀ b : Alert, b ∈ (raise a s).mgmt.alerts ↔ b = a ∨ b ∈ s.mgmt.alerts) ∧
    raise a s = { s with mgmt := { s.mgmt with alerts := (raise a s).mgmt.alerts } } ∧
    (a ∈ s.mgmt.alerts → raise a s = s) :=
  ⟨fun b => mem_raise a b s, by rw [raise_eq], fun h => if_pos h⟩

/-- Slot kinds have codes to 7, chassis kinds from 8 to 12, then a channel's and a fan's (R163, R181). -/
theorem admitsIndex_iff (k : AlertKind) (n : Nat) : k.admitsIndex n = true ↔
    (k.code ≤ 7 ∧ 1 ≤ n ∧ n ≤ 16) ∨ (8 ≤ k.code ∧ k.code ≤ 12 ∧ n = 0) ∨ (k.code = 13 ∧ n ≤ 7) ∨
      (k.code = 14 ∧ 1 ≤ n ∧ n ≤ 6) := by
  cases k <;> simp [AlertKind.admitsIndex, AlertKind.code]

/-! ### The NOTICE (R168, R183) -/

theorem alertAdded_iff (s m : State) :
    alertAdded s m = true ↔ ∃ x ∈ m.mgmt.alerts, x ∉ s.mgmt.alerts := by
  simp [alertAdded]

section
variable {s m : State} {a : Station} {u : Uplink}

theorem sendNotice_noAlert (h : ∀ x ∈ m.mgmt.alerts, x ∈ s.mgmt.alerts) : sendNotice s m = m := by
  have hadded : ¬alertAdded s m = true := by
    rw [alertAdded_iff]
    rintro ⟨x, hx, hnew⟩
    exact hnew (h x hx)
  rw [sendNotice, if_neg hadded]

theorem sendNotice_noDestination (h : m.mgmt.destination = none) : sendNotice s m = m := by
  unfold sendNotice
  rw [h]
  exact ite_self m

theorem sendNotice_refused (hto : m.mgmt.destination = some (a, u))
    (hfull : offerClass u 0 { frame := noticeFrame m a, source := none } m = none) : sendNotice s m = m := by
  unfold sendNotice
  simp only [hto, hfull, ite_self]

/-- A NOTICE that is admitted takes the number in force, and nothing else of the management changes. -/
theorem sendNotice_admitted {t : State} (hnew : ∃ x ∈ m.mgmt.alerts, x ∉ s.mgmt.alerts)
    (hto : m.mgmt.destination = some (a, u))
    (hoffer : offerClass u 0 { frame := noticeFrame m a, source := none } m = some t) :
    sendNotice s m = { t with mgmt := { m.mgmt with notice := m.mgmt.notice + 1 } } := by
  have hmgmt : t.mgmt = m.mgmt := by
    obtain ⟨slots, uplinkA, uplinkB, freeCells, rfl⟩ := offerClass_frame _ _ _ _ _ hoffer
    rfl
  unfold sendNotice
  simp only [(alertAdded_iff s m).mpr hnew, hto, hoffer, hmgmt, if_true]

end

/-- Settles O49: a raise by its alert, and the NOTICE by whether an alert was added, a destination stands and its uplink
admits it. -/
theorem oneNoticeForAnEventThatAddsAlerts : Obligations.OneNoticeForAnEventThatAddsAlerts := by
  refine ⟨fun k i s => ?_, rfl, admitsIndex_iff, ?_⟩
  · obtain ⟨hslotMem, hslotFrame, hslotThere⟩ := raise_adds { kind := k, index := i.val + 1 } s
    obtain ⟨hchassisMem, hchassisFrame, hchassisThere⟩ := raise_adds { kind := k, index := 0 } s
    exact ⟨hslotMem, hchassisMem, hslotFrame, hchassisFrame, hslotThere, hchassisThere⟩
  · rintro s m a u q rfl
    exact ⟨sendNotice_noAlert, sendNotice_noDestination, sendNotice_refused, fun t => sendNotice_admitted⟩

end Sys2Proof.Machine
end

section
/-! The step by the queue of waiting commands: one equation for each form of the queue (log 4). -/

namespace Sys2Proof.Machine

variable {s : State}

theorem step_of_pending_cons {c : Instr} {rest : List Instr} (hq : s.pending = c :: rest) :
    step s = exec c { s with pending := rest } := by
  unfold step
  rw [hq]

theorem step_of_pending_nil (hq : s.pending = []) : step s = .next s := by
  unfold step
  rw [hq]

/-- Settles O1, by the step's equation on a queue with a front command. -/
theorem stepRunsTheFrontCommand : Obligations.StepRunsTheFrontCommand :=
  fun _ _ _ hq => step_of_pending_cons hq

/-- Settles O2, by the step's equation on an empty queue. -/
theorem emptyQueueIdles : Obligations.EmptyQueueIdles :=
  fun _ hq => step_of_pending_nil hq

end Sys2Proof.Machine
end
